-- ==== Sys2Proof/Word.lean ====
section
/-! DEFINITION. The words of the Chassis Bus: what chapter 11 numbers bit by bit.
Everything the manual counts rather than packs (ages, currents, widths, duties) is a `Nat` or an `Int`. -/

namespace Sys2Proof

/-- One byte of a frame (R146). -/
abbrev Byte := BitVec 8

/-- Two bytes of a frame, or a time stamp of the 16-bit capture timer (R65). -/
abbrev Half := BitVec 16

end Sys2Proof
end

