-- ==== Sys2Proof/Syntax.lean ====
section
/-! DEFINITION. The commands a station takes: one constructor of `Instr` for each row of spec/opcode_table.json,
with what the outside brings along with the event (a received frame, a time stamp, a sensed current, pin levels). -/

namespace Sys2Proof

/-- The five roles; each is also the owner of one role address (R1). -/
inductive Role where
  | front | rear | winch | pack | lamp
deriving DecidableEq, Repr

/-- The three addresses that can publish DEMAND: 0, 1 and 4 (R19). -/
inductive Publisher where
  | front | rear | lamp
deriving DecidableEq, Repr

/-- A level of CBL (R146). -/
inductive Level where
  | dominant | recessive
deriving DecidableEq, Repr

/-- What a receiver read at the middle of a byte's start bit and of its stop bit (R150). -/
structure CharBits where
  start : Level
  stop  : Level
deriving DecidableEq, Repr

/-- A frame as it came in over CBL, apart from its first identifier byte and its data bytes: the pace span in
hundredths of a µs (R148), the start and stop bits of each byte from identifier byte 1 on (R150), the source and
length fields of identifier byte 2, and the check byte received (R151). -/
structure Rx where
  span   : Nat
  chars  : List CharBits
  source : BitVec 4
  length : BitVec 4
  check  : Byte
deriving DecidableEq, Repr

/-- The levels of the strap pins and of CAP0 to CAP5 (bit k is CAPk) when a reset reads them (R1, R66, R80). -/
structure Pins where
  role  : BitVec 3
  radio : Bool
  caps  : BitVec 6
deriving DecidableEq, Repr

/-- A settings table: the value of item `id` stands at place `id`; ids that the manual does not list hold 0. -/
abbrev Settings := List Int

/-- The table in nonvolatile memory, and whether the 16-bit check stored with it matches it (R168, R169; log 6). -/
structure StoredTable where
  items : Settings
  good  : Bool
deriving DecidableEq, Repr

/-- What the pack monitor samples in one scan period: ten shunt samples in whole qA (negative while charging),
the four tap voltages in mV against the pack negative, and the thermistor in whole °C (R21 to R24). -/
structure Scan where
  samples : List Int
  taps    : List Int
  temp    : Int
deriving DecidableEq, Repr

/-- A current as a comparator sees it: the qA it has reached, and whether it stands above that figure by a fraction of
a qA. Where a figure of it is recorded it is rounded down to `whole` (R34; log 30). -/
structure Current where
  whole : Nat
  above : Bool
deriving DecidableEq, Repr

/-- An edge of CAP0 in Train mode: its direction, and the capture timer's count there (R65, R66). -/
structure Edge where
  rising : Bool
  stamp  : Half
deriving DecidableEq, Repr

/-- How the station's own frame left the shift buffer (R149, R154, R157, R158, R159), with the pace span the sender
measured itself, in hundredths of a µs, where it came that far (R148). -/
inductive SendEnd where
  /-- sent to the end of the echo slot; what the echo slot and the first bit of the End read (dominant = true) -/
  | complete (span : Nat) (heard mark : Bool)
  /-- a recessive bit sent and a dominant one read within the identifier (R157) -/
  | lostArbitration (span : Nat)
  /-- any other mismatch, and the abandonment of a sender whose own span is a pace error (R149, R158); no span before
  the end of the Pace -/
  | bitCollision (span : Option Nat)
  /-- no Lead end within 4 bit times of the sender's Lead (R149) -/
  | stuck
deriving DecidableEq, Repr

/-- The commands: one constructor per row of spec/opcode_table.json, in the table's order. The frames carry their data
bytes as received, cut at the places of section 11.3 where the row has several operands: a frame shorter than its
layout leaves the last places empty, and the last place of one that is longer takes the surplus. `steps` of the join
window counts the 8 µs of recessive line since the last command of the port or 1 ms step (R155; log 32). -/
inductive Instr where
  | powerOnReset (pins : Pins)
  | pinReset (pins : Pins)
  | startTimerExpiry
  | stationTimerExpiry
  | stationFrame (rx : Rx) (data : List Byte)
  | demandFrame (rx : Rx) (data : List Byte)
  | allowanceFrame (rx : Rx) (data : List Byte)
  | winchFrame (rx : Rx) (data : List Byte)
  | tripFrame (rx : Rx) (data : List Byte)
  | answerFrame (rx : Rx) (data : List Byte)
  | hold (rx : Rx) (data : List Byte)
  | setting (rx : Rx) (target id value : List Byte)
  | release (rx : Rx) (data : List Byte)
  | restart (rx : Rx) (data : List Byte) (pins : Pins)
  | commitEnd (stored : StoredTable) (pins : Pins)
  | fetchSummary (rx : Rx) (target : Byte) (index : List Byte)
  | fetchPeer (rx : Rx) (target : Byte) (index : List Byte)
  | fetchIncident (rx : Rx) (target : Byte) (index : List Byte)
  | fetchSetting (rx : Rx) (target : Byte) (index : List Byte)
  | fetchShare (rx : Rx) (target : Byte) (index : List Byte)
  | fetchCells (rx : Rx) (target : Byte) (index : List Byte)
  | fetchScan (rx : Rx) (target : Byte) (index : List Byte)
  | fetchCapture (rx : Rx) (target : Byte) (index : List Byte)
  | fetchWinch (rx : Rx) (target : Byte) (index : List Byte)
  | fetchBridge (rx : Rx) (target : Byte) (index : List Byte)
  | demandSourceExpiry (address : Publisher)
  | demandRecordStale
  | demandRecordLost
  | allowanceRecordLost
  | winchRecordLost
  | peerPresenceChange (peer : Role)
  | scanCompletion (scan : Scan)
  | checkTimerExpiry
  | cutgraceExpiry
  | packTrip (current : Current)
  | holdTimerExpiry
  | quietTimerExpiry
  | shareTimerExpiry
  | captureEdge (channel : Fin 6) (rising : Bool) (stamp : Half)
  | trainEdge (edge : Edge)
  | longFlag (channel : Fin 6)
  | channelBandChange (channel : Fin 6)
  | armingTimerExpiry
  | demandTimerExpiry
  | splitTimerExpiry
  | servoFrameTimerExpiry
  | servoPulseEnd
  | periodStart
  | dutyStep (samples : List Int)
  | cycleLimit (current : Current)
  | oneShotTrip (current : Current)
  | dwellTimerExpiry
  | rearmTimerExpiry
  | windowTimerExpiry
  | drivenTimerExpiry
  | hallEdge (stamp : Half)
  | homeActivation
  | homeRelease
  | stallTimerExpiry
  | starveTimerExpiry
  | winchTimerExpiry
  | blinkStep
  | fadeTimerExpiry
  | busIdle
  | joinWindow (steps : Nat)
  | lineStuck
  | frameSendEnd (outcome : SendEnd)
  | shortDominantRun
  | unknownTopicFrame (first : Byte) (rx : Rx) (data : List Byte)
  | fetchUnknownKind (rx : Rx) (target kind index : List Byte)
deriving DecidableEq, Repr

end Sys2Proof
end

