-- ==== Sys2Proof/Decode.lean ====
section
/-! DEFINITION. The command a word of the opcode table spells. No row of spec/opcode_table.json gives a match, a mask
or a bit pattern (the rows are events of a block, not encoded instructions), so no word spells a command (log 4).
The frames of the Chassis Bus are decoded where they arrive (Machine/Operands.lean). -/

namespace Sys2Proof

/-- The command spelled by the low `nbits` bits of `w` under the table's encodings: there are none. -/
def decodeTableWord (_nbits _w : Nat) : Option Instr := none

end Sys2Proof
end

