-- ==== Sys2Proof/Config.lean ====
section
/-! DEFINITION. What the manual leaves open and the model leaves free. -/

namespace Sys2Proof

/-- FREE VALUE (log 3). Where two timed events of the station fall on the same 1 ms step the manual says
that "either may be taken first" (R4, R29, R76, R87, R92, ...). This constant has no body: it gives, for the
`t`-th tick, the place that the `i`-th due event takes in the order, and for `i` 0 the place of the step of the ages with
the crossings it brings; nothing can be proved of it. -/
opaque Config.tickOrder (t i : Nat) : Nat

/-- FREE VALUE (log 32). How many of the 8 µs of CBL's recessive count end between the last command of the port and the
`t`-th 1 ms step: a command falls at any moment of its ms (R155). This constant has no body. -/
opaque Config.quietSteps (t : Nat) : Nat

/-- FREE VALUE (log 38). Whether a split condition that begins on a FRONT bank of 3 sets BANK-SPLIT and records its
incident: R86 says that every beginning does, the closing sentence of R172 that no out-of-range value does. This constant
has no body. -/
opaque Config.thirdBankNoted : Bool

end Sys2Proof
end

