-- ==== Sys2Proof/Machine/Settings.lean ====
section
/-! DEFINITION. The settings table of section 10.6: ids, ranges, defaults and groups, and the checks of R169. -/

namespace Sys2Proof.Machine

/-- One row of the settings table of section 10.6. -/
structure SettingRow where
  id : Nat
  lo : Int
  hi : Int
  dflt : Int
deriving DecidableEq, Repr

/-- Group Capture, ids 0 to 25. -/
def captureRows : List SettingRow :=
  [⟨0, 0, 1, 0⟩, ⟨1, 0, 1, 0⟩] ++
    (List.range 6).flatMap fun c =>
      [⟨2 + 4 * c, 1000, 2000, 1500⟩, ⟨3 + 4 * c, 100, 700, 500⟩, ⟨4 + 4 * c, 0, 200, 30⟩, ⟨5 + 4 * c, 0, 1, 0⟩]

/-- Group Steering, ids 32 to 45. -/
def steeringRows : List SettingRow :=
  [⟨32, -1000, 1000, 1000⟩, ⟨33, -1000, 1000, 0⟩, ⟨34, -1000, 1000, 1000⟩, ⟨35, -1000, 1000, -800⟩,
   ⟨36, -1000, 1000, 1000⟩, ⟨37, -1000, 1000, 800⟩, ⟨38, 0, 300, 60⟩, ⟨39, 1000, 2000, 1500⟩, ⟨40, 100, 700, 400⟩,
   ⟨41, 800, 2200, 1100⟩, ⟨42, 800, 2200, 1900⟩, ⟨43, 0, 1, 0⟩, ⟨44, 0, 3, 2⟩, ⟨45, 0, 200, 0⟩]

/-- Group Traction, ids 48 to 55. -/
def tractionRows : List SettingRow :=
  [⟨48, 200, 1000, 1000⟩, ⟨49, 0, 100, 30⟩, ⟨50, 0, 500, 50⟩, ⟨51, 1, 1000, 1000⟩, ⟨52, 1, 32, 16⟩, ⟨53, 4, 200, 120⟩,
   ⟨54, 8, 255, 200⟩, ⟨55, 0, 1000, 600⟩]

/-- Group Winch, ids 64 to 73. -/
def winchRows : List SettingRow :=
  [⟨64, 100, 30000, 4000⟩, ⟨65, 100, 1000, 800⟩, ⟨66, 100, 1000, 600⟩, ⟨67, 100, 500, 300⟩, ⟨68, 4, 200, 60⟩,
   ⟨69, 4, 200, 20⟩, ⟨70, 4, 100, 16⟩, ⟨71, 4, 200, 56⟩, ⟨72, 100, 2000, 300⟩, ⟨73, 0, 100, 6⟩]

/-- Group Pack, ids 80 to 95. -/
def packRows : List SettingRow :=
  [⟨80, 2, 4, 3⟩, ⟨81, 3000, 3900, 3450⟩, ⟨82, 2900, 3800, 3350⟩, ⟨83, 2700, 3600, 3150⟩, ⟨84, 10, 300, 80⟩,
   ⟨85, 1, 20, 5⟩, ⟨86, 8, 255, 160⟩, ⟨87, 0, 255, 40⟩, ⟨88, 3000, 4000, 3550⟩, ⟨89, 2700, 3900, 3250⟩,
   ⟨90, 20, 100, 60⟩, ⟨91, 30, 120, 80⟩, ⟨92, 0, 40, 8⟩, ⟨93, 1, 255, 4⟩, ⟨94, 16, 255, 240⟩, ⟨95, 0, 10000, 3000⟩]

/-- Group Shares, id 96. -/
def shareRows : List SettingRow := [⟨96, 0, 255, 20⟩]

/-- Group Lamps, ids 112 to 137. -/
def lampRows : List SettingRow :=
  ((List.range 8).flatMap fun n =>
    [⟨112 + 3 * n, 0, 11, 0⟩, ⟨113 + 3 * n, 0, 7, 7⟩, ⟨114 + 3 * n, 0, 2000, 0⟩]) ++
    [⟨136, 1, 255, 32⟩, ⟨137, 100, 900, 300⟩]

/-- The settings groups with their incident details (R169 step 2, section 11.5). -/
def settingGroups : List (Nat × List SettingRow) :=
  [(1, captureRows), (2, steeringRows), (3, tractionRows), (4, winchRows), (5, packRows), (6, shareRows), (7, lampRows)]

/-- Every row of the settings table. -/
def settingRows : List SettingRow :=
  captureRows ++ steeringRows ++ tractionRows ++ winchRows ++ packRows ++ shareRows ++ lampRows

/-- The row of a setting id; `none` for an id that is not in section 10.6. -/
def settingRow (id : Nat) : Option SettingRow := settingRows.find? fun r => r.id == id

/-- The number of places of a table: the ids run to 137. -/
def settingPlaces : Nat := 138

/-- Every item at its default. -/
def defaultSettings : Settings :=
  (List.range settingPlaces).map fun id => ((settingRow id).map SettingRow.dflt).getD 0

/-- The value of an item. -/
def settingAt (t : Settings) (id : Nat) : Int := t.getD id 0

/-- The value lies in the item's range, both bounds included (R166, R169). -/
def SettingRow.admits (r : SettingRow) (v : Int) : Bool := decide (r.lo ≤ v) && decide (v ≤ r.hi)

/-- The listed items put back to their defaults. -/
def revertRows (rows : List SettingRow) (t : Settings) : Settings :=
  rows.foldl (fun t r => t.set r.id r.dflt) t

/-- The stored items at their places, with 0 at every id that the manual does not list. -/
def storedItems (t : Settings) : Settings :=
  (List.range settingPlaces).map fun id => if (settingRow id).isSome then settingAt t id else 0

/-- A cross-item check of R169 step 3: its incident detail, its condition and the items it reverts. -/
structure CrossCheck where
  detail : Nat
  ids : List Nat

/-- The five cross-item checks with the items they name (R169 step 3). -/
def crossChecks : List CrossCheck :=
  [⟨8, [41, 39, 42]⟩, ⟨9, [83, 82, 81]⟩, ⟨10, [89, 88]⟩, ⟨11, [90, 91]⟩, ⟨12, [54, 53]⟩]

/-- Whether a table passes the cross-item check with that detail (R169 step 3). -/
def crossPasses (t : Settings) : Nat → Bool
  | 8 => decide (settingAt t 41 ≤ settingAt t 39) && decide (settingAt t 39 ≤ settingAt t 42)
  | 9 => decide (settingAt t 83 < settingAt t 82) && decide (settingAt t 82 < settingAt t 81)
  | 10 => decide (settingAt t 89 + 50 ≤ settingAt t 88)
  | 11 => decide (settingAt t 90 + 5 ≤ settingAt t 91)
  | 12 => decide (settingAt t 54 > settingAt t 53)
  | _ => true

/-- R169 step 2: each group with an item outside its range reverts whole; its detail joins the list. -/
def checkGroups (t : Settings) : Settings × List Nat :=
  settingGroups.foldl (fun acc g =>
    if g.2.all (fun r => r.admits (settingAt acc.1 r.id)) then acc else (revertRows g.2 acc.1, acc.2 ++ [g.1])) (t, [])

/-- R169 step 3: each check that fails reverts the items it names; its detail joins the list. -/
def checkCross (t : Settings) : Settings × List Nat :=
  crossChecks.foldl (fun acc c =>
    if crossPasses acc.1 c.detail then acc
    else (revertRows (c.ids.filterMap settingRow) acc.1, acc.2 ++ [c.detail])) (t, [])

/-- R169: the working copy loaded from the stored table, and the details of the SETTINGS-DEFAULTED incidents in the
order they are recorded (0 is ALL). -/
def loadSettings (stored : StoredTable) : Settings × List Nat :=
  if stored.good then
    let g := checkGroups (storedItems stored.items)
    let c := checkCross g.1
    (c.1, g.2 ++ c.2)
  else (defaultSettings, [0])

end Sys2Proof.Machine
end

