-- ==== Sys2Proof/Machine/State.lean ====
section
/-! DEFINITION. The state of one station as plain data. Each field's default value is the value its chapter gives
"after every reset"; `State.reset` adds what the START event of R1, R4, R11 and R169 does on valid straps. -/

namespace Sys2Proof.Machine

/-! ### Station controller (chapter 1) -/

/-- The four station states (section 1.2). -/
inductive StationState where
  | start | setup | run | halt
deriving DecidableEq, Repr

/-- The eight fault flags (R12). -/
structure FaultSet where
  bridgeTrip : Bool := false
  bridgeLatched : Bool := false
  winchStall : Bool := false
  bankSplit : Bool := false
  demandConflict : Bool := false
  sensor : Bool := false
  settingsDefaulted : Bool := false
  packFault : Bool := false
deriving DecidableEq, Repr

/-- A settings commit in progress: who asked for it and how many ms it has run (R168). -/
structure Commit where
  requester : BitVec 4
  elapsed : Nat
deriving DecidableEq, Repr

/-- The station controller (section 1.9). A timer that is `some k` runs with `k` ms left; `none` is stopped. -/
structure Controller where
  role : BitVec 3 := 0
  radio : Bool := false
  station : StationState := .start
  failsafe : Bool := false
  demandHold : Bool := false
  isolated : Bool := false
  faults : FaultSet := {}
  startTimer : Option Nat := none
  stationTimer : Option Nat := none
  commit : Option Commit := none
  /-- the settings working copy, which SETTING writes (R166) -/
  working : Settings := defaultSettings
  /-- the settings the blocks took at the end of START's checks and hold until the next reset (section 10.4) -/
  held : Settings := defaultSettings
deriving DecidableEq, Repr

/-- Presence of a Peer Table entry (R14). -/
inductive Presence where
  | absent | live | stale | lost
deriving DecidableEq, Repr

/-- One Peer Table entry (section 1.5), its published fields as the frame carried them (R172). -/
structure Peer where
  presence : Presence := .absent
  age : Nat := 65535
  stateByte : Byte := 0
  faults : Byte := 0
  cues : Byte := 0
  phase : Byte := 0
  wantK : Byte := 0
  wantA : Byte := 0
  wantB : Byte := 0
  wantC : Byte := 0
deriving DecidableEq, Repr

/-- The Peer Table: one entry for each role address (section 1.5). -/
structure Peers where
  front : Peer := {}
  rear : Peer := {}
  winch : Peer := {}
  pack : Peer := {}
  lamp : Peer := {}
deriving DecidableEq, Repr

/-- Presence band of a record or a channel (R17, R71); `none` is a record not held, or a channel never refreshed. -/
inductive Band where
  | none | fresh | stale | lost
deriving DecidableEq, Repr

/-- The DEMAND record (section 1.6): the fields as received (R172), throttle and steer limited at acceptance. -/
structure DemandRecord where
  held : Bool := false
  source : Option Publisher := none
  age : Nat := 65535
  band : Band := .none
  throttle : Int := 0
  steer : Int := 0
  bankRequest : Byte := 0
  digSelection : Byte := 0
  winchCommand : BitVec 4 := 0
  scene : BitVec 4 := 0
  link : BitVec 2 := 0
  armed : Bool := false
  quality : BitVec 5 := 0
deriving DecidableEq, Repr

/-- The ALLOWANCE record (section 1.6). -/
structure AllowanceRecord where
  held : Bool := false
  source : Option Role := none
  age : Nat := 65535
  band : Band := .none
  allowance : Byte := 0
  packState : Byte := 0
  vMin : Half := 0
  current : Byte := 0
  temperature : Byte := 0
deriving DecidableEq, Repr

/-- The WINCH record (section 1.6). -/
structure WinchRecord where
  held : Bool := false
  source : Option Role := none
  age : Nat := 65535
  band : Band := .none
  winchState : Byte := 0
  tension : Byte := 0
  position : Half := 0
  flags : Byte := 0
  stallCount : Byte := 0
deriving DecidableEq, Repr

/-- The Latest Records, the three DEMAND ages (`none` is "not heard") and the demand source (R16, R19). -/
structure Latest where
  demand : DemandRecord := {}
  allowance : AllowanceRecord := {}
  winch : WinchRecord := {}
  ageFront : Option Nat := none
  ageRear : Option Nat := none
  ageLamp : Option Nat := none
  source : Option Publisher := none
deriving DecidableEq, Repr

/-! ### Bus port (chapter 9) -/

/-- The port states (R155). -/
inductive PortState where
  | waitIdle | idle | lead | receive | send
deriving DecidableEq, Repr

/-- The kinds of receive error (R152). -/
inductive RxError where
  | framing | format | check | pace | stuck
deriving DecidableEq, Repr

/-- The topics a station may send, in identifier order (R160). -/
inductive TxTopic where
  | allowance | trip | demand | winch | station | answer
deriving DecidableEq, Repr

/-- The transmit queue: at most one waiting frame of each topic, given by its data bytes (R160). -/
structure Slots where
  allowance : Option (List Byte) := none
  trip : Option (List Byte) := none
  demand : Option (List Byte) := none
  winch : Option (List Byte) := none
  station : Option (List Byte) := none
  answer : Option (List Byte) := none
deriving DecidableEq, Repr

/-- The shift buffer: the frame in transmission, its bytes from identifier byte 1 to the check byte, and whether its
topic was withdrawn since the copy was taken (R160, R161). -/
structure Shift where
  topic : TxTopic
  data : List Byte
  wire : List Byte
  withdrawn : Bool
deriving DecidableEq, Repr

/-- What the port drove after the check byte of the frame it last received. The MODEL's own field (log 7). -/
inductive EchoMark where
  | silent | echo | clashMark
deriving DecidableEq, Repr

/-- The bus port (chapter 9, section 9.10, R9). -/
structure BusPort where
  port : PortState := .waitIdle
  recessive : Nat := 0
  slots : Slots := {}
  shift : Option Shift := none
  /-- five measured bit times of the last frame seen, in hundredths of a µs (R148); 0 before the first -/
  paceSpan : Nat := 0
  unheard : Nat := 0
  isolation : Bool := false
  rxErrors : Nat := 0
  lastError : Option RxError := none
  lostArbitrations : Nat := 0
  collisions : Nat := 0
  /-- the dominant run in progress was already counted as Stuck (R152: "once"); while it lasts the recessive count stays
  at 0. The MODEL's own field (log 23) -/
  stuckCounted : Bool := false
  echo : EchoMark := .silent
deriving DecidableEq, Repr

/-! ### Capture unit and demand builder (chapter 4) -/

/-- An open measurement: the first edge's time stamp and the long flag (R65). -/
structure Measure where
  start : Half
  long : Bool := false
deriving DecidableEq, Repr

/-- The zone of a switch channel (R73). -/
inductive Zone where
  | none | low | mid | high
deriving DecidableEq, Repr

/-- One channel record (R71). -/
structure Channel where
  width : Nat := 0
  value : Int := 0
  zone : Zone := .none
  age : Nat := 65535
  band : Band := .none
deriving DecidableEq, Repr

/-- The Train mode state (R69); `wait` is `inFrame = false`, `prev` the previous active edge. DESIGN CHOICE (log 33):
after a reset the slot index is 0 and the incomplete flag clear; R69 gives the train state WAIT only. -/
structure Train where
  prev : Option Measure := none
  inFrame : Bool := false
  slot : Nat := 0
  incomplete : Bool := false
deriving DecidableEq, Repr

/-- The capture unit (section 4.10). `opened` holds the open measurement of each pin in Separate mode. -/
structure Capture where
  timer : Half := 0
  /-- µs by which the edges' time stamps have moved the timer past the last 1 ms step. The MODEL's own field (log 31) -/
  ahead : Nat := 0
  opened : List (Option Measure) := List.replicate 6 none
  train : Train := {}
  channels : List Channel := List.replicate 6 {}
  rejected : Nat := 0
deriving DecidableEq, Repr

/-- The link state (R75). -/
inductive Link where
  | good | hold | lost
deriving DecidableEq, Repr

/-- The demand builder (section 4.6). `history` is oldest first; `published` says the last publication moment queued. -/
structure DemandBuilder where
  link : Link := .lost
  armed : Bool := false
  armingTimer : Option Nat := none
  history : List Bool := List.replicate 16 false
  demandTimer : Option Nat := none
  published : Bool := false
deriving DecidableEq, Repr

/-! ### Steering unit (chapter 5) -/

/-- The steering modes (R88). -/
inductive SteerMode where
  | quiet | centre | split | follow
deriving DecidableEq, Repr

/-- The steering unit (section 5.10). Widths are in µs; `output` 0 means that no pulses are emitted. The two µs timers
hold the µs left, at or below 0 once they are due within a 1 ms tick. DESIGN CHOICE (log 34): after a reset on a strap
fault, which loads no settings, the shadow is 1500, the default of ServoCentre; on valid straps it is ServoCentre. -/
structure Steering where
  active : Nat := 0
  pending : Option Nat := none
  mode : SteerMode := .quiet
  target : Int := 0
  shadow : Int := 1500
  output : Int := 0
  srv : Bool := false
  frameTimer : Option Int := none
  pulseTimer : Option Int := none
  splitTimer : Option Nat := none
  split : Bool := false
deriving DecidableEq, Repr

/-! ### Bridge unit (chapter 6) -/

/-- The drive states (R97). -/
inductive DriveState where
  | off | driveFwd | driveRev | brake | dwell | tripped | latched
deriving DecidableEq, Repr

/-- A direction of drive: forward or inward is `plus` (R101, R112). -/
inductive Sign where
  | plus | minus
deriving DecidableEq, Repr

/-- What one PWM period applies: a drive state with the applied duty in ‰ or the brake level in % (R96). -/
structure Applied where
  state : DriveState := .off
  duty : Nat := 0
  level : Nat := 0
deriving DecidableEq, Repr

/-- The bridge unit (section 6.8). -/
structure Bridge where
  driveState : DriveState := .off
  brakeLevel : Nat := 0
  d : Int := 0
  outDuty : Int := 0
  /-- the duty shadow: what the next period is to apply -/
  shadow : Applied := {}
  /-- the pattern on the gates in the present period -/
  applied : Applied := {}
  /-- the driving high gate is off for the rest of the period (R105); `gatesOf` reads it -/
  cut : Bool := false
  /-- the period timer runs (R96, R111) -/
  periodTimer : Bool := false
  lastSign : Option Sign := none
  dwellTimer : Option Nat := none
  pendingSign : Option Sign := none
  activeDig : Nat := 0
  pendingDig : Option Nat := none
  tripLevel : Nat := 0
  limited : Nat := 0
  current : Nat := 0
  tripped : Bool := false
  latched : Bool := false
  tripCount : Nat := 0
  /-- ms since the last one-shot trip, saturating; `none` if none since the reset -/
  sinceTrip : Option Nat := none
  rearmTimer : Option Nat := none
  windowTimer : Option Nat := none
  drivenTimer : Option Nat := none
  /-- the assist cap in ‰ while it is in force (R103) -/
  assist : Option Nat := none
deriving DecidableEq, Repr

/-! ### Winch controller (chapter 7) -/

/-- The winch states (section 7.3). -/
inductive WinchState where
  | locked | hold | haul | payout | stalled | starved | endIn | endOut
deriving DecidableEq, Repr

/-- The effective command (R117). -/
inductive WinchCommand where
  | hold | inward | outward
deriving DecidableEq, Repr

/-- The winch controller (section 7.10). `ramp` is the ms since the entry to HAUL, held at 200 once the duty is full;
it is there from the entry to HAUL until HAUL ends (R120). -/
structure Winch where
  position : Int := 0
  homed : Bool := false
  state : WinchState := .locked
  starvedFrom : Option WinchState := none
  command : WinchCommand := .hold
  lock : Bool := false
  ramp : Option Nat := none
  stallTimer : Option Nat := none
  starveTimer : Option Nat := none
  holdOff : Bool := false
  tension : Nat := 0
  stallCount : Nat := 0
  recordTimer : Option Nat := none
  hallEdges : Nat := 0
  activations : Nat := 0
  msInState : Nat := 0
deriving DecidableEq, Repr

/-! ### Pack monitor (chapter 2) -/

/-- The pack states (section 2.3). -/
inductive PackState where
  | check | normal | limit | reserve | cutoff | tripped | fault
deriving DecidableEq, Repr

/-- The three consecutive-scan counters of a cell (R26). -/
structure CellCounters where
  warn : Nat := 0
  reserve : Nat := 0
  cut : Nat := 0
deriving DecidableEq, Repr

/-- The scan results table (R25). -/
structure ScanTable where
  cells : List Nat := List.replicate 4 0
  vMin : Nat := 0
  current : Nat := 0
  temp : Int := 0
  sensorFault : Bool := false
  scans : Nat := 0
deriving DecidableEq, Repr

/-- The pack monitor (section 2.11). `closed` is the main switch, `quietPhase` the phase after the hold timer (R36). -/
structure Pack where
  table : ScanTable := {}
  counters : List CellCounters := List.replicate 4 {}
  recovery : Nat := 0
  plausibility : Nat := 0
  state : PackState := .check
  closed : Bool := false
  tripCount : Nat := 0
  latched : Bool := false
  returnState : Option PackState := none
  checkTimer : Option Nat := none
  cutGrace : Option Nat := none
  holdTimer : Option Nat := none
  quietTimer : Option Nat := none
  quietPhase : Bool := false
  trim : Nat := 0
  rampCap : Nat := 0
  aPrev : Nat := 0
deriving DecidableEq, Repr

/-! ### Share unit (chapter 3) -/

/-- One figure in qA for each tier (section 3.1). -/
structure Tiers where
  k : Nat := 0
  a : Nat := 0
  b : Nat := 0
  c : Nat := 0
deriving DecidableEq, Repr

/-- The basis of the allowance used (R49). -/
inductive Basis where
  | none | record | trip | blind
deriving DecidableEq, Repr

/-- The causes of a share computation (R52). -/
inductive ShareCause where
  | entry | timer | lower | trip
deriving DecidableEq, Repr

/-- The share unit (section 3.9). -/
structure Share where
  wants : Tiers := {}
  grants : Tiers := {}
  value : Nat := 0
  basis : Basis := .none
  age : Nat := 65535
  tripHold : Bool := false
  timer : Option Nat := none
  count : Nat := 0
  cause : Option ShareCause := none
deriving DecidableEq, Repr

/-! ### Lamp unit (chapter 8) -/

/-- The part of a lamp record that moves (R132); function, rank and nominal are settings. -/
structure Lamp where
  base : Nat := 0
  effective : Nat := 0
  level : Nat := 0
  shed : Bool := false
deriving DecidableEq, Repr

/-- The scene cue (R134). -/
inductive Scene where
  | dark | run | full
deriving DecidableEq, Repr

/-- The cues (section 8.2) and the published HAZARD-REQUEST flag (R135). -/
structure Cues where
  braking : Bool := false
  reversing : Bool := false
  left : Bool := false
  right : Bool := false
  winchWorking : Bool := false
  hazard : Bool := false
  scene : Scene := .dark
  hazardRequest : Bool := false
deriving DecidableEq, Repr

/-- The lamp unit (section 8.9). `scale` is the held pair of grant K and want K while a rank-0 scale is in force. -/
structure LampUnit where
  lamps : List Lamp := List.replicate 8 {}
  cues : Cues := {}
  phase : Nat := 0
  blinkTimer : Option Nat := none
  fadeTimer : Option Nat := none
  scale : Option (Nat × Nat) := none
  wantK : Nat := 0
  wantC : Nat := 0
deriving DecidableEq, Repr

/-! ### Incident List (R163) -/

/-- The incident codes, in the order of section 11.5 (1 to 16). -/
inductive IncidentCode where
  | cellWarn | cellReserve | cellCut | packTrip | tripLatched | packFault | sensor | bridgeTrip | bridgeLatched
  | winchStall | demandLost | isolated | bankSplit | demandConflict | settingsDefaulted | settingsWrite
deriving DecidableEq, Repr

/-- One entry of the Incident List. -/
structure Incident where
  code : IncidentCode
  time : Nat
  detail : Half
deriving DecidableEq, Repr

/-- The Incident List, oldest first, and the incident clock. -/
structure IncidentLog where
  entries : List Incident := []
  clock : Nat := 0
deriving DecidableEq, Repr

/-! ### The station -/

/-- The whole station, and the commands that wait for it, first in, first out. -/
structure State where
  pending : List Instr := []
  /-- the MODEL's own count of ticks, which the free order of Config.tickOrder is applied to (log 3) -/
  ticks : Nat := 0
  pins : Pins := ⟨0, false, 0⟩
  nvm : StoredTable := ⟨defaultSettings, true⟩
  ctl : Controller := {}
  peers : Peers := {}
  latest : Latest := {}
  port : BusPort := {}
  cap : Capture := {}
  dem : DemandBuilder := {}
  steer : Steering := {}
  bridge : Bridge := {}
  winch : Winch := {}
  pack : Pack := {}
  share : Share := {}
  lamp : LampUnit := {}
  log : IncidentLog := {}
deriving DecidableEq, Repr

/-- Why a station's step faults: the manual names no event that stops the part with a fault, so there is none. -/
inductive Fault where
deriving DecidableEq, Repr

/-- Why a step is refused. -/
inductive Refusal where
  /-- raised by `exec` for a row that has no meaning yet (none does); safe: the machine stops -/
  | notModelled (mnemonic : String)
deriving DecidableEq, Repr

/-- The station right after a power-on reset: every field at its chapter's "after every reset" value, START begun on
valid straps (R1, R4, R11), the first STATION queued. The pins read low (role FRONT, RADIO 0) and the stored table
holds the defaults with a good check: log 1. -/
def State.reset : State where
  ctl := { startTimer := some 300, stationTimer := some 20 }
  port := { slots := { station := some [0x00, 0x00, 0x04, 0x00, 0x00, 0x00, 0x00, 0x00] } }
  lamp := { blinkTimer := some 3 }

end Sys2Proof.Machine
end

