-- ==== Sys2Proof/Machine/Ops.lean ====
section
/-! DEFINITION. Shared operations: block updates, arithmetic of the conventions, timers, settings by name, the
Incident List (R163) and the transmit queue (R160, R161). -/

namespace Sys2Proof.Machine

/-! ### Block updates (one block replaced, every other one kept) -/

/-- The `ctl` block replaced. -/
def State.setCtl (s : State) (x : Controller) : State := { s with ctl := x }

/-- The `peers` block replaced. -/
def State.setPeers (s : State) (x : Peers) : State := { s with peers := x }

/-- The `latest` block replaced. -/
def State.setLatest (s : State) (x : Latest) : State := { s with latest := x }

/-- The `port` block replaced. -/
def State.setPort (s : State) (x : BusPort) : State := { s with port := x }

/-- The `cap` block replaced. -/
def State.setCap (s : State) (x : Capture) : State := { s with cap := x }

/-- The `dem` block replaced. -/
def State.setDem (s : State) (x : DemandBuilder) : State := { s with dem := x }

/-- The `steer` block replaced. -/
def State.setSteer (s : State) (x : Steering) : State := { s with steer := x }

/-- The `bridge` block replaced. -/
def State.setBridge (s : State) (x : Bridge) : State := { s with bridge := x }

/-- The `winch` block replaced. -/
def State.setWinch (s : State) (x : Winch) : State := { s with winch := x }

/-- The `pack` block replaced. -/
def State.setPack (s : State) (x : Pack) : State := { s with pack := x }

/-- The `share` block replaced. -/
def State.setShare (s : State) (x : Share) : State := { s with share := x }

/-- The `lamp` block replaced. -/
def State.setLamp (s : State) (x : LampUnit) : State := { s with lamp := x }

/-- The `log` block replaced. -/
def State.setLog (s : State) (x : IncidentLog) : State := { s with log := x }

/-- The `pins` block replaced. -/
def State.setPins (s : State) (x : Pins) : State := { s with pins := x }

/-- The `nvm` block replaced. -/
def State.setNvm (s : State) (x : StoredTable) : State := { s with nvm := x }

/-! ### Arithmetic (Conventions) -/

/-- A count that adds 1 and saturates at `top`. -/
def satSucc (top n : Nat) : Nat := min (n + 1) top

/-- A 16-bit age or count that adds 1 and saturates at 65535. -/
def ageStep (n : Nat) : Nat := satSucc 65535 n

/-- A value limited to the range from `lo` to `hi`. -/
def limitTo (lo hi x : Int) : Int := max lo (min hi x)

/-- A quotient rounded up. -/
def ceilDiv (a b : Nat) : Nat := (a + b - 1) / b

/-- A quotient of signed values rounded toward zero. -/
def towardZero (a b : Int) : Int := Int.tdiv a b

/-- `x` moved toward `target` by at most `step`. -/
def moveToward (step x target : Int) : Int :=
  if (target - x).natAbs ≤ step.toNat then target else if x < target then x + step else x - step

/-- The list of the values of `f` at 0 to n − 1. -/
def tab {α : Type} (n : Nat) (f : Nat → α) : List α := (List.range n).map f

/-- One 1 ms step of a running timer; a stopped timer stays stopped. -/
def tickTimer (t : Option Nat) : Option Nat := t.map (· - 1)

/-- A timer that runs and has no time left. -/
def due (t : Option Nat) : Bool := t == some 0

/-! ### The capture timer (R65) -/

/-- The timer at `timer` that moves on by `d` comes round to the first edge's count of an open measurement. -/
def passesStart (timer : Half) (d : Nat) (m : Measure) : Bool :=
  decide (0 < (m.start - timer).toNat) && decide ((m.start - timer).toNat ≤ d)

/-- An open measurement as the timer moves on by `d`: its long flag is set as its count comes round (R65). -/
def passMeasure (timer : Half) (d : Nat) (m : Measure) : Measure := { m with long := m.long || passesStart timer d m }

/-- The capture timer moved on by `d` µs, less than a full turn, with the long flags that this sets (R65; log 31). -/
def moveTimer (d : Nat) (c : Capture) : Capture :=
  { c with
    timer := c.timer + BitVec.ofNat 16 d
    opened := c.opened.map (Option.map (passMeasure c.timer d))
    train := { c.train with prev := c.train.prev.map (passMeasure c.timer d) } }

/-- The capture timer at an edge is its time stamp: it has moved on to it since it was last set (R65; log 31). -/
def stampCapture (stamp : Half) (c : Capture) : Capture :=
  let d := (stamp - c.timer).toNat
  { moveTimer d c with ahead := c.ahead + d }

/-- The capture timer at an edge is its time stamp (R65). -/
def stampTimer (stamp : Half) (s : State) : State := s.setCap (stampCapture stamp s.cap)

/-! ### Bytes of a frame: most significant byte first (Conventions) -/

/-- The two bytes of a 16-bit value, more significant first. -/
def bytes2 (h : Half) : List Byte := [h.extractLsb' 8 8, h.extractLsb' 0 8]

/-- A count as two bytes. -/
def natBytes2 (n : Nat) : List Byte := bytes2 (BitVec.ofNat 16 n)

/-- A signed value as two bytes of two's complement. -/
def intBytes2 (x : Int) : List Byte := bytes2 (BitVec.ofInt 16 x)

/-- A count as one byte. -/
def natByte (n : Nat) : Byte := BitVec.ofNat 8 n

/-- A count as four bytes. -/
def natBytes4 (n : Nat) : List Byte := natBytes2 (n / 65536) ++ natBytes2 n

/-- The 16-bit value of two bytes, the more significant first. -/
def half (hi lo : Byte) : Half := hi ++ lo

/-- Byte `k` (from 0) of a frame's data. -/
def byteAt (data : List Byte) (k : Nat) : Byte := data.getD k 0

/-- The byte whose bit `k` is the `k`-th entry from the right: bit 7 comes first in the list. -/
def bitsByte (bits : List Bool) : Byte := bits.foldl (fun acc b => (acc <<< 1) ||| (if b then 1 else 0)) 0

/-- 1 for true, 0 for false. -/
def flagByte (b : Bool) : Byte := if b then 1 else 0

/-! ### Roles (R1, R2) -/

/-- The role a valid ROLE value names (R1). -/
def roleOf (r : BitVec 3) : Option Role :=
  match r.toNat with
  | 0 => some .front
  | 1 => some .rear
  | 2 => some .winch
  | 3 => some .pack
  | 4 => some .lamp
  | _ => none

/-- The bus address of a role (R1). -/
def roleAddress : Role → Nat
  | .front => 0
  | .rear => 1
  | .winch => 2
  | .pack => 3
  | .lamp => 4

/-- The five roles by address. -/
def allRoles : List Role := [.front, .rear, .winch, .pack, .lamp]

/-- The bus address of a DEMAND publisher (R19). -/
def publisherAddress : Publisher → Nat
  | .front => 0
  | .rear => 1
  | .lamp => 4

/-- The three DEMAND publishers by address. -/
def allPublishers : List Publisher := [.front, .rear, .lamp]

/-- The latched role. -/
def roleIs (s : State) (r : Role) : Bool := roleOf s.ctl.role == some r

/-- An axle station: FRONT or REAR. -/
def isAxle (s : State) : Bool := roleIs s .front || roleIs s .rear

/-- A station whose bridge unit is in use (R1). -/
def bridgeInUse (s : State) : Bool := isAxle s || roleIs s .winch

/-- A station whose capture unit is in use (R1). -/
def captureInUse (s : State) : Bool := s.ctl.radio || roleIs s .winch

/-- The station is in RUN. -/
def inRun (s : State) : Bool := s.ctl.station == .run

/-- The station's own bus address (R1). -/
def ownAddress (s : State) : Nat := s.ctl.role.toNat

/-- The straps are a strap fault (R2). -/
def strapFault (p : Pins) : Bool := decide (5 ≤ p.role.toNat) || (p.radio && (p.role == 2 || p.role == 3))

/-! ### Settings held by the blocks (section 10.6) -/

/-- The value a block holds for a setting id. -/
def cfg (s : State) (id : Nat) : Int := settingAt s.ctl.held id

/-- The same for an item that cannot be negative. -/
def cfgN (s : State) (id : Nat) : Nat := (cfg s id).toNat

/-- CaptureMode. -/
def captureMode (s : State) : Nat := cfgN s 0
/-- PulsePolarity. -/
def pulsePolarity (s : State) : Nat := cfgN s 1
/-- CentreBand. -/
def centreBand (s : State) : Nat := cfgN s 38
/-- ServoCentre. -/
def servoCentre (s : State) : Int := cfg s 39
/-- ServoThrow. -/
def servoThrow (s : State) : Int := cfg s 40
/-- ServoMin. -/
def servoMin (s : State) : Int := cfg s 41
/-- ServoMax. -/
def servoMax (s : State) : Int := cfg s 42
/-- ServoReverse. -/
def servoReverse (s : State) : Int := cfg s 43
/-- ServoRate. -/
def servoRate (s : State) : Nat := cfgN s 44
/-- SlewStep. -/
def slewStep (s : State) : Int := cfg s 45
/-- DriveScale. -/
def driveScale (s : State) : Int := cfg s 48
/-- DragBrake. -/
def dragBrake (s : State) : Nat := cfgN s 49
/-- ReverseDwell. -/
def reverseDwell (s : State) : Nat := cfgN s 50
/-- RampStep. -/
def rampStep (s : State) : Int := cfg s 51
/-- PwmFreq. -/
def pwmFreq (s : State) : Nat := cfgN s 52
/-- MotorLimit. -/
def motorLimit (s : State) : Nat := cfgN s 53
/-- MotorTrip. -/
def motorTrip (s : State) : Nat := cfgN s 54
/-- AssistDuty. -/
def assistDuty (s : State) : Nat := cfgN s 55
/-- LineMax. -/
def lineMax (s : State) : Int := cfg s 64
/-- HaulDuty. -/
def haulDuty (s : State) : Nat := cfgN s 65
/-- PayoutDuty. -/
def payoutDuty (s : State) : Nat := cfgN s 66
/-- UnhomedDuty. -/
def unhomedDuty (s : State) : Nat := cfgN s 67
/-- HaulWant. -/
def haulWant (s : State) : Nat := cfgN s 68
/-- PayoutWant. -/
def payoutWant (s : State) : Nat := cfgN s 69
/-- WinchMinimum. -/
def winchMinimum (s : State) : Nat := cfgN s 70
/-- StallLevel. -/
def stallLevel (s : State) : Nat := cfgN s 71
/-- StallTime. -/
def stallTime (s : State) : Nat := cfgN s 72
/-- FreeRun. -/
def freeRun (s : State) : Nat := cfgN s 73
/-- CellCount. -/
def cellCount (s : State) : Nat := cfgN s 80
/-- WarnMv. -/
def warnMv (s : State) : Nat := cfgN s 81
/-- ReserveMv. -/
def reserveMv (s : State) : Nat := cfgN s 82
/-- CutMv. -/
def cutMv (s : State) : Nat := cfgN s 83
/-- HystMv. -/
def hystMv (s : State) : Nat := cfgN s 84
/-- FaultCount. -/
def faultCount (s : State) : Nat := cfgN s 85
/-- PackMax. -/
def packMax (s : State) : Nat := cfgN s 86
/-- ReserveCap. -/
def reserveCap (s : State) : Nat := cfgN s 87
/-- KneeMv. -/
def kneeMv (s : State) : Nat := cfgN s 88
/-- FloorMv. -/
def floorMv (s : State) : Nat := cfgN s 89
/-- HeatKnee. -/
def heatKnee (s : State) : Int := cfg s 90
/-- HeatStop. -/
def heatStop (s : State) : Int := cfg s 91
/-- TrimBand. -/
def trimBand (s : State) : Nat := cfgN s 92
/-- SoftStep. -/
def softStep (s : State) : Nat := cfgN s 93
/-- PackTrip. -/
def packTripLevel (s : State) : Nat := cfgN s 94
/-- CutGrace. -/
def cutGraceMs (s : State) : Nat := cfgN s 95
/-- BlindAllowance. -/
def blindAllowance (s : State) : Nat := cfgN s 96
/-- FadeStep. -/
def fadeStep (s : State) : Nat := cfgN s 136
/-- TurnThreshold. -/
def turnThreshold (s : State) : Int := cfg s 137

/-- Centre_c. -/
def centreOf (s : State) (c : Nat) : Int := cfg s (2 + 4 * c)
/-- HalfSpan_c. -/
def halfSpanOf (s : State) (c : Nat) : Int := cfg s (3 + 4 * c)
/-- Deadband_c. -/
def deadbandOf (s : State) (c : Nat) : Nat := cfgN s (4 + 4 * c)
/-- Reverse_c. -/
def reverseOf (s : State) (c : Nat) : Nat := cfgN s (5 + 4 * c)
/-- Function of output n, numbered as in section 10.6. -/
def functionOf (s : State) (n : Nat) : Nat := cfgN s (112 + 3 * n)
/-- Rank of output n. -/
def rankOf (s : State) (n : Nat) : Nat := cfgN s (113 + 3 * n)
/-- Nominal of output n, mA. -/
def nominalOf (s : State) (n : Nat) : Nat := cfgN s (114 + 3 * n)

/-- The front (REAR: rear) factor of a bank, ‰ (R82). -/
def bankFactor (s : State) (bank : Nat) : Int := cfg s (32 + 2 * bank + (if roleIs s .rear then 1 else 0))

/-! ### Peer Table and DEMAND ages by address -/

/-- The entry of a role address. -/
def Peers.at (p : Peers) : Role → Peer
  | .front => p.front
  | .rear => p.rear
  | .winch => p.winch
  | .pack => p.pack
  | .lamp => p.lamp

/-- The table with the entry of a role address replaced. -/
def Peers.put (p : Peers) (r : Role) (e : Peer) : Peers :=
  match r with
  | .front => { p with front := e }
  | .rear => { p with rear := e }
  | .winch => { p with winch := e }
  | .pack => { p with pack := e }
  | .lamp => { p with lamp := e }

/-- The table with every entry changed in the same way. -/
def Peers.map (p : Peers) (f : Peer → Peer) : Peers := ⟨f p.front, f p.rear, f p.winch, f p.pack, f p.lamp⟩

/-- The DEMAND age of an address; `none` is "not heard" (R19). -/
def Latest.ageOf (l : Latest) : Publisher → Option Nat
  | .front => l.ageFront
  | .rear => l.ageRear
  | .lamp => l.ageLamp

/-- The DEMAND age of an address replaced. -/
def Latest.putAge (l : Latest) (p : Publisher) (a : Option Nat) : Latest :=
  match p with
  | .front => { l with ageFront := a }
  | .rear => { l with ageRear := a }
  | .lamp => { l with ageLamp := a }

/-! ### The Incident List (R163) -/

/-- The list with an entry appended at the incident clock; with eight entries held the oldest is discarded first. -/
def IncidentLog.append (l : IncidentLog) (code : IncidentCode) (detail : Half) : IncidentLog :=
  { l with entries := (if l.entries.length < 8 then l.entries else l.entries.drop (l.entries.length - 7)) ++
      [⟨code, l.clock, detail⟩] }

/-- An incident is recorded (R163). -/
def record (code : IncidentCode) (detail : Half) (s : State) : State := s.setLog (s.log.append code detail)

/-- The fault set replaced (R12). -/
def setFaults (f : FaultSet) (s : State) : State := s.setCtl { s.ctl with faults := f }

/-! ### The transmit queue (R160, R161) -/

/-- The class and topic byte of a topic the station sends (section 11.1). -/
def TxTopic.first : TxTopic → Byte
  | .allowance => 0x01
  | .trip => 0x02
  | .demand => 0x21
  | .winch => 0x41
  | .station => 0x61
  | .answer => 0x82

/-- The slot of a topic. -/
def Slots.at (q : Slots) : TxTopic → Option (List Byte)
  | .allowance => q.allowance
  | .trip => q.trip
  | .demand => q.demand
  | .winch => q.winch
  | .station => q.station
  | .answer => q.answer

/-- The slot of a topic replaced. -/
def Slots.put (q : Slots) (t : TxTopic) (f : Option (List Byte)) : Slots :=
  match t with
  | .allowance => { q with allowance := f }
  | .trip => { q with trip := f }
  | .demand => { q with demand := f }
  | .winch => { q with winch := f }
  | .station => { q with station := f }
  | .answer => { q with answer := f }

/-- The topics in identifier order, lowest first (R160). -/
def topicOrder : List TxTopic := [.allowance, .trip, .demand, .winch, .station, .answer]

/-- The full slot of lowest identifier, with its frame. -/
def Slots.first (q : Slots) : Option (TxTopic × List Byte) :=
  topicOrder.findSome? fun t => (q.at t).map fun f => (t, f)

/-- One bit of the CRC-8 of R151: the register shifted up by one, and the pattern of bits 5, 3, 2, 1 and 0 combined in
where the bit shifted out differs from the covered bit. -/
def crcBit (reg : Byte) (b : Bool) : Byte :=
  if reg.msb != b then (reg <<< 1) ^^^ 0x2F else reg <<< 1

/-- The bits of a byte, most significant first. -/
def bitsOf (x : Byte) : List Bool := [7, 6, 5, 4, 3, 2, 1, 0].map fun k => x.getLsbD k

/-- The check value over the covered bytes (R151). -/
def crc8 (covered : List Byte) : Byte := (covered.flatMap bitsOf).foldl crcBit 0xFF

/-- Identifier byte 2: source address and length (section 11.1). -/
def secondByte (source length : BitVec 4) : Byte := source ++ length

/-- The bytes of a frame as sent, from identifier byte 1 to the check byte (R146, R151). -/
def wireBytes (first : Byte) (source : BitVec 4) (data : List Byte) : List Byte :=
  let covered := first :: secondByte source (BitVec.ofNat 4 data.length) :: data
  covered ++ [crc8 covered]

/-- The port starts a Lead: the full slot of lowest identifier is copied into the shift buffer and left empty (R160). -/
def startSend (s : State) : State :=
  match s.port.slots.first with
  | none => s
  | some (t, data) =>
    s.setPort { s.port with
      port := .send
      recessive := 0
      slots := s.port.slots.put t none
      shift := some ⟨t, data, wireBytes t.first (BitVec.ofNat 4 (ownAddress s)) data, false⟩ }

/-- A frame is queued: it fills its topic's slot or replaces the frame there (R160). A port in IDLE starts its Lead at
that moment (R155). -/
def queueFrame (t : TxTopic) (data : List Byte) (s : State) : State :=
  let s := s.setPort { s.port with slots := s.port.slots.put t (some data) }
  if s.port.port == .idle then startSend s else s

/-- The DEMAND topic is withdrawn: its slot is emptied, and a copy in the shift buffer will not be handed back to it
(R20, R160, R161). -/
def withdrawDemand (s : State) : State :=
  s.setPort { s.port with
    slots := s.port.slots.put .demand none
    shift := s.port.shift.map fun b => if b.topic == .demand then { b with withdrawn := true } else b }

/-- A frame leaves the shift buffer unsent: its copy fills its slot again unless a newer frame stands there or its
topic was withdrawn (R161). -/
def handBack (p : BusPort) : BusPort :=
  match p.shift with
  | none => p
  | some b =>
    if (p.slots.at b.topic).isSome || b.withdrawn then { p with shift := none }
    else { p with shift := none, slots := p.slots.put b.topic (some b.data) }

end Sys2Proof.Machine
end

