-- ==== Sys2Proof/Machine/Operands.lean ====
section
/-! DEFINITION. How a command's operands are read: a frame taken in over CBL (R148, R150 to R152), and the fields of
the record layouts of section 11.2 with the limits of R172. -/

namespace Sys2Proof.Machine

/-! ### Reception -/

/-- What a receiver made of a frame: an error of R152, or the data bytes of an intact frame (R153). -/
inductive Received where
  | error (e : RxError)
  | intact (data : List Byte)
deriving DecidableEq, Repr

/-- A measured bit time of 6.8 to 9.2 µs: a span of 34.0 to 46.0 µs (R148). -/
def paceGood (span : Nat) : Bool := decide (3400 ≤ span) && decide (span ≤ 4600)

/-- A byte is accepted: its start bit read dominant and its stop bit recessive (R150). -/
def charAccepted (c : CharBits) : Bool := c.start == .dominant && c.stop == .recessive

/-- The first `n` bytes came and were accepted (R150). -/
def framed (n : Nat) (chars : List CharBits) : Bool :=
  decide (n ≤ chars.length) && (chars.take n).all charAccepted

/-- The reception of a frame whose first identifier byte is `first`, in the order of detection of R152: the pace, the
two identifier bytes, the length at the end of byte 2, the other bytes, the check byte. -/
def receive (first : Byte) (rx : Rx) (data : List Byte) : Received :=
  let n := rx.length.toNat
  if !paceGood rx.span then .error .pace
  else if !framed 2 rx.chars then .error .framing
  else if 8 < n then .error .format
  else if !framed (3 + n) rx.chars || decide (data.length < n) then .error .framing
  else if crc8 (first :: secondByte rx.source rx.length :: data.take n) ≠ rx.check then .error .check
  else .intact (data.take n)

/-- The operand of a frame that comes in without an error, as its sender drove it at the nominal bit time. -/
def cleanRx (first : Byte) (source : BitVec 4) (data : List Byte) : Rx where
  span := 4000
  chars := List.replicate (3 + data.length) ⟨.dominant, .recessive⟩
  source := source
  length := BitVec.ofNat 4 data.length
  check := crc8 (first :: secondByte source (BitVec.ofNat 4 data.length) :: data)

/-- Whether a topic's layout allows a frame of that many data bytes (section 11.1). -/
def lengthAllowed (first : Byte) (n : Nat) : Bool :=
  match first.toNat with
  | 0x01 => n == 6
  | 0x02 => n == 2
  | 0x21 => n == 8
  | 0x41 => n == 6
  | 0x61 => n == 8
  | 0x81 => n == 3
  | 0x82 => decide (3 ≤ n) && decide (n ≤ 8)
  | 0x83 => n == 4
  | 0x84 => n == 1
  | 0x85 => n == 1
  | 0x86 => n == 1
  | _ => false

/-- The levels a sender drives for a frame, one per bit time: Lead, Pace, and each byte between its start and stop
bit; the echo slot and the End are left recessive (R146). -/
def lineLevels (wire : List Byte) : List Level :=
  List.replicate 14 .dominant ++ [.recessive, .dominant, .recessive, .dominant, .recessive, .dominant] ++
    (wire.flatMap fun b => .dominant :: ((bitsOf b).map fun x => if x then .recessive else .dominant) ++ [.recessive]) ++
    [.recessive]

/-! ### Sensed currents -/

/-- The current stands above a limit in whole qA (R34, R105, R106; log 30). -/
def exceeds (current : Current) (limit : Nat) : Bool :=
  decide (limit < current.whole) || (current.whole == limit && current.above)

/-! ### Addresses -/

/-- The role whose address is the source of a frame (R13). -/
def sourceRole (source : BitVec 4) : Option Role := allRoles.find? fun r => roleAddress r == source.toNat

/-- The DEMAND publisher whose address is the source of a frame (R19). -/
def sourcePublisher (source : BitVec 4) : Option Publisher := allPublishers.find? fun p => publisherAddress p == source.toNat

/-! ### Record layouts (section 11.2) -/

/-- Bits 7 to 4 of a byte. -/
def highNibble (b : Byte) : BitVec 4 := b.extractLsb' 4 4

/-- Bits 3 to 0 of a byte. -/
def lowNibble (b : Byte) : BitVec 4 := b.extractLsb' 0 4

/-- A signed 16-bit field limited to −1000 to +1000 (R172). -/
def commandField (hi lo : Byte) : Int := limitTo (-1000) 1000 (half hi lo).toInt

/-- Link state 2 is LOST, and so is the unnamed code 3 (R172). -/
def linkLost (link : BitVec 2) : Bool := decide (2 ≤ link.toNat)

/-- The presence band of a held DEMAND record (R17). -/
def demandBand (age : Nat) (link : BitVec 2) : Band :=
  if linkLost link || decide (250 < age) then .lost else if 60 < age then .stale else .fresh

/-- The DEMAND record a frame gives at its acceptance (R16, section 11.2, R172). -/
def readDemand (source : Publisher) (data : List Byte) : DemandRecord :=
  let last := byteAt data 7
  let link := last.extractLsb' 6 2
  { held := true, source := some source, age := 0, band := demandBand 0 link
    throttle := commandField (byteAt data 0) (byteAt data 1)
    steer := commandField (byteAt data 2) (byteAt data 3)
    bankRequest := byteAt data 4
    digSelection := byteAt data 5
    winchCommand := highNibble (byteAt data 6)
    scene := lowNibble (byteAt data 6)
    link := link
    armed := last.getLsbD 5
    quality := last.extractLsb' 0 5 }

/-- The ALLOWANCE record a frame gives at its acceptance. -/
def readAllowance (data : List Byte) : AllowanceRecord :=
  { held := true, source := some .pack, age := 0, band := .fresh
    allowance := byteAt data 0
    packState := byteAt data 1
    vMin := half (byteAt data 2) (byteAt data 3)
    current := byteAt data 4
    temperature := byteAt data 5 }

/-- The WINCH record a frame gives at its acceptance. -/
def readWinch (data : List Byte) : WinchRecord :=
  { held := true, source := some .winch, age := 0, band := .fresh
    winchState := byteAt data 0
    tension := byteAt data 1
    position := half (byteAt data 2) (byteAt data 3)
    flags := byteAt data 4
    stallCount := byteAt data 5 }

/-- The Peer Table entry a STATION frame gives (R13). -/
def readStation (data : List Byte) : Peer :=
  { presence := .live, age := 0
    stateByte := byteAt data 0
    faults := byteAt data 1
    cues := byteAt data 2
    phase := byteAt data 3
    wantK := byteAt data 4
    wantA := byteAt data 5
    wantB := byteAt data 6
    wantC := byteAt data 7 }

/-! ### Codes carried in records and answers -/

/-- Pack state codes (section 11.2). -/
def PackState.code : PackState → Byte
  | .check => 0
  | .normal => 1
  | .limit => 2
  | .reserve => 3
  | .cutoff => 4
  | .tripped => 5
  | .fault => 6

/-- Winch state codes (section 11.2). -/
def WinchState.code : WinchState → Byte
  | .locked => 0
  | .hold => 1
  | .haul => 2
  | .payout => 3
  | .stalled => 4
  | .starved => 5
  | .endIn => 6
  | .endOut => 7

/-- Station state codes (section 11.2). -/
def StationState.code : StationState → BitVec 2
  | .start => 0
  | .setup => 1
  | .run => 2
  | .halt => 3

/-- Link state codes (section 11.2). -/
def Link.code : Link → BitVec 2
  | .good => 0
  | .hold => 1
  | .lost => 2

/-- The winch command of a record: 1 IN, 2 OUT, anything else HOLD (R117, R172). -/
def readCommand (c : BitVec 4) : WinchCommand :=
  if c = 1 then .inward else if c = 2 then .outward else .hold

/-- The scene of a record: 1 RUN, 2 FULL, anything else DARK (R134, R172). -/
def readScene (c : BitVec 4) : Scene :=
  if c = 1 then .run else if c = 2 then .full else .dark

end Sys2Proof.Machine
end

