-- ==== Sys2Proof/Machine/Flags.lean ====
section
/-! DEFINITION. Flags and conditions: the state byte, the fault set byte, the cue flags a station publishes, and the
conditions read from records and peers. -/

namespace Sys2Proof.Machine

/-- The state byte as it would be published now (section 11.2). -/
def stateByte (s : State) : Byte :=
  s.ctl.station.code ++
    (bitsByte [s.ctl.failsafe, s.ctl.demandHold, s.ctl.isolated, false, false, false]).extractLsb' 0 6

/-- The fault set as published (section 11.2). -/
def faultByte (f : FaultSet) : Byte :=
  bitsByte [f.bridgeTrip, f.bridgeLatched, f.winchStall, f.bankSplit, f.demandConflict, f.sensor,
    f.settingsDefaulted, f.packFault]

/-! ### The station's own cue flags -/

/-- The station holds dig lock: in RUN, with the active dig selection naming its own axle (R99). -/
def digLock (s : State) : Bool :=
  inRun s && ((roleIs s .front && s.bridge.activeDig == 1) || (roleIs s .rear && s.bridge.activeDig == 2))

/-- BRAKING (R110, R112: kept clear on WINCH). -/
def brakingFlag (s : State) : Bool :=
  isAxle s && (s.bridge.driveState == .brake || s.bridge.driveState == .dwell) && s.bridge.drivenTimer.isSome

/-- REVERSING (R110, R112). -/
def reversingFlag (s : State) : Bool := isAxle s && s.bridge.driveState == .driveRev

/-- BRIDGE-OFF (R110; clear on PACK and LAMP, section 6.8). -/
def bridgeOffFlag (s : State) : Bool :=
  bridgeInUse s &&
    (s.bridge.driveState == .off || s.bridge.driveState == .tripped || s.bridge.driveState == .latched)

/-- DIG-LOCKED (R110). -/
def digLockedFlag (s : State) : Bool := digLock s && s.bridge.driveState == .brake

/-- The winch is at work: HAUL, PAYOUT, STALLED or STARVED (R130). -/
def WinchState.working : WinchState → Bool
  | .haul | .payout | .stalled | .starved => true
  | .locked | .hold | .endIn | .endOut => false

/-- WINCH-WORKING (R130). -/
def workingFlag (s : State) : Bool := roleIs s .winch && inRun s && s.winch.state.working

/-- The active bank a station publishes: that of the steering unit on an axle station, 0 elsewhere (R94). -/
def publishedBank (s : State) : Nat := if isAxle s then s.steer.active else 0

/-- The cue flags byte of a STATION frame (section 11.2). -/
def cueByte (s : State) : Byte :=
  bitsByte [brakingFlag s, reversingFlag s, workingFlag s, s.lamp.cues.hazardRequest, digLockedFlag s, bridgeOffFlag s,
    false, false] ||| natByte (publishedBank s % 4)

/-! ### What a peer's entry shows -/

/-- An entry whose published fields are read: LIVE or STALE (R133, R85). -/
def Peer.heard (p : Peer) : Bool := p.presence == .live || p.presence == .stale

/-- The station state a state byte shows. -/
def shownState (b : Byte) : BitVec 2 := b.extractLsb' 6 2

/-- The entry of a peer as this station reads it: its own address's entry is not used (R13). -/
def peerOf (s : State) (r : Role) : Option Peer := if roleIs s r then none else some (s.peers.at r)

/-- A cue flag (bit 7 BRAKING, 6 REVERSING, 5 WINCH-WORKING, 4 HAZARD-REQUEST) of a heard peer (R133). -/
def peerShows (s : State) (r : Role) (bit : Nat) : Bool :=
  (peerOf s r).any fun p => p.heard && p.cues.getLsbD bit

/-- A peer's entry is LOST (R135). -/
def peerLost (s : State) (r : Role) : Bool := (peerOf s r).any fun p => p.presence == .lost

/-! ### Conditions read from the Latest Records -/

/-- The ALLOWANCE record is FRESH and its pack state code is `least` or above (a code above 6 is read as FAULT,
R172). -/
def allowanceShows (s : State) (least : Nat) : Bool :=
  s.latest.allowance.band == .fresh && decide (least ≤ s.latest.allowance.packState.toNat)

/-- The station's own causes of hazard (R135). -/
def ownHazard (s : State) : Bool :=
  s.ctl.failsafe || peerLost s .front || peerLost s .rear || allowanceShows s 3 ||
    s.latest.allowance.band == .none || s.latest.allowance.band == .lost

/-- A heard peer shows FAILSAFE in its state byte or HAZARD-REQUEST in its cue flags (R135). -/
def peerHazard (s : State) : Bool :=
  allRoles.any fun r => (peerOf s r).any fun p => p.heard && (p.stateByte.getLsbD 5 || p.cues.getLsbD 4)

/-- FAILSAFE of a station in RUN (R10). -/
def failsafeCause (s : State) : Bool :=
  !s.latest.demand.held || s.latest.demand.band == .lost || s.ctl.isolated

/-- DEMAND-HOLD of a station in RUN; never together with FAILSAFE (R8, log 9). -/
def holdCause (s : State) : Bool := s.latest.demand.held && s.latest.demand.band == .stale && !failsafeCause s

/-- FAILSAFE and DEMAND-HOLD evaluated (R8, R10); both are clear outside RUN (section 1.3). -/
def evalConditions (s : State) : State :=
  if inRun s then s.setCtl { s.ctl with failsafe := failsafeCause s, demandHold := holdCause s } else s

/-- A DEMAND accepted is taken: RUN, link GOOD or HOLD, not ISOLATED (R83). -/
def demandTaken (s : State) : Bool := inRun s && !linkLost s.latest.demand.link && !s.ctl.isolated

/-- The throttle is quiet (R37). -/
def throttleQuiet (s : State) : Bool :=
  match s.latest.demand.band with
  | .none | .lost => true
  | .fresh | .stale => s.latest.demand.throttle == 0

/-- An address is current as a DEMAND source: heard at most 250 ms ago (R19). -/
def currentAge (a : Option Nat) : Bool := a.any fun n => decide (n ≤ 250)

/-- The lowest current address, or none (R19). -/
def lowestCurrent (l : Latest) : Option Publisher := allPublishers.find? fun p => currentAge (l.ageOf p)

/-- A DEMAND publisher of lower address than this station is current: the station is silenced (R20, R78). -/
def silenced (s : State) : Bool :=
  allPublishers.any fun p => decide (publisherAddress p < ownAddress s) && currentAge (s.latest.ageOf p)

end Sys2Proof.Machine
end

