-- ==== Sys2Proof/Machine/Lamps.lean ====
section
/-! DEFINITION. The lamp unit (chapter 8): cues, base targets, wants, effective targets, shedding and scaling, the
blink timebase and fading. -/

namespace Sys2Proof.Machine

/-! ### Cues (R133 to R135) -/

/-- Every cue evaluated from the station's own flags, the peers and the records (R133 to R135). -/
def computeCues (s : State) : Cues :=
  let r := s.latest.demand
  let driven := r.band == .fresh || r.band == .stale
  { braking := brakingFlag s || peerShows s .front 7 || peerShows s .rear 7
    reversing := reversingFlag s || peerShows s .front 6 || peerShows s .rear 6
    winchWorking := workingFlag s || peerShows s .winch 5
    left := driven && decide (r.steer < -turnThreshold s)
    right := driven && decide (turnThreshold s < r.steer)
    scene := if driven then readScene r.scene else .dark
    hazard := inRun s && (ownHazard s || peerHazard s)
    hazardRequest := inRun s && ownHazard s }

/-! ### Base and effective targets (R136, R139) -/

/-- TURN-L, TURN-R and AMBER blink (R136). -/
def blinkFunction (f : Nat) : Bool := f == 7 || f == 8 || f == 11

/-- The base target of a function under the cues; functions are numbered as in section 10.6 (R136). -/
def baseTarget (c : Cues) (f : Nat) : Nat :=
  let lit (b : Bool) : Nat := if b then 255 else 0
  let tail : Nat := match c.scene with
    | .dark => 0
    | .run | .full => 64
  match f with
  | 1 => match c.scene with
    | .dark => 0
    | .run => 160
    | .full => 255
  | 2 => lit (c.scene == .full)
  | 3 => tail
  | 4 => if c.braking then 255 else tail
  | 5 => lit c.braking
  | 6 => lit c.reversing
  | 7 => lit (c.left || c.hazard)
  | 8 => lit (c.right || c.hazard)
  | 9 => match c.scene with
    | .dark => 0
    | .run => 96
    | .full => 200
  | 10 => lit c.winchWorking
  | 11 => lit (c.winchWorking || c.hazard)
  | _ => 0

/-- The lamp record of output `n`. -/
def lampAt (s : State) (n : Nat) : Lamp := s.lamp.lamps.getD n {}

/-- The phase is in the on-phase (R137). -/
def onPhase (phase : Nat) : Bool := decide (phase < 128)

/-- The effective target of output `n` with the given base target and shed field: outside RUN, blink, shed, rank-0
scale, in that order (R139). DEDUCED (log 36): a Rank-0 lamp of Nominal 0 is not scaled, as R132 says that it takes no
part in scaling, although R139 and R143 name every Rank-0 lamp. -/
def effectiveTarget (s : State) (n base : Nat) (shed : Bool) : Nat :=
  if !inRun s then 0
  else
    let v := if blinkFunction (functionOf s n) && !onPhase s.lamp.phase then 0 else base
    let v := if shed then 0 else v
    match s.lamp.scale with
    | some (grant, want) => if rankOf s n = 0 ∧ 0 < nominalOf s n then v * grant / want else v
    | none => v

/-- The effective target of every lamp recomputed (R139). -/
def refreshEffective (s : State) : State :=
  s.setLamp { s.lamp with
    lamps := tab 8 fun n =>
      let l := lampAt s n
      { l with effective := effectiveTarget s n l.base l.shed } }

/-! ### Wants (R141) -/

/-- The sum of Nominal × target over the outputs that `counts` picks, in mA × level (R141). -/
def loadSum (s : State) (counts : Nat → Bool) (target : Nat → Nat) : Nat :=
  ((List.range 8).map fun n => if counts n then nominalOf s n * target n else 0).sum

/-- A load in mA × level as qA, rounded up: 63750 is 255 × 250 (R141). -/
def loadToQa (sum : Nat) : Nat := ceilDiv sum 63750

/-- Output `n` counts in tier K (R132). -/
def inTierK (s : State) (n : Nat) : Bool := rankOf s n == 0

/-- want K of the given base targets (R141). -/
def lampWantK (s : State) (base : Nat → Nat) : Nat := loadToQa (loadSum s (inTierK s) base)

/-- want C of the given base targets (R141). -/
def lampWantC (s : State) (base : Nat → Nat) : Nat := loadToQa (loadSum s (fun n => !inTierK s n) base)

/-- The cues re-evaluated, with the base targets, the two wants and the effective targets that follow (R133, R136,
R139, R141). -/
def evalCues (s : State) : State :=
  let cues := computeCues s
  let base := fun n => baseTarget cues (functionOf s n)
  refreshEffective <| s.setLamp { s.lamp with
    cues := cues
    lamps := tab 8 fun n => { lampAt s n with base := base n }
    wantK := lampWantK s base
    wantC := lampWantC s base }

/-! ### Shedding and scaling (R142, R143) -/

/-- The shedding order: lit lamps of Rank 1 to 7 with a Nominal, by descending Rank and output number (R142). -/
def shedOrder (s : State) : List Nat :=
  ([7, 6, 5, 4, 3, 2, 1] : List Nat).flatMap fun r =>
    ([7, 6, 5, 4, 3, 2, 1, 0] : List Nat).filter fun n =>
      rankOf s n == r && decide (0 < (lampAt s n).base) && decide (0 < nominalOf s n)

/-- The unshed want: tier C over the lamps that are not in the shed set (R142). -/
def unshedWant (s : State) (shed : List Nat) : Nat :=
  loadToQa (loadSum s (fun n => !inTierK s n && !shed.contains n) fun n => (lampAt s n).base)

/-- Lamps of the shedding order join the shed set until the unshed want fits the grant (R142). -/
def shedUntil (s : State) (grant : Nat) : List Nat → List Nat → List Nat
  | [], shed => shed
  | n :: rest, shed => if unshedWant s shed ≤ grant then shed else shedUntil s grant rest (n :: shed)

/-- The shed set a hand-over forms (R142). -/
def shedSet (s : State) (grantC : Nat) : List Nat :=
  if s.lamp.wantC ≤ grantC then [] else shedUntil s grantC (shedOrder s) []

/-- Grants K and C handed to the lamp unit: the shed set, the rank-0 scale, and the effective targets (R60, R142, R143). -/
def lampHandOver (grants : Tiers) (s : State) : State :=
  let shed := shedSet s grants.c
  refreshEffective <| s.setLamp { s.lamp with
    lamps := tab 8 fun n => { lampAt s n with shed := shed.contains n }
    scale := if grants.k < s.lamp.wantK then some (grants.k, s.lamp.wantK) else none }

/-! ### Blink timebase (R137, R138) -/

/-- The phase set, with the effective targets recomputed at a change of half (R137). -/
def setPhase (phase : Nat) (s : State) : State :=
  let t := s.setLamp { s.lamp with phase := phase }
  if onPhase phase == onPhase s.lamp.phase then t else refreshEffective t

/-- The phase distance measured round the cycle (R138). -/
def phaseDistance (a b : Nat) : Nat :=
  let plain := max a b - min a b
  min plain (256 - plain)

/-- The blink leader: the lowest LIVE peer below the station's own address (R138). -/
def blinkLeader (s : State) : Option Role :=
  allRoles.find? fun r => decide (roleAddress r < ownAddress s) && (s.peers.at r).presence == .live

/-- Alignment at a STATION arrival from `sender` (R138). -/
def alignBlink (sender : Role) (s : State) : State :=
  if blinkLeader s = some sender then
    let expected := ((s.peers.at sender).phase.toNat + 1) % 256
    if 3 ≤ phaseDistance expected s.lamp.phase then setPhase expected s else s
  else s

/-! ### Fading (R140) -/

/-- A level moved toward its effective target by at most FadeStep (R140). -/
def fadeLevel (step level target : Nat) : Nat :=
  if level ≤ target then (if target - level ≤ step then target else level + step)
  else if level - target ≤ step then target else level - step

/-- One fade step of every lamp (R140). -/
def fadeAll (s : State) : State :=
  s.setLamp { s.lamp with
    lamps := tab 8 fun n =>
      let l := lampAt s n
      { l with level := fadeLevel (fadeStep s) l.level l.effective } }

/-! ### The safe output set and RUN entry (R144, R145) -/

/-- Every effective target and level at 0 at once, the fade timer stopped, HAZARD-REQUEST clear (R144). -/
def darkenLamps (s : State) : State :=
  s.setLamp { s.lamp with
    lamps := tab 8 fun n => { lampAt s n with effective := 0, level := 0 }
    fadeTimer := none
    cues := { s.lamp.cues with hazardRequest := false } }

/-- The lamp unit at RUN entry: the fade timer starts with every level at 0, and the cues are re-evaluated (R145). -/
def lampsEnterRun (s : State) : State :=
  evalCues <| s.setLamp { s.lamp with
    lamps := tab 8 fun n => { lampAt s n with level := 0 }
    fadeTimer := some 4 }

/-! ### Meanings -/

/-- The outcome of an event that HALT does not process: in HALT the station's timers and jobs are stopped and the state
stays as it is (R7). -/
def live (s : State) (f : State → State) : Host.Outcome State Fault Refusal :=
  .next (if s.ctl.station == .halt then s else f s)

/-- BLINK_STEP: the phase advances one step every 3 ms (R137). -/
def blinkStepped (s : State) : State :=
  setPhase ((s.lamp.phase + 1) % 256) (s.setLamp { s.lamp with blinkTimer := some 3 })

/-- BLINK_STEP (R137). -/
def execBlinkStep (s : State) : Host.Outcome State Fault Refusal := live s blinkStepped

/-- A fade step and the fade timer's restart; the timer runs in RUN only (R140). -/
def fadeExpired (s : State) : State :=
  if inRun s && s.lamp.fadeTimer.isSome then fadeAll (s.setLamp { s.lamp with fadeTimer := some 4 }) else s

/-- FADE_TIMER_EXPIRY (R140). -/
def execFadeTimerExpiry (s : State) : Host.Outcome State Fault Refusal := live s fadeExpired

end Sys2Proof.Machine
end

