-- ==== Sys2Proof/Machine/Steering.lean ====
section
/-! DEFINITION. The steering unit (chapter 5): bank staging, the bank split check, modes and targets, servo frames. -/

namespace Sys2Proof.Machine

/-! ### Staging (R84, R99) -/

/-- The staging table shared by the bank (R84) and the dig selection (R99): the active and the pending selection after
a DEMAND that requests `request` with the stick at `magnitude`; a change needs the stick within `band`. -/
def stage (request active : Nat) (pending : Option Nat) (magnitude band : Nat) : Nat × Option Nat :=
  if 2 < request then (active, pending)
  else if request = active then (active, none)
  else if magnitude ≤ band then (request, none)
  else (active, some request)

/-! ### Mode, target and shadow (R88 to R90) -/

/-- The steering mode, by the first line of R88's table that applies. -/
def steerMode (s : State) : SteerMode :=
  if !inRun s then .quiet else if s.ctl.failsafe then .centre else if s.steer.split then .split else .follow

/-- The axle target t of a steer value (R89). -/
def axleTarget (steer factor : Int) : Int := towardZero (steer * factor) 1000

/-- The servo shadow of an axle target: offset, direction, limit, in that order (R90). -/
def servoWidth (s : State) (t : Int) : Int :=
  let offset := towardZero (t * servoThrow s) 1000
  limitTo (servoMin s) (servoMax s) (if servoReverse s = 0 then servoCentre s + offset else servoCentre s - offset)

/-- The axle factor in use (R82). -/
def axleFactor (s : State) : Int := bankFactor s s.steer.active

/-- Mode, axle target and servo shadow re-evaluated (R88 to R90). -/
def steerRefresh (s : State) : State :=
  match steerMode s with
  | .follow =>
    let t := axleTarget s.latest.demand.steer (axleFactor s)
    s.setSteer { s.steer with mode := .follow, target := t, shadow := servoWidth s t }
  | m => s.setSteer { s.steer with mode := m, target := 0, shadow := servoCentre s }

/-! ### The bank split check (R85, R86) -/

/-- The FRONT bank: the active bank in the cue flags of the FRONT entry (R85); 3 is a bank that no axle station holds
(R172). -/
def frontBank (s : State) : Nat := (s.peers.front.cues.extractLsb' 0 2).toNat

/-- The check finds the banks differing: it is active on REAR in RUN, and REAR's active bank is not the FRONT bank
(R85). -/
def splitDiffers (s : State) : Bool :=
  roleIs s .rear && inRun s && s.peers.front.heard && shownState s.peers.front.stateByte == 2 &&
    frontBank s != s.steer.active

/-- One evaluation of the check (R86). -/
def splitEvaluate (s : State) : State :=
  if !(roleIs s .rear && inRun s) then s
  else if splitDiffers s then
    if s.steer.splitTimer.isNone && !s.steer.split then s.setSteer { s.steer with splitTimer := some 200 } else s
  else s.setSteer { s.steer with splitTimer := none, split := false }

/-- An evaluation with the mode that follows from it (R86, R88). -/
def splitCheck (s : State) : State :=
  if roleIs s .rear && inRun s then steerRefresh (splitEvaluate s) else s

/-- The bank staged from a DEMAND taken; a change of the active bank is handed to the split check (R84). -/
def stageBank (s : State) : State :=
  let r := s.latest.demand
  let p := stage r.bankRequest.toNat s.steer.active s.steer.pending r.steer.natAbs (centreBand s)
  let t := s.setSteer { s.steer with active := p.1, pending := p.2 }
  if p.1 = s.steer.active then t else splitEvaluate t

/-- The steering unit at a change of FAILSAFE, or at a DEMAND acceptance, which it stages if it is taken (R83, R88, R89). -/
def steerReact (accepted : Bool) (s : State) : State :=
  if isAxle s && inRun s then
    steerRefresh (if accepted && demandTaken s then stageBank s else s)
  else s

/-! ### Servo frames (R91, R92, R93) -/

/-- The frame period in µs (R91). -/
def framePeriod (s : State) : Int :=
  match servoRate s with
  | 0 => 20000
  | 1 => 10000
  | 2 => 5000
  | _ => 3003

/-- The servo output moved toward the shadow at a frame start (R92). -/
def servoStep (s : State) : Int :=
  if slewStep s = 0 then s.steer.shadow else moveToward (slewStep s) s.steer.output s.steer.shadow

/-- A frame start: the output moves, the pulse begins, the timer runs on its own grid (R91, R92). `late` is how far
past its expiry the 1 ms tick found the timer, at or below 0; it is 0 for a command from outside. The tick lets the pulse
of the frame before end first (R91; Tick.lean, `pulseFirst`). -/
def startFrame (late : Int) (s : State) : State :=
  let w := servoStep s
  s.setSteer { s.steer with
    output := w, srv := true, frameTimer := some (framePeriod s + late), pulseTimer := some (w + late) }

/-- The steering unit at RUN entry: no pending bank, the split timer stopped, the first frame at ServoCentre (R84, R86,
R91). -/
def steerEnterRun (s : State) : State :=
  if isAxle s then
    splitCheck <| steerRefresh <| s.setSteer { s.steer with
      pending := none
      splitTimer := none
      output := servoCentre s
      srv := true
      frameTimer := some (framePeriod s)
      pulseTimer := some (servoCentre s) }
  else s

/-- The steering unit's part of the safe output set, with the station already out of RUN: SRV low at once, no frames,
mode QUIET, the split check cleared (R86, R93). -/
def steerStop (s : State) : State :=
  steerRefresh <| s.setSteer { s.steer with
    output := 0, srv := false, frameTimer := none, pulseTimer := none, splitTimer := none, split := false }

/-! ### Meanings -/

/-- BANK-SPLIT and its incident at the beginning of the split condition (R86). DESIGN CHOICE (log 38): on a FRONT bank of
3 it is free whether they are, since R86 and the closing sentence of R172 say opposite things of it. -/
def noteSplit (s : State) : State :=
  if 2 < frontBank s && !Config.thirdBankNoted then s
  else record .bankSplit 0 (setFaults { s.ctl.faults with bankSplit := true } s)

/-- The split timer's expiry: if the banks still differ the split condition begins (R86). -/
def splitExpired (s : State) : State :=
  if roleIs s .rear && inRun s && s.steer.splitTimer.isSome then
    let t := s.setSteer { s.steer with splitTimer := none }
    if splitDiffers t then
      steerRefresh (noteSplit (t.setSteer { t.steer with split := true }))
    else t
  else s

/-- SPLIT_TIMER_EXPIRY (R86). -/
def execSplitTimerExpiry (s : State) : Host.Outcome State Fault Refusal := live s splitExpired

/-- The servo frame timer's expiry: a frame starts (R91, R92). -/
def servoFrameExpired (s : State) : State :=
  match s.steer.frameTimer with
  | some left => if isAxle s && inRun s then startFrame (min left 0) s else s
  | none => s

/-- SERVO_FRAME_TIMER_EXPIRY (R92). -/
def execServoFrameTimerExpiry (s : State) : Host.Outcome State Fault Refusal := live s servoFrameExpired

/-- The pulse width elapses: SRV returns low (R91). -/
def servoPulseEnded (s : State) : State := s.setSteer { s.steer with srv := false, pulseTimer := none }

/-- SERVO_PULSE_END (R91). -/
def execServoPulseEnd (s : State) : Host.Outcome State Fault Refusal := live s servoPulseEnded

end Sys2Proof.Machine
end

