-- ==== Sys2Proof/Machine/Traction.lean ====
section
/-! DEFINITION. The bridge unit (chapter 6): commanded duty, dig selection, drive state, ramp, assist cap, current
limits, one-shot trips, want A; and the bridge on WINCH (R112). -/

namespace Sys2Proof.Machine

/-! ### Gates (R97) -/

/-- The share of a PWM period, in ‰, for which each of the four gates is on. -/
structure Gates where
  braHigh : Nat := 0
  braLow : Nat := 0
  brbHigh : Nat := 0
  brbLow : Nat := 0
deriving DecidableEq, Repr

/-- The gate pattern of a period (R97); `cut` says that the driving high gate is off for the rest of it, while the low
gate of the other leg stays on (R105). -/
def gatePattern (a : Applied) (cut : Bool) : Gates :=
  let high := if cut then 0 else a.duty
  match a.state with
  | .off | .tripped | .latched => {}
  | .driveFwd => { braHigh := high, brbLow := 1000 }
  | .driveRev => { brbHigh := high, braLow := 1000 }
  | .brake => { braLow := 10 * a.level, brbLow := 10 * a.level }
  | .dwell => { braLow := 1000, brbLow := 1000 }

/-- The gates of the bridge in the present period (R96, R97, R105). -/
def gatesOf (b : Bridge) : Gates := gatePattern b.applied b.cut

/-- Some gate is on within the present period (R106; log 14). -/
def gateOn (b : Bridge) : Bool := gatesOf b != {}

/-- A driving high gate is on within the present period: the period has an on-time that is not yet cut (R105; log 14). -/
def highOn (b : Bridge) : Bool := (gatesOf b).braHigh != 0 || (gatesOf b).brbHigh != 0

/-! ### The commanded duty of the winch (R120, R121, R125) -/

/-- The outward duty of PAYOUT (R121). -/
def payoutNow (s : State) : Nat :=
  if s.winch.homed then payoutDuty s else min (payoutDuty s) (unhomedDuty s)

/-- The haul ramp's duty after `m` ms (R120). -/
def haulNow (s : State) (m : Nat) : Nat := haulDuty s * min m 200 / 200

/-- The winch controller's command to the bridge: its duty, signed positive inward, and its direction; `none` is brake
(R112, R125). -/
def winchDrive (s : State) : Option Sign × Int :=
  match s.winch.state with
  | .haul => (some .plus, haulNow s (s.winch.ramp.getD 0))
  | .payout => (some .minus, -(payoutNow s : Int))
  | .locked | .hold | .stalled | .starved | .endIn | .endOut => (none, 0)

/-! ### Drive state selection (R100, R112) -/

/-- The sign of a duty. -/
def signOf (d : Int) : Option Sign := if 0 < d then some .plus else if d < 0 then some .minus else none

/-- The opposite direction. -/
def opposite : Sign → Sign
  | .plus => .minus
  | .minus => .plus

/-- What a line of the selection table gives: the drive state, its brake level, and what becomes of the dwell timer. -/
structure Choice where
  state : DriveState
  level : Nat := 0
  stopDwell : Bool := false
  startDwell : Bool := false
deriving DecidableEq, Repr

/-- BRAKE at DragBrake, or OFF if DragBrake is 0 (R100). -/
def dragChoice (s : State) : Choice := if dragBrake s = 0 then { state := .off } else { state := .brake, level := dragBrake s }

/-- The drive state of a direction. -/
def driveOf : Sign → DriveState
  | .plus => .driveFwd
  | .minus => .driveRev

/-- The selection table of the axle stations (R100). With `byTrip` false the trip-level line is left out, which gives
the requested state. -/
def chooseAxle (s : State) (byTrip : Bool) : Choice :=
  let b := s.bridge
  if !inRun s then { state := .off, stopDwell := true }
  else if b.latched then { state := .latched, stopDwell := true }
  else if b.tripped then { state := .tripped, stopDwell := true }
  else if s.ctl.failsafe then { state := .brake, level := 100, stopDwell := true }
  else if digLock s then { state := .brake, level := 100, stopDwell := true }
  else if b.dwellTimer.isSome then { state := .dwell, level := 100 }
  else match signOf b.d with
    | none => dragChoice s
    | some sg =>
      if b.lastSign = some (opposite sg) ∧ 0 < reverseDwell s then { state := .dwell, level := 100, startDwell := true }
      else if byTrip && b.tripLevel == 0 then dragChoice s
      else { state := driveOf sg }

/-- The selection table of the WINCH station (R112). -/
def chooseWinch (s : State) : Choice :=
  let b := s.bridge
  if !inRun s then { state := .off }
  else if b.latched then { state := .latched }
  else if b.tripped then { state := .tripped }
  else if s.ctl.failsafe then { state := .brake, level := 100 }
  else match (winchDrive s).1 with
    | none => { state := .brake, level := 100 }
    | some sg => if b.tripLevel = 0 then { state := .brake, level := 100 } else { state := driveOf sg }

/-- A DRIVE state. -/
def DriveState.drives : DriveState → Bool
  | .driveFwd | .driveRev => true
  | .off | .brake | .dwell | .tripped | .latched => false

/-- The direction of a DRIVE state. -/
def DriveState.sign : DriveState → Option Sign
  | .driveFwd => some .plus
  | .driveRev => some .minus
  | .off | .brake | .dwell | .tripped | .latched => none

/-- The re-arm timer follows "TRIPPED, not latched, and d is 0" (R107). -/
def rearmRule (running : Bool) (b : Bridge) : Bridge :=
  { b with rearmTimer :=
      if running && b.tripped && !b.latched && b.d == 0 then some (b.rearmTimer.getD 500) else none }

/-- The duty shadow of the bridge's drive state (R96). -/
def writeShadow (b : Bridge) : Bridge :=
  { b with shadow := ⟨b.driveState, b.outDuty.natAbs, b.brakeLevel⟩ }

/-- The chosen line put into effect: the dwell timer, the last driven sign and the output duty at an entry to a DRIVE
state, the brake level, the shadow (R100, R101, R102). `duty` is the output duty at an entry. -/
def applyChoice (dwellMs : Nat) (c : Choice) (duty : Option Int) (b : Bridge) : Bridge :=
  let entering := c.state.drives && b.driveState != c.state
  writeShadow { b with
    driveState := c.state
    brakeLevel := c.level
    dwellTimer := if c.startDwell then some dwellMs else if c.stopDwell then none else b.dwellTimer
    pendingSign := if c.startDwell then signOf b.d else b.pendingSign
    lastSign := if entering then c.state.sign else b.lastSign
    outDuty := if c.state.drives then duty.getD (if entering then 0 else b.outDuty) else 0 }

/-- The lamp unit is handed a change of the station's BRAKING, REVERSING or WINCH-WORKING flag (R110, R130, R133). -/
def cueEvent (before after : State) : State :=
  if brakingFlag before == brakingFlag after && reversingFlag before == reversingFlag after &&
      workingFlag before == workingFlag after then after
  else evalCues after

/-- The drive state selected again on a station whose bridge unit is in use, with the cue events that follow. On WINCH
d and the output duty of a DRIVE state are the winch controller's commanded duty (R112). -/
def selectDrive (s : State) : State :=
  if isAxle s then
    cueEvent s <| s.setBridge <| rearmRule (inRun s) <| applyChoice (reverseDwell s) (chooseAxle s true) none s.bridge
  else if roleIs s .winch then
    let duty := (winchDrive s).2
    cueEvent s <| s.setBridge <| rearmRule (inRun s) <|
      applyChoice 0 (chooseWinch s) (some duty) { s.bridge with d := duty }
  else s

/-! ### The commanded duty and the dig selection of the axles (R98, R99, R101) -/

/-- The commanded duty d (R98). -/
def commandedDuty (s : State) : Int :=
  if !inRun s || s.ctl.failsafe || s.ctl.demandHold then 0
  else towardZero (s.latest.demand.throttle * driveScale s) 1000

/-- d re-evaluated: a non-zero d against the pending sign restarts a running dwell (R101); then the selection. -/
def evalDuty (s : State) : State :=
  let d := commandedDuty s
  let b := { s.bridge with d := d }
  let rocks := b.dwellTimer.isSome && (signOf d).isSome && signOf d != b.pendingSign
  selectDrive <| s.setBridge <|
    if rocks then { b with dwellTimer := some (reverseDwell s), pendingSign := signOf d } else b

/-- The dig selection staged from a DEMAND taken (R99). -/
def stageDig (s : State) : State :=
  let r := s.latest.demand
  let p := stage r.digSelection.toNat s.bridge.activeDig s.bridge.pendingDig r.throttle.natAbs 100
  s.setBridge { s.bridge with activeDig := p.1, pendingDig := p.2 }

/-- The bridge unit at a DEMAND acceptance, or at a beginning or end of FAILSAFE or DEMAND-HOLD (R98, R99, R100).
DESIGN CHOICE (log 8): at a DEMAND taken the dig selection is staged first, then d is taken, and one selection of the
drive state follows both; the manual orders neither. -/
def bridgeReact (accepted : Bool) (s : State) : State :=
  if isAxle s && inRun s then evalDuty (if accepted && demandTaken s then stageDig s else s)
  else if roleIs s .winch && inRun s then selectDrive s
  else s

/-! ### Ramp and assist cap (R102, R103) -/

/-- The assist cap, while it is in force (R103). -/
def assistCap (s : State) : Option Nat :=
  if isAxle s && s.latest.winch.band == .fresh && s.latest.winch.winchState == WinchState.haul.code then
    some (assistDuty s * s.latest.winch.tension.toNat / 255)
  else none

/-- The cap re-evaluated; a forward output duty above it is cut to it at once (R103). -/
def evalAssist (s : State) : State :=
  if isAxle s then
    let cap := assistCap s
    let b := { s.bridge with assist := cap }
    s.setBridge <| match cap with
      | some c =>
        if b.driveState == .driveFwd && decide ((c : Int) < b.outDuty) then writeShadow { b with outDuty := c } else b
      | none => b
  else s

/-- The ramp's target in a DRIVE state (R102). -/
def rampTarget (b : Bridge) : Int :=
  match b.driveState, b.assist with
  | .driveFwd, some cap => min b.d cap
  | _, _ => b.d

/-- The driven timer restarts at a duty step in a DRIVE state with a non-zero output duty (R102). -/
def restartDriven (b : Bridge) : Bridge :=
  if b.driveState.drives && b.outDuty != 0 then { b with drivenTimer := some 1000 } else b

/-- The ramp of one duty step (R102). DESIGN CHOICE (log 40): the driven timer's restart reads the output duty after the
step's move, so the first step of a DRIVE state with a non-zero target restarts it; the manual does not say whether it reads
it before or after. -/
def rampStepOf (step : Int) (b : Bridge) : Bridge :=
  if b.driveState.drives then
    restartDriven (writeShadow { b with outDuty := moveToward step b.outDuty (rampTarget b) })
  else b

/-! ### Current limits and want A (R104, R105, R109) -/

/-- The grant of the tier the station's load is counted in; 0 while the winch is counted in none (R47, R104, R112). -/
def tierGrant (s : State) : Nat :=
  if isAxle s then s.share.grants.a
  else if roleIs s .winch then
    match s.winch.state, s.winch.starvedFrom with
    | .haul, _ => s.share.grants.a
    | .payout, _ => s.share.grants.b
    | .starved, some .haul => s.share.grants.a
    | .starved, some .payout => s.share.grants.b
    | _, _ => 0
  else 0

/-- The bridge current figure: the mean magnitude of the sensed current, in qA, limited to 255 (R105). -/
def meanCurrent (samples : List Int) : Nat := min 255 ((samples.map Int.natAbs).sum / samples.length)

/-- want A of an axle: from d and the requested state (R109). -/
def bridgeWant (s : State) : Nat :=
  if isAxle s && (chooseAxle s false).state.drives then ceilDiv (s.bridge.d.natAbs * motorLimit s) 1000 else 0

/-! ### RUN entry and the safe output set (R111) -/

/-- The bridge unit at RUN entry (R111). -/
def bridgeEnterRun (s : State) : State :=
  if bridgeInUse s then
    selectDrive <| s.setBridge { s.bridge with
      periodTimer := true, d := 0, outDuty := 0, tripLevel := 0, pendingDig := none, dwellTimer := none
      pendingSign := none, rearmTimer := none, windowTimer := none, drivenTimer := none }
  else s

/-- The bridge unit's part of the safe output set: gates off at once, drive state OFF, every timer stopped (R111). -/
def bridgeStop (s : State) : State :=
  s.setBridge { s.bridge with
    driveState := .off, brakeLevel := 0, d := 0, outDuty := 0, shadow := {}, applied := {}, cut := false
    periodTimer := false, dwellTimer := none, pendingSign := none, rearmTimer := none, windowTimer := none
    drivenTimer := none }

/-! ### Meanings of the events that touch the bridge unit alone -/

/-- A period start: the trip level is taken, the drive state selected, and the output takes the shadow (R96, R104).
DESIGN CHOICE (log 39): in that order, so a trip level that returns above 0 brings the requested DRIVE state to the gates
at the same period start; the manual does not say whether the output takes the shadow first. -/
def periodStarted (s : State) : State :=
  if bridgeInUse s && inRun s && s.bridge.periodTimer then
    let t := selectDrive <| s.setBridge { s.bridge with tripLevel := min (motorLimit s) (tierGrant s) }
    t.setBridge { t.bridge with applied := t.bridge.shadow, cut := false }
  else s

/-- PERIOD_START (R96). -/
def execPeriodStart (s : State) : Host.Outcome State Fault Refusal := live s periodStarted

/-- The sensed current above the trip level while the driving high gate is on turns that gate off for the rest of the
period, and counts the period once (R105). -/
def cycleLimited (current : Current) (s : State) : State :=
  let b := s.bridge
  if bridgeInUse s && inRun s && highOn b && exceeds current b.tripLevel then
    s.setBridge { b with cut := true, limited := satSucc 65535 b.limited }
  else s

/-- CYCLE_LIMIT (R105). -/
def execCycleLimit (current : Current) (s : State) : Host.Outcome State Fault Refusal := live s (cycleLimited current)

/-- The dwell timer's expiry: the last driven sign becomes the pending sign (R101). -/
def dwellExpired (s : State) : State :=
  if isAxle s && inRun s && s.bridge.dwellTimer.isSome then
    selectDrive <| s.setBridge { s.bridge with
      dwellTimer := none, lastSign := s.bridge.pendingSign, pendingSign := none }
  else s

/-- DWELL_TIMER_EXPIRY (R101). -/
def execDwellTimerExpiry (s : State) : Host.Outcome State Fault Refusal := live s dwellExpired

/-- WINDOW_TIMER_EXPIRY: the 10 s window stops (R108). -/
def execWindowTimerExpiry (s : State) : Host.Outcome State Fault Refusal :=
  live s fun s => s.setBridge { s.bridge with windowTimer := none }

/-- DRIVEN_TIMER_EXPIRY: the driven timer stops, and BRAKING clears with it (R110). -/
def execDrivenTimerExpiry (s : State) : Host.Outcome State Fault Refusal :=
  live s fun s => cueEvent s (s.setBridge { s.bridge with drivenTimer := none })

end Sys2Proof.Machine
end

