-- ==== Sys2Proof/Machine/WinchControl.lean ====
section
/-! DEFINITION. The winch controller (chapter 7), and the bridge events that it shares (duty step, one-shot trip,
re-arm). -/

namespace Sys2Proof.Machine

/-! ### Inputs (R80, R117) -/

/-- HOME is active: CAP5 is low (R80, R116). -/
def homeActive (s : State) : Bool := !s.pins.caps.getLsbD 5

/-- The line stands at the outward end: homed, P at or above LineMax (R119, R121). -/
def atLineEnd (s : State) : Bool := s.winch.homed && decide (lineMax s ≤ s.winch.position)

/-- The effective command (R117). -/
def effectiveCommand (s : State) : WinchCommand :=
  if inRun s && s.latest.demand.band == .fresh && !s.ctl.failsafe && !s.ctl.demandHold then
    readCommand s.latest.demand.winchCommand
  else .hold

/-- The lock condition (R117): FAILSAFE, or a FRESH ALLOWANCE showing CUTOFF, TRIPPED or FAULT. -/
def lockCause (s : State) : Bool := s.ctl.failsafe || allowanceShows s 4

/-! ### Wants and tension (R127, R128) -/

/-- The winch's wants in tiers A and B by its state (R128). -/
def winchWants (s : State) : Nat × Nat :=
  if !inRun s then (0, 0)
  else match s.winch.state, s.winch.starvedFrom with
    | .haul, _ => (haulWant s, 0)
    | .payout, _ => (0, payoutWant s)
    | .starved, some .haul => (haulWant s, 0)
    | .starved, some .payout => (0, payoutWant s)
    | _, _ => (0, 0)

/-- The tension index of a bridge current figure (R127). -/
def tensionIndex (stall free fig : Nat) : Nat :=
  if free < stall then min 255 ((fig - free) * 255 / (stall - free))
  else if stall ≤ fig then 255 else 0

/-! ### The WINCH record (R129) -/

/-- UNHOMED-LIMITED holds while the winch state is PAYOUT and HOMED is clear (R116). -/
def unhomedLimited (s : State) : Bool := s.winch.state == .payout && !s.winch.homed

/-- The data bytes of a WINCH frame at queuing (R129, section 11.2). -/
def winchData (s : State) : List Byte :=
  [s.winch.state.code, natByte s.winch.tension] ++ intBytes2 s.winch.position ++
    [bitsByte [s.winch.homed, unhomedLimited s, false, false, false, false, false, false], natByte s.winch.stallCount]

/-- The WINCH timer's period in a winch state (R129). -/
def recordPeriod : WinchState → Nat
  | .hold | .endIn | .endOut => 100
  | .locked | .haul | .payout | .stalled | .starved => 20

/-- A WINCH frame is queued: the timer restarts and the record enters the station's own Latest Records (R16, R129). -/
def publishWinch (s : State) : State :=
  let data := winchData s
  let t := queueFrame .winch data <| s.setWinch { s.winch with recordTimer := some (recordPeriod s.winch.state) }
  t.setLatest { t.latest with winch := readWinch data }

/-! ### Winch states (R118 to R126) -/

/-- The starve timer against the grant of the winch's tier, in HAUL and PAYOUT (R124). -/
def starveRule (minimum grant : Nat) (w : Winch) : Winch :=
  match w.state with
  | .haul | .payout =>
    { w with starveTimer := if grant < minimum then some (w.starveTimer.getD 100) else none }
  | .locked | .hold | .stalled | .starved | .endIn | .endOut => w

/-- The winch record with a new state: the ramp starts with HAUL and ends with it, the stall and starve timers stop,
the tension index is 0 (R118, R120, R123, R124, R127). -/
def changedState (new : WinchState) (w : Winch) : Winch :=
  { w with
    state := new
    msInState := 0
    starvedFrom := if new = .starved then some w.state else none
    ramp := if new = .haul then some 0 else none
    stallTimer := none
    starveTimer := none
    tension := 0 }

/-- The drum was driven and is now at an end of the line: the brake acts on the gates at once (R96, R125). -/
def endBrake (old new : WinchState) : Bool :=
  (old == .haul || old == .payout) && (new == .endIn || new == .endOut)

/-- The brake of the winch controller's command on the gates at once, without waiting for a period start (R96, R125). -/
def brakeGates (s : State) : State := s.setBridge { s.bridge with applied := s.bridge.shadow, cut := false }

/-- The gates drive past an end of the line: inward with HOME active, or outward at the outward end (R125). -/
def drivesPastEnd (s : State) : Bool :=
  (homeActive s && s.bridge.applied.state == .driveFwd) || (atLineEnd s && s.bridge.applied.state == .driveRev)

/-- Where HOME became active, or P reached the outward end, with the gates still driving that way, the brake acts on them
in the same event: a winch that an evaluation has taken from HAUL or PAYOUT to HOLD drives on until the next period start,
but not past an end (R96, R125). -/
def brakeAtEnd (s : State) : State := if drivesPastEnd s then brakeGates s else s

/-- A change of winch state with everything in the same event: the bridge command, the brake at an end of the line, the
starve timer at an entry to HAUL or PAYOUT, the cue event and the WINCH frame (R120, R121, R125, R129, R130). -/
def enterWinch (new : WinchState) (s : State) : State :=
  if new = s.winch.state then s
  else
    let a := s.setWinch (changedState new s.winch)
    let b := a.setWinch (starveRule (winchMinimum s) (tierGrant a) a.winch)
    let c := selectDrive b
    publishWinch (cueEvent s (if endBrake s.winch.state new then brakeGates c else c))

/-- The trip hold-off ends where the bridge is not TRIPPED (nor LATCHED) and the effective command is HOLD (R126). -/
def endHoldOff (s : State) : State :=
  if s.winch.holdOff && !s.bridge.tripped && !s.bridge.latched && s.winch.command == .hold then
    s.setWinch { s.winch with holdOff := false }
  else s

/-- The state the rules of the present state give for the effective command (R118, R119, R120 to R124). -/
def evaluatedState (s : State) : WinchState :=
  let free := !s.winch.holdOff && !s.bridge.latched
  match s.winch.state, s.winch.command with
  | .locked, .hold => if s.winch.lock then .locked else .hold
  | .locked, _ => .locked
  | .hold, .inward => if !free then .hold else if homeActive s then .endIn else .haul
  | .hold, .outward => if !free then .hold else if atLineEnd s then .endOut else .payout
  | .hold, .hold => .hold
  | .haul, .inward => .haul
  | .haul, _ => .hold
  | .payout, .outward => .payout
  | .payout, _ => .hold
  | .stalled, .hold => .hold
  | .stalled, _ => .stalled
  | .starved, .inward => if s.winch.starvedFrom = some .haul then .starved else .hold
  | .starved, .outward => if s.winch.starvedFrom = some .payout then .starved else .hold
  | .starved, .hold => .hold
  | .endIn, .outward => if !free then .endIn else if atLineEnd s then .endOut else .payout
  | .endIn, .hold => if free then .hold else .endIn
  | .endIn, .inward => .endIn
  | .endOut, .inward => if !free then .endOut else if homeActive s then .endIn else .haul
  | .endOut, .hold => if free then .hold else .endOut
  | .endOut, .outward => .endOut

/-- An evaluation of the command (R117). DESIGN CHOICE (log 35): where it ends the trip hold-off, it ends it first, so
END-IN and END-OUT act on HOLD in the same evaluation; R122 and R126 do not order the two. -/
def winchEvaluate (s : State) : State :=
  let t := endHoldOff s
  enterWinch (evaluatedState t) t

/-- The winch controller at a DEMAND acceptance, and wherever FAILSAFE, DEMAND-HOLD or the ALLOWANCE record changed
(R117, R118). -/
def winchReact (accepted : Bool) (s : State) : State :=
  if roleIs s .winch && inRun s then
    let command := effectiveCommand s
    let lock := lockCause s
    let a := s.setWinch { s.winch with command := command, lock := lock }
    let b := if lock && !s.winch.lock then enterWinch .locked a else a
    let c := if s.winch.lock && !lock then winchEvaluate b else b
    if accepted || command != s.winch.command then winchEvaluate c else c
  else s

/-- A grant hand-over: the starve timer in HAUL and PAYOUT, the return from STARVED (R59, R124). -/
def winchHandOver (s : State) : State :=
  if roleIs s .winch && inRun s then
    if s.winch.state = .starved then
      let enough := decide (winchMinimum s * 5 / 4 ≤ tierGrant s)
      match s.winch.starvedFrom, s.winch.command with
      | some .haul, .inward => if enough then enterWinch (if homeActive s then .endIn else .haul) s else s
      | some .payout, .outward => if enough then enterWinch (if atLineEnd s then .endOut else .payout) s else s
      | _, _ => s
    else s.setWinch (starveRule (winchMinimum s) (tierGrant s) s.winch)
  else s

/-- The winch controller at RUN entry: LOCKED under FAILSAFE, timers stopped, the first WINCH queued (section 7.10). -/
def winchEnterRun (s : State) : State :=
  if roleIs s .winch then
    publishWinch <| s.setWinch { s.winch with
      state := .locked, starvedFrom := none, command := .hold, lock := lockCause s, ramp := none
      stallTimer := none, starveTimer := none, tension := 0 }
  else s

/-- The winch timers stop at the entry to HALT; everything else is kept (R7, section 7.10). -/
def winchStop (s : State) : State :=
  s.setWinch { s.winch with ramp := none, stallTimer := none, starveTimer := none, recordTimer := none }

/-! ### Hall edges and HOME (R114 to R116) -/

/-- The change of P at a Hall edge (R114). -/
def hallChange : DriveState → Int
  | .driveFwd => -1
  | .driveRev | .brake | .dwell | .off | .tripped | .latched => 1

/-- A Hall edge: P, the stall timer, the outward end (R114, R121, R123, R125). -/
def hallEdged (stamp : Half) (s : State) : State :=
  if roleIs s .winch then
    let w := s.winch
    let drivingState := w.state == .haul || w.state == .payout
    let a := (stampTimer stamp s).setWinch { w with
      position := limitTo (-32768) 32767 (w.position + hallChange s.bridge.driveState)
      hallEdges := satSucc 65535 w.hallEdges
      stallTimer := if drivingState && w.stallTimer.isSome then some (stallTime s) else w.stallTimer }
    brakeAtEnd (if w.state == .payout && atLineEnd a then enterWinch .endOut a else a)
  else s

/-- HALL_EDGE (R114). -/
def execHallEdge (stamp : Half) (s : State) : Host.Outcome State Fault Refusal := live s (hallEdged stamp)

/-- The level of CAP5 set (R80). -/
def setHomeLevel (high : Bool) (s : State) : State :=
  s.setPins { s.pins with caps := if high then s.pins.caps ||| 0x20 else s.pins.caps &&& 0x1F }

/-- An activation of HOME: P is 0, HOMED is set; it ends HAUL, and in PAYOUT it changes the duty (R116, R120, R121); no
inward drive goes on (R125). -/
def homeActivated (s : State) : State :=
  if roleIs s .winch then
    let a := setHomeLevel false s
    let b := a.setWinch { a.winch with position := 0, homed := true, activations := satSucc 255 a.winch.activations }
    brakeAtEnd <| match b.winch.state with
      | .haul => enterWinch .endIn b
      | .payout => if atLineEnd b then enterWinch .endOut b else selectDrive b
      | .locked | .hold | .stalled | .starved | .endIn | .endOut => b
  else s

/-- HOME_ACTIVATION (R116). -/
def execHomeActivation (s : State) : Host.Outcome State Fault Refusal := live s homeActivated

/-- HOME_RELEASE: the level is handed over; neither P nor HOMED changes (R116). -/
def execHomeRelease (s : State) : Host.Outcome State Fault Refusal :=
  live s fun s => if roleIs s .winch then setHomeLevel true s else s

/-! ### Stall, starvation, publication (R123, R124, R129) -/

/-- The stall timer's expiry (R123). -/
def stallExpired (s : State) : State :=
  if roleIs s .winch && inRun s && s.winch.stallTimer.isSome &&
      (s.winch.state == .haul || s.winch.state == .payout) then
    enterWinch .stalled <| record .winchStall (BitVec.ofInt 16 s.winch.position) <|
      setFaults { s.ctl.faults with winchStall := true } <|
        s.setWinch { s.winch with stallCount := satSucc 255 s.winch.stallCount }
  else s

/-- STALL_TIMER_EXPIRY (R123). -/
def execStallTimerExpiry (s : State) : Host.Outcome State Fault Refusal := live s stallExpired

/-- The starve timer's expiry (R124). -/
def starveExpired (s : State) : State :=
  if roleIs s .winch && inRun s && s.winch.starveTimer.isSome &&
      (s.winch.state == .haul || s.winch.state == .payout) then enterWinch .starved s
  else s

/-- STARVE_TIMER_EXPIRY (R124). -/
def execStarveTimerExpiry (s : State) : Host.Outcome State Fault Refusal := live s starveExpired

/-- The WINCH timer's expiry in RUN: a WINCH frame is queued (R129). -/
def winchTimerExpired (s : State) : State :=
  if roleIs s .winch && inRun s && s.winch.recordTimer.isSome then publishWinch s else s

/-- WINCH_TIMER_EXPIRY (R129). -/
def execWinchTimerExpiry (s : State) : Host.Outcome State Fault Refusal := live s winchTimerExpired

/-! ### The duty step (R102, R105, R120, R123, R127) -/

/-- The winch controller's part of a duty step: the haul ramp, the tension index, the stall timer. -/
def winchDuty (fig : Nat) (s : State) : Winch :=
  let w := s.winch
  let stall := if fig < stallLevel s then none else some (w.stallTimer.getD (stallTime s))
  match w.state with
  | .haul =>
    { w with
      ramp := w.ramp.map fun m => min 200 (m + 1)
      tension := tensionIndex (stallLevel s) (freeRun s) fig
      stallTimer := stall }
  | .payout => { w with stallTimer := stall }
  | .locked | .hold | .stalled | .starved | .endIn | .endOut => w

/-- One 1 ms duty step in RUN (R102, R105; on WINCH R112). DESIGN CHOICE (log 40): the current figure, then the selection of
the drive state, then the ramp and the driven timer; the manual does not order them. -/
def dutyStepped (samples : List Int) (s : State) : State :=
  if bridgeInUse s && inRun s then
    let fig := meanCurrent samples
    let a := s.setBridge { s.bridge with current := fig }
    if roleIs s .winch then
      let b := selectDrive (a.setWinch (winchDuty fig a))
      b.setBridge (restartDriven b.bridge)
    else
      let b := selectDrive a
      b.setBridge (rampStepOf (rampStep s) b.bridge)
  else s

/-- DUTY_STEP (R102). -/
def execDutyStep (samples : List Int) (s : State) : Host.Outcome State Fault Refusal := live s (dutyStepped samples)

/-! ### One-shot trips and the re-arm (R106 to R108, R126) -/

/-- The bridge unit after a one-shot trip: gates off at once, tripped, and latched within the window (R106, R108). -/
def trippedBridge (b : Bridge) : Bridge :=
  let latches := b.windowTimer.isSome
  { b with
    applied := {}
    cut := false
    outDuty := 0
    dwellTimer := none
    tripped := true
    latched := b.latched || latches
    tripCount := satSucc 255 b.tripCount
    sinceTrip := some 0
    windowTimer := if latches then none else some 10000 }

/-- The winch controller at a one-shot trip: HAUL, PAYOUT and STARVED go to HOLD, the trip hold-off is set (R126). -/
def winchTripped (s : State) : State :=
  if roleIs s .winch then
    let a := s.setWinch { s.winch with holdOff := true }
    match a.winch.state with
    | .haul | .payout | .starved => enterWinch .hold a
    | .locked | .hold | .stalled | .endIn | .endOut => a
  else s

/-- A one-shot trip, the sensed current above MotorTrip while a gate is on: BRIDGE-TRIP and its incident, BRIDGE-LATCHED
and its incident after it (R106, R108). -/
def oneShotTripped (current : Current) (s : State) : State :=
  if bridgeInUse s && inRun s && gateOn s.bridge && exceeds current (motorTrip s) then
    let latches := s.bridge.windowTimer.isSome
    let f := s.ctl.faults
    let a := record .bridgeTrip 0 <|
      setFaults { f with bridgeTrip := true, bridgeLatched := f.bridgeLatched || latches } <|
        s.setBridge (trippedBridge s.bridge)
    let b := if latches then record .bridgeLatched 0 a else a
    winchTripped (selectDrive b)
  else s

/-- ONE_SHOT_TRIP (R106). -/
def execOneShotTrip (current : Current) (s : State) : Host.Outcome State Fault Refusal := live s (oneShotTripped current)

/-- The re-arm timer's expiry: TRIPPED ends and the drive state is selected; on WINCH the hold-off may end (R107, R126). -/
def rearmExpired (s : State) : State :=
  if bridgeInUse s && inRun s && s.bridge.tripped && !s.bridge.latched && s.bridge.rearmTimer.isSome then
    let t := selectDrive <| s.setBridge { s.bridge with tripped := false, rearmTimer := none }
    if roleIs s .winch then endHoldOff t else t
  else s

/-- REARM_TIMER_EXPIRY (R107). -/
def execRearmTimerExpiry (s : State) : Host.Outcome State Fault Refusal := live s rearmExpired

end Sys2Proof.Machine
end

