-- ==== Sys2Proof/Machine/Shares.lean ====
section
/-! DEFINITION. The share unit (chapter 3): the allowance used, the view of wants, the allocation, the hand-over; and
the ALLOWANCE and TRIP events. -/

namespace Sys2Proof.Machine

/-- The allowance used that a computation fixes (R49). -/
def allowanceUsed (s : State) : Nat × Basis :=
  if s.share.tripHold then (0, .trip)
  else if s.latest.allowance.band == .fresh then (s.latest.allowance.allowance.toNat, .record)
  else (blindAllowance s, .blind)

/-- The own wants refreshed from the blocks that own the loads (R47, R48). -/
def ownWants (s : State) : Tiers :=
  { k := s.lamp.wantK
    a := if roleIs s .winch then (winchWants s).1 else bridgeWant s
    b := if roleIs s .winch then (winchWants s).2 else 0
    c := s.lamp.wantC }

/-- The wants counted for a role address (R54). -/
def viewOf (s : State) (own : Tiers) (r : Role) : Tiers :=
  if roleIs s r then own
  else
    let p := s.peers.at r
    if p.heard && shownState p.stateByte == 2 then
      { k := p.wantK.toNat, a := p.wantA.toNat, b := p.wantB.toNat, c := p.wantC.toNat }
    else {}

/-- The sum of two figures tier by tier. -/
def Tiers.add (x y : Tiers) : Tiers := ⟨x.k + y.k, x.a + y.a, x.b + y.b, x.c + y.c⟩

/-- The four tier sums of the view (R54). -/
def viewSums (s : State) (own : Tiers) : Tiers :=
  (allRoles.map (viewOf s own)).foldl Tiers.add {}

/-- One tier of the allocation: the own grant and the remainder after it (R55). -/
def allocateTier (remainder own sum : Nat) : Nat × Nat :=
  if sum ≤ remainder then (own, remainder - sum) else (own * remainder / sum, 0)

/-- The allocation tier by tier, in the order K, A, B, C (R55). -/
def allocate (allowance : Nat) (own sums : Tiers) : Tiers :=
  let k := allocateTier allowance own.k sums.k
  let a := allocateTier k.2 own.a sums.a
  let b := allocateTier a.2 own.b sums.b
  let c := allocateTier b.2 own.c sums.c
  { k := k.1, a := a.1, b := b.1, c := c.1 }

/-- The share unit after a computation (R49, R52, R55). -/
def computedShare (cause : ShareCause) (s : State) : Share :=
  let u := allowanceUsed s
  let own := ownWants s
  { s.share with
    wants := own
    grants := allocate u.1 own (viewSums s own)
    value := u.1
    basis := u.2
    age := if u.1 = s.share.value ∧ u.2 = s.share.basis then s.share.age else 0
    count := satSucc 65535 s.share.count
    cause := some cause }

/-- A share computation: the allowance used, the wants, the view, the allocation, the hand-over to the lamp unit and to
the winch controller; the bridge unit takes the held grant at its period starts (R52, R57 to R60). -/
def shareCompute (cause : ShareCause) (s : State) : State :=
  let t := s.setShare (computedShare cause s)
  winchHandOver (lampHandOver t.share.grants t)

/-- An ALLOWANCE accepted: the record, the share unit (R51), the lamp unit, the winch controller, in the order R16
hands it on (log 8). -/
def acceptAllowance (data : List Byte) (s : State) : State :=
  let record := readAllowance data
  let a := (s.setLatest { s.latest with allowance := record }).setShare { s.share with tripHold := false }
  let b := if inRun a && decide (record.allowance.toNat < a.share.value) then shareCompute .lower a else a
  winchReact false (evalCues b)

/-- A TRIP handed to the share unit: the hold is set, and in RUN a computation runs at once (R18, R50). -/
def takeTrip (s : State) : State :=
  let t := s.setShare { s.share with tripHold := true }
  if inRun t then shareCompute .trip t else t

/-- The share unit at RUN entry: the ENTRY computation and the share timer (R52). -/
def shareEnterRun (s : State) : State :=
  let t := shareCompute .entry s
  t.setShare { t.share with timer := some 20 }

/-- The share timer's expiry in RUN: a TIMER computation, and the next 20 ms (R52). -/
def shareExpired (s : State) : State :=
  if inRun s && s.share.timer.isSome then
    shareCompute .timer (s.setShare { s.share with timer := some 20 })
  else s

/-- SHARE_TIMER_EXPIRY (R52). -/
def execShareTimerExpiry (s : State) : Host.Outcome State Fault Refusal := live s shareExpired

/-- The ALLOWANCE record passes 100 ms: it is LOST, for the hazard cue and the lock condition (R17, R117, R133). -/
def allowanceLost (s : State) : State :=
  let r := s.latest.allowance
  if r.held && r.band == .fresh then
    winchReact false <| evalCues <| s.setLatest { s.latest with
      allowance := { r with band := .lost, age := max r.age 101 } }
  else s

/-- ALLOWANCE_RECORD_LOST (R17). -/
def execAllowanceRecordLost (s : State) : Host.Outcome State Fault Refusal := live s allowanceLost

/-- The WINCH record passes 100 ms: it is LOST and the assist cap ceases (R17, R103). -/
def winchRecordLost (s : State) : State :=
  let r := s.latest.winch
  if r.held && r.band == .fresh then
    evalAssist <| s.setLatest { s.latest with winch := { r with band := .lost, age := max r.age 101 } }
  else s

/-- WINCH_RECORD_LOST (R17). -/
def execWinchRecordLost (s : State) : Host.Outcome State Fault Refusal := live s winchRecordLost

end Sys2Proof.Machine
end

