-- ==== Sys2Proof/Machine/PackMonitor.lean ====
section
/-! DEFINITION. The pack monitor (chapter 2): the scan, the counters, the pack states, the main switch, the trip
comparator, the allowance computation and its publication. -/

namespace Sys2Proof.Machine

/-! ### The scan (R22 to R25) -/

/-- Cell `k + 1` of a scan in mV; 0 for a cell above CellCount (R22). -/
def scanCell (count : Nat) (taps : List Int) (k : Nat) : Nat :=
  if k < count then
    (limitTo 0 5000 (taps.getD k 0 - (if k = 0 then 0 else taps.getD (k - 1) 0))).toNat
  else 0

/-- The reading of cell `k + 1` in the scan results table. -/
def cellAt (t : ScanTable) (k : Nat) : Nat := t.cells.getD k 0

/-- The least of the first `count` figures. -/
def leastOf (count : Nat) (f : Nat → Nat) : Nat := (List.range count).foldl (fun m k => min m (f k)) (f 0)

/-- The pack current of a scan: the mean of the ten limited samples, rounded down (R23). -/
def packCurrent (samples : List Int) : Nat := (samples.map fun x => (limitTo 0 255 x).toNat).sum / 10

/-- The thermistor reading is a sensor fault (R24). -/
def sensorFaulty (temp : Int) : Bool := decide (temp < -40) || decide (125 < temp)

/-- The scan results table that a scan writes (R25). -/
def scanTable (count : Nat) (scan : Scan) (before : ScanTable) : ScanTable :=
  { cells := tab 4 (scanCell count scan.taps)
    vMin := leastOf count (scanCell count scan.taps)
    current := packCurrent scan.samples
    temp := limitTo (-128) 127 scan.temp
    sensorFault := sensorFaulty scan.temp
    scans := satSucc 65535 before.scans }

/-! ### Counters and conditions (R26 to R28) -/

/-- A consecutive-scan counter: it adds 1, limited to FaultCount, or is set to 0 (R26, R27, R28). -/
def countWhile (limit : Nat) (holds : Bool) (n : Nat) : Nat := if holds then min (n + 1) limit else 0

/-- The counters of cell `k + 1`. -/
def countersAt (p : Pack) (k : Nat) : CellCounters := p.counters.getD k {}

/-- The three counters of a cell after a reading (R26). -/
def countCell (s : State) (mv : Nat) (c : CellCounters) : CellCounters :=
  { warn := countWhile (faultCount s) (mv < warnMv s) c.warn
    reserve := countWhile (faultCount s) (mv < reserveMv s) c.reserve
    cut := countWhile (faultCount s) (mv < cutMv s) c.cut }

/-- Every cell from 1 to CellCount satisfies `p`. -/
def allCells (s : State) (t : ScanTable) (p : Nat → Bool) : Bool := (List.range (cellCount s)).all fun k => p (cellAt t k)

/-- The pack monitor with a scan written and its counters advanced (R25 to R28). -/
def scannedPack (scan : Scan) (s : State) : Pack :=
  let t := scanTable (cellCount s) scan s.pack.table
  { s.pack with
    table := t
    counters := tab 4 fun k =>
      if k < cellCount s then countCell s (cellAt t k) (countersAt s.pack k) else countersAt s.pack k
    recovery := countWhile (faultCount s) (allCells s t fun v => warnMv s + hystMv s ≤ v) s.pack.recovery
    plausibility := countWhile (faultCount s) (allCells s t fun v => 2500 ≤ v && v ≤ 4300) s.pack.plausibility }

/-- The cells, numbered from 0, whose counter picked by `which` holds its condition (R26). -/
def holdingCells (s : State) (which : CellCounters → Nat) : List Nat :=
  (List.range (cellCount s)).filter fun k => which (countersAt s.pack k) == faultCount s

/-- A pack-wide condition holds (R26). -/
def conditionHolds (s : State) (which : CellCounters → Nat) : Bool := !(holdingCells s which).isEmpty

/-- The pack has recovered (R27). -/
def recovered (s : State) : Bool := s.pack.recovery == faultCount s

/-- The pack is plausible (R28). -/
def plausible (s : State) : Bool := s.pack.plausibility == faultCount s

/-- The cell an incident names: the lowest reading among the holding cells, the lowest number among equals (R30). -/
def namedCell (t : ScanTable) : List Nat → Nat
  | [] => 0
  | k :: rest => rest.foldl (fun best j => if cellAt t j < cellAt t best then j else best) k

/-- The detail of a cell incident: bits 15 to 13 the cell number, bits 12 to 0 its reading (R30, section 11.5). -/
def cellDetail (s : State) (which : CellCounters → Nat) : Half :=
  let k := namedCell s.pack.table (holdingCells s which)
  BitVec.ofNat 16 ((k + 1) * 8192 + cellAt s.pack.table k)

/-! ### Pack states (R29 to R32, R38) -/

/-- The cause codes of a TRIP (section 11.2). -/
inductive TripCause where
  | overcurrent | latched | cellCut | cellCount
deriving DecidableEq, Repr

/-- The cause code as carried. -/
def TripCause.code : TripCause → Byte
  | .overcurrent => 1
  | .latched => 2
  | .cellCut => 3
  | .cellCount => 4

/-- A TRIP record is queued and handed to the pack station's own share unit (R18, R46). -/
def queueTrip (state : PackState) (cause : TripCause) (s : State) : State :=
  takeTrip (queueFrame .trip [state.code, cause.code] s)

/-- The pack monitor as it enters CUTOFF (R31, R38). -/
def cutoffPack (grace : Nat) (p : Pack) : Pack :=
  { p with
    state := .cutoff
    trim := 0
    holdTimer := none
    quietTimer := none
    quietPhase := false
    closed := p.closed && grace != 0
    cutGrace := if p.closed && grace != 0 then some grace else none }

/-- CUTOFF is entered: the incident, the state, the TRIP (R30, R31, R38, R46). -/
def enterCutoff (s : State) : State :=
  queueTrip .cutoff .cellCut <|
    (record .cellCut (cellDetail s CellCounters.cut) s).setPack (cutoffPack (cutGraceMs s) s.pack)

/-- The state rules of a scan completion in RUN: at most one transition (R30, R38). -/
def packRules (s : State) : State :=
  let cut := conditionHolds s CellCounters.cut
  let reserve := conditionHolds s CellCounters.reserve
  let warn := conditionHolds s CellCounters.warn
  let toReserve : State :=
    (record .cellReserve (cellDetail s CellCounters.reserve) s).setPack { s.pack with state := .reserve }
  match s.pack.state with
  | .normal =>
    if cut then enterCutoff s
    else if reserve then toReserve
    else if warn then (record .cellWarn (cellDetail s CellCounters.warn) s).setPack { s.pack with state := .limit }
    else s
  | .limit =>
    if cut then enterCutoff s
    else if reserve then toReserve
    else if recovered s then s.setPack { s.pack with state := .normal }
    else s
  | .reserve => if cut then enterCutoff s else s
  | .tripped =>
    if cut then enterCutoff s
    else if reserve && (s.pack.returnState == some .normal || s.pack.returnState == some .limit) then
      (record .cellReserve (cellDetail s CellCounters.reserve) s).setPack { s.pack with returnState := some .reserve }
    else s
  | .check | .cutoff | .fault => s

/-! ### The allowance computation (R39 to R45) -/

/-- StateCap (R40). -/
def stateCap (s : State) : Nat :=
  match s.pack.state with
  | .normal => packMax s
  | .limit => packMax s / 2
  | .reserve => min (reserveCap s) (packMax s)
  | .check | .cutoff | .tripped | .fault => 0

/-- SagCap (R41). -/
def sagCap (s : State) : Nat :=
  let v := s.pack.table.vMin
  if kneeMv s ≤ v then packMax s
  else if v ≤ floorMv s then 0
  else packMax s * (v - floorMv s) / (kneeMv s - floorMv s)

/-- HeatCap (R41). -/
def heatCap (s : State) : Nat :=
  let t := s.pack.table.temp
  if s.pack.table.sensorFault then min (reserveCap s) (packMax s)
  else if t ≤ heatKnee s then packMax s
  else if heatStop s ≤ t then 0
  else packMax s * (heatStop s - t).toNat / (heatStop s - heatKnee s).toNat

/-- RampCap after its update (R42). -/
def nextRampCap (s : State) : Nat := if s.pack.closed then min (s.pack.rampCap + softStep s) (packMax s) else s.pack.rampCap

/-- Trim after its update (R43). -/
def nextTrim (s : State) : Nat :=
  let i := s.pack.table.current
  let reach := s.pack.aPrev + trimBand s
  min (packMax s) <|
    if reach < i then s.pack.trim + max 1 ((i - reach) / 4)
    else if i < s.pack.aPrev ∧ 0 < s.pack.trim then s.pack.trim - 1
    else s.pack.trim

/-- The Base (R42). -/
def baseCap (s : State) : Nat := min (min (stateCap s) (sagCap s)) (min (heatCap s) (nextRampCap s))

/-- The allowance A: Base less the updated Trim, and not below 0 (R44). -/
def allowanceOf (s : State) : Nat := baseCap s - nextTrim s

/-- The data bytes of an ALLOWANCE frame (R45, section 11.2). -/
def allowanceData (s : State) (allowance : Nat) : List Byte :=
  [natByte allowance, s.pack.state.code] ++ natBytes2 s.pack.table.vMin ++
    [natByte s.pack.table.current, BitVec.ofInt 8 s.pack.table.temp]

/-- The computation and its publication: the record is queued and enters the station's own Latest Records (R39 to R45). -/
def publishAllowance (s : State) : State :=
  let a := allowanceOf s
  let data := allowanceData s a
  acceptAllowance data <| queueFrame .allowance data <|
    s.setPack { s.pack with rampCap := nextRampCap s, trim := nextTrim s, aPrev := a }

/-! ### Scan completion (R21, R24) -/

/-- SENSOR at a faulty scan: the flag, and an incident where it was not yet set (R24). -/
def noteSensor (s : State) : State :=
  if s.pack.table.sensorFault && !s.ctl.faults.sensor then
    record .sensor 0 (setFaults { s.ctl.faults with sensor := true } s)
  else s

/-- A scan completion: the table and counters in every state; in RUN the state rules, then the allowance (R21). -/
def scanCompleted (scan : Scan) (s : State) : State :=
  if roleIs s .pack then
    let t := noteSensor (s.setPack (scannedPack scan s))
    if inRun t then publishAllowance (packRules t) else t
  else s

/-- SCAN_COMPLETION (R21). -/
def execScanCompletion (scan : Scan) (s : State) : Host.Outcome State Fault Refusal := live s (scanCompleted scan)

/-! ### The CHECK timer and the main switch (R29, R32, R33) -/

/-- A switch closing into a pack state: RampCap and Trim 0 (R33). -/
def closeSwitch (into : PackState) (p : Pack) : Pack := { p with state := into, closed := true, rampCap := 0, trim := 0 }

/-- The CHECK timer's expiry (R29, R32). -/
def checkExpired (s : State) : State :=
  if roleIs s .pack && inRun s && s.pack.state == .check && s.pack.checkTimer.isSome then
    let p := { s.pack with checkTimer := none }
    if plausible s then s.setPack (closeSwitch .normal p)
    else
      queueTrip .fault .cellCount <| record .packFault 4 <| setFaults { s.ctl.faults with packFault := true } <|
        s.setPack { p with state := .fault, trim := 0 }
  else s

/-- CHECK_TIMER_EXPIRY (R29). -/
def execCheckTimerExpiry (s : State) : Host.Outcome State Fault Refusal := live s checkExpired

/-- The CutGrace timer's expiry: the main switch opens (R31). -/
def graceExpired (s : State) : State :=
  if roleIs s .pack && inRun s && s.pack.cutGrace.isSome then s.setPack { s.pack with cutGrace := none, closed := false } else s

/-- CUTGRACE_EXPIRY (R31). -/
def execCutgraceExpiry (s : State) : Host.Outcome State Fault Refusal := live s graceExpired

/-! ### The trip comparator and the re-arm (R34 to R37) -/

/-- A pack trip from NORMAL, LIMIT or RESERVE (R34, R35). -/
def trippedPack (p : Pack) : Pack :=
  let count := satSucc 255 p.tripCount
  { p with
    tripCount := count
    closed := false
    returnState := some p.state
    state := .tripped
    trim := 0
    latched := count == 3
    quietPhase := false
    quietTimer := none
    holdTimer := if count == 3 then none else some 2000 }

/-- A pack trip: the current above PackTrip with the switch closed; its detail is the current rounded down (R34, R35). -/
def packTripped (current : Current) (s : State) : State :=
  if roleIs s .pack && s.pack.closed && exceeds current (packTripLevel s) then
    let detail : Half := BitVec.ofNat 16 (min 255 current.whole)
    let noted := record .packTrip detail s
    if s.pack.state == .cutoff then
      noted.setPack { s.pack with
        tripCount := satSucc 255 s.pack.tripCount, closed := false, cutGrace := none }
    else
      let p := trippedPack s.pack
      let t := noted.setPack p
      if p.latched then queueTrip .tripped .latched (record .tripLatched 0 t) else queueTrip .tripped .overcurrent t
  else s

/-- PACK_TRIP (R34). -/
def execPackTrip (current : Current) (s : State) : Host.Outcome State Fault Refusal := live s (packTripped current)

/-- Quietness in the quiet phase: the quiet timer runs while the throttle is quiet (R36, R37). -/
def packQuiet (s : State) : State :=
  if roleIs s .pack && s.pack.state == .tripped && s.pack.quietPhase then
    s.setPack { s.pack with quietTimer := if throttleQuiet s then some (s.pack.quietTimer.getD 1000) else none }
  else s

/-- The hold timer's expiry: the quiet phase begins (R36). -/
def holdExpired (s : State) : State :=
  if roleIs s .pack && inRun s && s.pack.state == .tripped && s.pack.holdTimer.isSome then
    packQuiet (s.setPack { s.pack with holdTimer := none, quietPhase := true })
  else s

/-- HOLD_TIMER_EXPIRY (R36). -/
def execHoldTimerExpiry (s : State) : Host.Outcome State Fault Refusal := live s holdExpired

/-- The quiet timer's expiry: the re-arm into the return state (R36). -/
def quietExpired (s : State) : State :=
  if roleIs s .pack && inRun s && s.pack.state == .tripped && s.pack.quietTimer.isSome then
    s.setPack { closeSwitch (s.pack.returnState.getD .normal) s.pack with
      holdTimer := none, quietTimer := none, quietPhase := false }
  else s

/-- QUIET_TIMER_EXPIRY (R36). -/
def execQuietTimerExpiry (s : State) : Host.Outcome State Fault Refusal := live s quietExpired

end Sys2Proof.Machine
end

