-- ==== Sys2Proof/Machine/Records.lean ====
section
/-! DEFINITION. The Peer Table and the Latest Records as frames and ages move them (R13 to R20), and the demand source. -/

namespace Sys2Proof.Machine

/-! ### DEMAND (R8, R10, R16, R17, R19, R20) -/

/-- The DEMAND record handed on after an acceptance, or after a change of its band or of ISOLATED: the FAILSAFE
evaluation, the steering unit, the bridge unit, the winch controller, the pack monitor, the lamp unit (R16; log 8). -/
def demandReact (accepted : Bool) (s : State) : State :=
  evalCues <| packQuiet <| winchReact accepted <| bridgeReact accepted <| steerReact accepted <| evalConditions s

/-- A band of a record in use: FRESH or STALE. -/
def Band.inUse : Band → Bool
  | .fresh | .stale => true
  | .none | .lost => false

/-- The DEMAND-LOST incident of a station in RUN whose record passes from FRESH or STALE into LOST (R17). -/
def noteDemandLost (before after : Band) (s : State) : State :=
  if inRun s && before.inUse && after == .lost then record .demandLost 0 s else s

/-- A DEMAND accepted into its record (R16, R17). The link code 3 makes it LOST as code 2 does, and is out of range, so it
records no incident (R172; DEDUCED, log 37). -/
def acceptDemand (source : Publisher) (data : List Byte) (s : State) : State :=
  let r := readDemand source data
  let t := s.setLatest { s.latest with demand := r }
  demandReact true (if r.link = 3 then t else noteDemandLost s.latest.demand.band r.band t)

/-- The RADIO station hears a DEMAND of another publisher: DEMAND-CONFLICT, its incident once, and a lower address
silences (R20). -/
def noteConflict (source : Publisher) (s : State) : State :=
  if s.ctl.radio && publisherAddress source != ownAddress s then
    let f := s.ctl.faults
    let a := setFaults { f with demandConflict := true } s
    let b := if f.demandConflict then a else record .demandConflict 0 a
    if publisherAddress source < ownAddress s then withdrawDemand b else b
  else s

/-- The arriving address becomes or stays the demand source (R19): the source is none, or is not a lower address. -/
def takesSource (source : Publisher) : Option Publisher → Bool
  | none => true
  | some old => decide (publisherAddress source ≤ publisherAddress old)

/-- A DEMAND of a publisher arrives, or the station's own is queued: the conflict, the DEMAND age, the source, the
acceptance (R16, R19, R20). -/
def demandArrives (source : Publisher) (data : List Byte) (s : State) : State :=
  let a := noteConflict source s
  let b := a.setLatest (a.latest.putAge source (some 0))
  if takesSource source b.latest.source then acceptDemand source data (b.setLatest { b.latest with source := some source })
  else b

/-! ### Frames taken in (R13, R16, R18) -/

/-- An intact DEMAND frame is delivered: addresses other than 0, 1 and 4 are ignored (R19). -/
def deliverDemand (source : BitVec 4) (data : List Byte) (s : State) : State :=
  match sourcePublisher source with
  | some p => demandArrives p data s
  | none => s

/-- An intact STATION frame is delivered: the entry, the cues and the blink alignment, REAR's split check (R13). -/
def deliverStation (source : BitVec 4) (data : List Byte) (s : State) : State :=
  match sourceRole source with
  | some r =>
    let t := alignBlink r (evalCues (s.setPeers (s.peers.put r (readStation data))))
    if roleIs s .rear && r == .front then splitCheck t else t
  | none => s

/-- An intact ALLOWANCE frame is delivered: only that of address 3 is accepted (R16). -/
def deliverAllowance (source : BitVec 4) (data : List Byte) (s : State) : State :=
  if source = 3 then acceptAllowance data s else s

/-- An intact WINCH frame is delivered: only that of address 2 is accepted; the assist cap is re-evaluated (R16, R103). -/
def deliverWinch (source : BitVec 4) (data : List Byte) (s : State) : State :=
  if source = 2 then evalAssist (s.setLatest { s.latest with winch := readWinch data }) else s

/-- An intact TRIP frame is delivered: only that of address 3 is handed on (R18). -/
def deliverTrip (source : BitVec 4) (_data : List Byte) (s : State) : State :=
  if source = 3 then takeTrip s else s

/-! ### Ages that cross a bound -/

/-- The DEMAND age of an address passes 250 ms: the source passes to the lowest current address (R19). -/
def sourceExpired (p : Publisher) (s : State) : State :=
  match s.latest.ageOf p with
  | none => s
  | some age =>
    let l := s.latest.putAge p (some (max age 251))
    s.setLatest (if l.source = some p then { l with source := lowestCurrent l } else l)

/-- DEMAND_SOURCE_EXPIRY (R19). -/
def execDemandSourceExpiry (p : Publisher) (s : State) : Host.Outcome State Fault Refusal := live s (sourceExpired p)

/-- The DEMAND record's age passes 60 ms: FRESH becomes STALE (R8, R17). -/
def demandStale (s : State) : State :=
  let r := s.latest.demand
  if r.held && r.band == .fresh then
    demandReact false (s.setLatest { s.latest with demand := { r with band := .stale, age := max r.age 61 } })
  else s

/-- DEMAND_RECORD_STALE (R17). -/
def execDemandRecordStale (s : State) : Host.Outcome State Fault Refusal := live s demandStale

/-- The DEMAND record's age passes 250 ms: it is LOST, with its incident in RUN (R10, R17). -/
def demandLostNow (s : State) : State :=
  let r := s.latest.demand
  if r.held && r.band.inUse then
    demandReact false <| noteDemandLost r.band .lost <|
      s.setLatest { s.latest with demand := { r with band := .lost, age := max r.age 251 } }
  else s

/-- DEMAND_RECORD_LOST (R17). -/
def execDemandRecordLost (s : State) : Host.Outcome State Fault Refusal := live s demandLostNow

/-- A peer's presence changes with its age: LIVE to STALE, STALE to LOST (R14). -/
def agedPeer (e : Peer) : Peer :=
  match e.presence with
  | .live => { e with presence := .stale, age := max e.age 61 }
  | .stale => { e with presence := .lost, age := max e.age 201 }
  | .absent | .lost => e

/-- A peer's presence changes: the cues, and REAR's split check where the peer is FRONT (R14, R85). -/
def presenceChanged (r : Role) (s : State) : State :=
  let e := s.peers.at r
  if !roleIs s r && e.heard then
    let t := evalCues (s.setPeers (s.peers.put r (agedPeer e)))
    if roleIs s .rear && r == .front then splitCheck t else t
  else s

/-- PEER_PRESENCE_CHANGE (R14). -/
def execPeerPresenceChange (r : Role) (s : State) : Host.Outcome State Fault Refusal := live s (presenceChanged r)

end Sys2Proof.Machine
end

