-- ==== Sys2Proof/Machine/CaptureUnit.lean ====
section
/-! DEFINITION. The capture unit and the demand builder of the RADIO station (chapter 4). -/

namespace Sys2Proof.Machine

/-! ### Link state and throttle arming (R75, R76) -/

/-- The record of channel `c`. -/
def channelAt (s : State) (c : Nat) : Channel := s.cap.channels.getD c {}

/-- A channel counts as LOST for the link state: its band is LOST, or it was never refreshed (R71, R81). -/
def channelLost (c : Channel) : Bool := c.band == .lost || c.band == .none

/-- The link state of the bands of channels 0 and 1 (R75). -/
def linkOf (c0 c1 : Channel) : Link :=
  if channelLost c0 || channelLost c1 then .lost
  else if c0.band == .fresh && c1.band == .fresh then .good
  else .hold

/-- The link state re-evaluated; in RUN a change to LOST disarms the throttle (R75). -/
def evalLink (s : State) : State :=
  let link := linkOf (channelAt s 0) (channelAt s 1)
  let disarms := inRun s && link == .lost && s.dem.link != .lost
  s.setDem { s.dem with
    link := link
    armed := s.dem.armed && !disarms
    armingTimer := if disarms then none else s.dem.armingTimer }

/-- The three things of R76 hold in RUN. -/
def mayArm (s : State) : Bool :=
  inRun s && !s.dem.armed && s.dem.link != .lost && (channelAt s 0).band == .fresh && (channelAt s 0).value == 0

/-- The arming timer runs while they hold (R76). -/
def armingRule (s : State) : State :=
  s.setDem { s.dem with armingTimer := if mayArm s then some (s.dem.armingTimer.getD 500) else none }

/-- The demand builder takes an event of channel 0 or 1 (R75, R76). -/
def channelEvent (c : Nat) (s : State) : State := if c ≤ 1 then armingRule (evalLink s) else s

/-! ### Widths (R68, R72, R73) -/

/-- The width lies within 750 to 2250 µs (R68). -/
def widthValid (width : Nat) : Bool := decide (750 ≤ width) && decide (width ≤ 2250)

/-- The value of a width on channel `c` (R72). -/
def channelValue (s : State) (c width : Nat) : Int :=
  let raw := limitTo (-1000) 1000 (towardZero ((width - centreOf s c) * 1000) (halfSpanOf s c))
  let v := if raw.natAbs ≤ deadbandOf s c then 0 else raw
  if reverseOf s c = 1 then -v else v

/-- The zone after a value, from the zone before (R73). -/
def nextZone (before : Zone) (v : Int) : Zone :=
  match before with
  | .none => if v < -333 then .low else if v ≤ 333 then .mid else .high
  | .low => if 383 < v then .high else if -283 < v then .mid else .low
  | .mid => if v < -383 then .low else if 383 < v then .high else .mid
  | .high => if v < -383 then .low else if v < 283 then .mid else .high

/-- The record of channel `c` after a valid width (R68). -/
def channelWith (s : State) (c width : Nat) : Channel :=
  let v := channelValue s c width
  let old := channelAt s c
  { width := width, value := v, zone := if 2 ≤ c then nextZone old.zone v else .none, age := 0, band := .fresh }

/-- The record of channel `c` replaced. -/
def putChannel (c : Nat) (r : Channel) (s : State) : State :=
  s.setCap { s.cap with channels := tab 6 fun k => if k = c then r else channelAt s k }

/-- The rejected count adds 1 (R68, R70). -/
def rejectWidth (s : State) : State := s.setCap { s.cap with rejected := satSucc 255 s.cap.rejected }

/-- A closed width is judged; `long` is its long flag (R67, R68). -/
def judgeWidth (c width : Nat) (long : Bool) (s : State) : State :=
  if widthValid width && !long then channelEvent c (putChannel c (channelWith s c width) s) else rejectWidth s

/-! ### Separate mode (R66, R67) -/

/-- The edge is an active edge (R66). -/
def activeEdge (s : State) (rising : Bool) : Bool := if pulsePolarity s = 0 then rising else !rising

/-- The open measurement of a pin replaced. -/
def putOpened (c : Nat) (m : Option Measure) (s : State) : State :=
  s.setCap { s.cap with opened := tab 6 fun k => if k = c then m else s.cap.opened.getD k none }

/-- The level of CAPc after an edge. -/
def setLevel (c : Nat) (high : Bool) (s : State) : State :=
  s.setPins { s.pins with
    caps := if high then s.pins.caps ||| BitVec.ofNat 6 (2 ^ c) else s.pins.caps &&& ~~~ BitVec.ofNat 6 (2 ^ c) }

/-- An edge on a capture pin in Separate mode; the timer reaches the edge's stamp before the measurement is closed
(R65, R67). -/
def edgeCaptured (c : Nat) (rising : Bool) (stamp : Half) (s : State) : State :=
  if s.ctl.radio && captureMode s == 0 then
    let t := stampTimer stamp (setLevel c rising s)
    if activeEdge s rising then putOpened c (some ⟨stamp, false⟩) t
    else match t.cap.opened.getD c none with
      | some m => judgeWidth c (stamp - m.start).toNat m.long (putOpened c none t)
      | none => t
  else s

/-- CAPTURE_EDGE (R67). -/
def execCaptureEdge (channel : Fin 6) (rising : Bool) (stamp : Half) (s : State) : Host.Outcome State Fault Refusal :=
  live s (edgeCaptured channel rising stamp)

/-! ### Train mode (R69, R70) -/

/-- An interval as the unit counts it: 65536 or more where the long flag is set (R69). -/
def intervalOf (m : Measure) (stamp : Half) : Nat := (stamp - m.start).toNat + (if m.long then 65536 else 0)

/-- The train state replaced. -/
def setTrain (f : Train → Train) (s : State) : State := s.setCap { s.cap with train := f s.cap.train }

/-- One slot of a train frame (R70). -/
def takeSlot (k interval : Nat) (s : State) : State :=
  if 8 ≤ k then setTrain (fun t => { t with inFrame := false }) s
  else if 6 ≤ k || s.cap.train.incomplete then s
  else if widthValid interval then judgeWidth k interval false s
  else rejectWidth (setTrain (fun t => { t with incomplete := true }) s)

/-- An interval between two active edges on CAP0 (R69). -/
def takeInterval (interval : Nat) (s : State) : State :=
  let k := s.cap.train.slot
  if 3000 ≤ interval then setTrain (fun t => { t with inFrame := true, slot := 0, incomplete := false }) s
  else if s.cap.train.inFrame then takeSlot k interval (setTrain (fun t => { t with slot := k + 1 }) s)
  else s

/-- An edge on CAP0 in Train mode: an active one, by PulsePolarity, ends the interval since the one before it, an
inactive one is ignored (R66, R69). -/
def trainCaptured (rising : Bool) (stamp : Half) (s : State) : State :=
  if s.ctl.radio && captureMode s == 1 then
    let a := stampTimer stamp (setLevel 0 rising s)
    if activeEdge s rising then
      let t := setTrain (fun x => { x with prev := some ⟨stamp, false⟩ }) a
      match a.cap.train.prev with
      | some m => takeInterval (intervalOf m stamp) t
      | none => t
    else a
  else s

/-- TRAIN_EDGE (R69). -/
def execTrainEdge (edge : Edge) (s : State) : Host.Outcome State Fault Refusal :=
  live s (trainCaptured edge.rising edge.stamp)

/-- The timer comes round to the first edge's count: the long flag of the open measurement is set (R65). -/
def longFlagged (c : Nat) (s : State) : State :=
  if !s.ctl.radio then s
  else if captureMode s == 1 then
    if c = 0 then setTrain (fun x => { x with prev := x.prev.map fun m => { m with long := true } }) s else s
  else putOpened c ((s.cap.opened.getD c none).map fun m => { m with long := true }) s

/-- LONG_FLAG (R65). -/
def execLongFlag (channel : Fin 6) (s : State) : Host.Outcome State Fault Refusal := live s (longFlagged channel)

/-! ### Bands (R71) -/

/-- A channel's band changes with its age: FRESH to STALE, STALE to LOST (R71). -/
def agedChannel (r : Channel) : Channel :=
  match r.band with
  | .fresh => { r with band := .stale, age := max r.age 61 }
  | .stale => { r with band := .lost, age := max r.age 251 }
  | .none | .lost => r

/-- A band change of channel `c`, handed to the demand builder for channels 0 and 1 (R71, R75, R76). -/
def bandChanged (c : Nat) (s : State) : State :=
  if s.ctl.radio && (channelAt s c).band.inUse then channelEvent c (putChannel c (agedChannel (channelAt s c)) s) else s

/-- CHANNEL_BAND_CHANGE (R71). -/
def execChannelBandChange (channel : Fin 6) (s : State) : Host.Outcome State Fault Refusal := live s (bandChanged channel)

/-- The arming timer's expiry in RUN: the armed flag is set (R76). -/
def armingExpired (s : State) : State :=
  if s.ctl.radio && inRun s && s.dem.armingTimer.isSome then
    s.setDem { s.dem with armed := true, armingTimer := none }
  else s

/-- ARMING_TIMER_EXPIRY (R76). -/
def execArmingTimerExpiry (s : State) : Host.Outcome State Fault Refusal := live s armingExpired

/-! ### The DEMAND record (R74, R77 to R79) -/

/-- All six channels are FRESH (R77). -/
def allFresh (s : State) : Bool := ([0, 1, 2, 3, 4, 5] : List Nat).all fun c => (channelAt s c).band == .fresh

/-- The quality: how many of the sixteen entries show all six channels FRESH (R77). -/
def quality (history : List Bool) : Nat := history.countP id

/-- The field a switch channel's zone gives, with the codes of its L, M and H; NONE gives `safe` (R74). -/
def zoneField (z : Zone) (safe low mid high : BitVec 4) : BitVec 4 :=
  match z with
  | .none => safe
  | .low => low
  | .mid => mid
  | .high => high

/-- The throttle a DEMAND carries (R79). -/
def demandThrottle (s : State) : Int :=
  if s.dem.armed && (channelAt s 0).band == .fresh then (channelAt s 0).value else 0

/-- The data bytes of a DEMAND frame at a publication moment (R74, R79, section 11.2). -/
def demandData (s : State) : List Byte :=
  let zone := fun c => (channelAt s c).zone
  intBytes2 (demandThrottle s) ++ intBytes2 (channelAt s 1).value ++
    [0#4 ++ zoneField (zone 2) 0 0 1 2,
     0#4 ++ zoneField (zone 3) 0 1 0 2,
     zoneField (zone 4) 0 1 0 2 ++ zoneField (zone 5) 0 0 1 2,
     s.dem.link.code ++ BitVec.ofBool s.dem.armed ++ BitVec.ofNat 5 (quality s.dem.history)]

/-- The publisher a RADIO station is (R19). -/
def ownPublisher (s : State) : Option Publisher := allPublishers.find? fun p => publisherAddress p == ownAddress s

/-- The quality history advanced by the present moment (R77). -/
def advanceHistory (s : State) : State :=
  s.setDem { s.dem with history := s.dem.history.drop 1 ++ [allFresh s] }

/-- A publication moment: the history advances; a station that is not silenced queues DEMAND and enters it into its own
record (R77, R78, R16). -/
def publishDemand (s : State) : State :=
  let t := advanceHistory s
  match ownPublisher t with
  | some p =>
    if silenced t then t.setDem { t.dem with published := false }
    else
      let data := demandData t
      demandArrives p data (queueFrame .demand data (t.setDem { t.dem with published := true }))
  | none => t

/-- The demand timer's expiry in RUN: a publication moment (R78). -/
def demandTimerExpired (s : State) : State :=
  if s.ctl.radio && inRun s && s.dem.demandTimer.isSome then
    publishDemand (s.setDem { s.dem with demandTimer := some 20 })
  else s

/-- DEMAND_TIMER_EXPIRY (R78). -/
def execDemandTimerExpiry (s : State) : Host.Outcome State Fault Refusal := live s demandTimerExpired

/-- The demand builder at RUN entry: unarmed, the arming rule, the demand timer, the first publication (R76, R78). -/
def demandEnterRun (s : State) : State :=
  if s.ctl.radio then
    publishDemand <| armingRule <| s.setDem { s.dem with armed := false, armingTimer := none, demandTimer := some 20 }
  else s

end Sys2Proof.Machine
end

