-- ==== Sys2Proof/Machine/Station.lean ====
section
/-! DEFINITION. The station controller (chapter 1): resets (R1, R2, R4, R169, R170), the station states (R3 to R7), the
STATION record (R11). -/

namespace Sys2Proof.Machine

/-! ### The STATION record (R11) -/

/-- The data bytes of a STATION frame at queuing (R11, section 11.2). -/
def stationData (s : State) : List Byte :=
  [stateByte s, faultByte s.ctl.faults, cueByte s, natByte s.lamp.phase,
    natByte s.share.wants.k, natByte s.share.wants.a, natByte s.share.wants.b, natByte s.share.wants.c]

/-- A STATION frame is queued and the STATION timer starts again (R11). -/
def queueStation (s : State) : State :=
  queueFrame .station (stationData s) (s.setCtl { s.ctl with stationTimer := some 20 })

/-- The STATION timer's expiry in START, SETUP or RUN (R11). -/
def stationTimerExpired (s : State) : State := if s.ctl.stationTimer.isSome then queueStation s else s

/-- STATION_TIMER_EXPIRY (R11). -/
def execStationTimerExpiry (s : State) : Host.Outcome State Fault Refusal := live s stationTimerExpired

/-! ### Resets (R1, R2, R4, R168 to R170) -/

/-- The kinds of reset (R170). -/
inductive ResetKind where
  | powerOn | pin | restart
deriving DecidableEq, Repr

/-- The stored table after a reset or a HALT: a commit in progress is abandoned and leaves a bad check (R168). -/
def abandonedNvm (s : State) : StoredTable := if s.ctl.commit.isSome then { s.nvm with good := false } else s.nvm

/-- Every piece of state at its chapter's "after every reset" value, the straps and pin levels read, the stored table
kept; the Incident List and its clock go only at a power-on reset (R1, R170). -/
def clearedState (kind : ResetKind) (pins : Pins) (s : State) : State :=
  { pending := s.pending
    ticks := s.ticks
    pins := pins
    nvm := abandonedNvm s
    ctl := { role := pins.role, radio := pins.radio, working := s.ctl.working, held := s.ctl.held }
    log := if kind = .powerOn then {} else s.log }

/-- The working copy loaded and checked; its incidents in the order of the steps (R169). -/
def loadWorking (s : State) : State :=
  let loaded := loadSettings s.nvm
  let a := s.setCtl { s.ctl with
    working := loaded.1
    held := loaded.1
    faults := { s.ctl.faults with settingsDefaulted := !loaded.2.isEmpty } }
  loaded.2.foldl (fun t detail => record .settingsDefaulted (BitVec.ofNat 16 detail) t) a

/-- START on valid straps: the settings, the timers, the shadow at ServoCentre, the HOME level, the first STATION (R4,
R11, R90, R116, R137, R169). The cues of R133 keep their reset values, which are what an evaluation gives here. -/
def beginStart (s : State) : State :=
  let a := loadWorking s
  let b := a.setCtl { a.ctl with startTimer := some 300 }
  let c := b.setLamp { b.lamp with blinkTimer := some 3 }
  let d := c.setSteer { c.steer with shadow := servoCentre c }
  let e := if roleIs d .winch && homeActive d then homeActivated d else d
  queueStation e

/-- A reset: everything cleared, then START, or HALT on a strap fault (R1, R2, R170). -/
def resetStation (kind : ResetKind) (pins : Pins) (s : State) : State :=
  let c := clearedState kind pins s
  if strapFault pins then c.setCtl { c.ctl with station := .halt } else beginStart c

/-- POWER_ON_RESET (R170). -/
def execPowerOnReset (pins : Pins) (s : State) : Host.Outcome State Fault Refusal := .next (resetStation .powerOn pins s)

/-- PIN_RESET (R170). -/
def execPinReset (pins : Pins) (s : State) : Host.Outcome State Fault Refusal := .next (resetStation .pin pins s)

/-! ### RUN, SETUP and HALT (R4, R6, R7) -/

/-- The station controller's part of RUN entry: the DEMAND record not held, FAILSAFE, ISOLATED with its incident (R6,
R9). -/
def controllerEnterRun (s : State) : State :=
  let a := s.setLatest { s.latest with demand := {} }
  let b := a.setCtl { a.ctl with
    station := .run, startTimer := none, failsafe := true, demandHold := false, isolated := a.port.isolation }
  if b.ctl.isolated then record .isolated 0 b else b

/-- The pack monitor at RUN entry: the CHECK timer (R29). -/
def packEnterRun (s : State) : State := if roleIs s .pack then s.setPack { s.pack with checkTimer := some 500 } else s

/-- RUN entry: the controller, the STATION frame, then every block in use, the share unit after all of them (R6, R52;
log 8). -/
def enterRun (s : State) : State :=
  shareEnterRun <| demandEnterRun <| lampsEnterRun <| packEnterRun <| winchEnterRun <| bridgeEnterRun <|
    steerEnterRun <| queueStation <| controllerEnterRun s

/-- The start timer's expiry in START (R6). -/
def startTimerExpired (s : State) : State := if s.ctl.station == .start && s.ctl.startTimer.isSome then enterRun s else s

/-- START_TIMER_EXPIRY (R6). -/
def execStartTimerExpiry (s : State) : Host.Outcome State Fault Refusal := live s startTimerExpired

/-- SETUP is entered from START: the start timer stops, the cues are re-evaluated and a STATION is queued (R4, R11,
R133). -/
def enterSetup (s : State) : State :=
  queueStation (evalCues (s.setCtl { s.ctl with station := .setup, startTimer := none }))

/-- The bus port at the entry to HALT: the queue and the shift buffer emptied, CBL released (R7, R160). -/
def haltPort (p : BusPort) : BusPort := { p with port := .waitIdle, recessive := 0, slots := {}, shift := none }

/-- The pack monitor at the entry to HALT: the main switch open, its timers stopped (R3, R33). -/
def haltPack (p : Pack) : Pack :=
  { p with closed := false, checkTimer := none, cutGrace := none, holdTimer := none, quietTimer := none }

/-- HALT is entered: the port, the conditions, the safe output set, the cues re-evaluated outside RUN, every timer
stopped, a commit abandoned (R3, R7, R53, R93, R111, R133, R144, R168). -/
def enterHalt (s : State) : State :=
  let a := s.setNvm (abandonedNvm s)
  let b := a.setCtl { a.ctl with
    station := .halt, failsafe := false, demandHold := false, isolated := false, startTimer := none
    stationTimer := none, commit := none }
  let c := winchStop <| bridgeStop <| steerStop <| b.setPort (haltPort b.port)
  let d := darkenLamps (evalCues (c.setLamp { c.lamp with blinkTimer := none }))
  ((d.setPack (haltPack d.pack)).setShare { d.share with timer := none }).setDem
    { d.dem with armingTimer := none, demandTimer := none }

end Sys2Proof.Machine
end

