-- ==== Sys2Proof/Machine/Service.lean ====
section
/-! DEFINITION. Frames that arrive over CBL (R150 to R153, R159), service frames and their answers (chapter 10, R171),
and the FETCH payloads (section 11.4). -/

namespace Sys2Proof.Machine

/-! ### A frame arrives (R152, R153, R159) -/

/-- A receive error: counted, its kind kept, no echo, WAIT-IDLE with the count at 0 (R152). -/
def receiveError (e : RxError) (s : State) : State :=
  s.setPort { s.port with
    port := .waitIdle, recessive := 0, rxErrors := satSucc 255 s.port.rxErrors, lastError := some e, echo := .silent }

/-- The port takes a frame: RECEIVE, with the measured pace span (R148, R155). -/
def beginReceive (span : Nat) (s : State) : State :=
  s.setPort { s.port with port := .receive, recessive := 0, paceSpan := span, stuckCounted := false }

/-- The end of the echo slot of an intact frame: the echo was driven, WAIT-IDLE with the count at 0 (R153, R155). -/
def endEcho (span : Nat) (s : State) : State :=
  if s.ctl.station == .halt then s
  else s.setPort { s.port with port := .waitIdle, recessive := 0, echo := .echo, paceSpan := span }

/-- A clash: the echo slot and the clash mark are driven, then HALT (R159). -/
def detectClash (s : State) : State := enterHalt (s.setPort { s.port with echo := .clashMark })

/-- A port that takes a frame: the station is not in HALT and is not sending (R7, R155). -/
def listening (s : State) : Bool := s.ctl.station != .halt && s.port.port != .send

/-- A frame arrives with first identifier byte `first`: the errors of R152, the clash of R159, the delivery of R153
through `deliver`, and the echo. -/
def frameArrives (first : Byte) (rx : Rx) (data : List Byte) (deliver : BitVec 4 → List Byte → State → State)
    (s : State) : State :=
  if listening s then
    let a := beginReceive rx.span s
    match receive first rx data with
    | .error e => receiveError e a
    | .intact d =>
      if rx.source.toNat = ownAddress a then detectClash a
      else endEcho rx.span (if lengthAllowed first d.length then deliver rx.source d a else a)
  else s

/-- A frame that is echoed and delivered to nobody (R153). -/
def echoOnly (_source : BitVec 4) (_data : List Byte) (s : State) : State := s

/-- STATION_FRAME (R13, R153). -/
def execStationFrame (rx : Rx) (data : List Byte) (s : State) : Host.Outcome State Fault Refusal :=
  .next (frameArrives 0x61 rx data deliverStation s)

/-- DEMAND_FRAME (R16, R19, R20, R153). -/
def execDemandFrame (rx : Rx) (data : List Byte) (s : State) : Host.Outcome State Fault Refusal :=
  .next (frameArrives 0x21 rx data deliverDemand s)

/-- ALLOWANCE_FRAME (R16, R51, R153). -/
def execAllowanceFrame (rx : Rx) (data : List Byte) (s : State) : Host.Outcome State Fault Refusal :=
  .next (frameArrives 0x01 rx data deliverAllowance s)

/-- WINCH_FRAME (R16, R103, R153). -/
def execWinchFrame (rx : Rx) (data : List Byte) (s : State) : Host.Outcome State Fault Refusal :=
  .next (frameArrives 0x41 rx data deliverWinch s)

/-- TRIP_FRAME (R18, R50, R153). -/
def execTripFrame (rx : Rx) (data : List Byte) (s : State) : Host.Outcome State Fault Refusal :=
  .next (frameArrives 0x02 rx data deliverTrip s)

/-- ANSWER_FRAME (R153). -/
def execAnswerFrame (rx : Rx) (data : List Byte) (s : State) : Host.Outcome State Fault Refusal :=
  .next (frameArrives 0x82 rx data echoOnly s)

/-- UNKNOWN_TOPIC_FRAME: echoed, delivered to nobody (R153). -/
def execUnknownTopicFrame (first : Byte) (rx : Rx) (data : List Byte) (s : State) : Host.Outcome State Fault Refusal :=
  .next (frameArrives first rx data echoOnly s)

/-! ### Answers (R164, R171) -/

/-- The results of an ANSWER (R171). -/
inductive AnswerResult where
  | ok | unknown | outOfRange | wrongState | busy | writeFailed
deriving DecidableEq, Repr

/-- The result code in bits 7 to 5 (R171). -/
def AnswerResult.code : AnswerResult → BitVec 3
  | .ok => 0
  | .unknown => 1
  | .outOfRange => 2
  | .wrongState => 3
  | .busy => 4
  | .writeFailed => 5

/-- The data bytes of an ANSWER: the target, kind and result, the index, the payload (R171). -/
def answerData (asker : BitVec 4) (kind : BitVec 5) (result : AnswerResult) (index : Byte) (payload : List Byte) : List Byte :=
  (0#4 ++ asker) :: (result.code ++ kind) :: index :: payload

/-- An ANSWER is queued (R164). -/
def answer (asker : BitVec 4) (kind : BitVec 5) (result : AnswerResult) (index : Byte) (payload : List Byte) (s : State) :
    State :=
  queueFrame .answer (answerData asker kind result index payload) s

/-- The frame's target byte is the station's own address or 15 (R164). -/
def targeted (s : State) (target : Byte) : Bool := target.toNat == ownAddress s || target == 15

/-- A service frame is taken where its target byte names this station (R164). -/
def serve (take : BitVec 4 → State → State) (source : BitVec 4) (data : List Byte) (s : State) : State :=
  if targeted s (byteAt data 0) then take source s else s

/-! ### HOLD, SETTING, RELEASE, RESTART, the commit (R166 to R168) -/

/-- HOLD taken: SETUP from START, WRONG-STATE elsewhere (R4, R167). -/
def takeHold (source : BitVec 4) (s : State) : State :=
  if s.ctl.station == .start then answer source 20 .ok 0 [] (enterSetup s) else answer source 20 .wrongState 0 [] s

/-- HOLD (R167). -/
def execHold (rx : Rx) (data : List Byte) (s : State) : Host.Outcome State Fault Refusal :=
  .next (frameArrives 0x84 rx data (serve takeHold) s)

/-- Ids read as signed: the bank factors (R166). -/
def signedSetting (id : Nat) : Bool := decide (32 ≤ id) && decide (id ≤ 37)

/-- The value a SETTING carries for an id (R166). -/
def settingValue (id : Nat) (value : Half) : Int := if signedSetting id then value.toInt else value.toNat

/-- The result of a SETTING (R166). -/
def settingResult (s : State) (id : Nat) (value : Half) : AnswerResult :=
  if s.ctl.station != .setup then .wrongState
  else if s.ctl.commit.isSome then .busy
  else match settingRow id with
    | none => .unknown
    | some r => if r.admits (settingValue id value) then .ok else .outOfRange

/-- SETTING taken: only an OK changes the working copy (R166). -/
def takeSetting (id : Byte) (value : Half) (source : BitVec 4) (s : State) : State :=
  let result := settingResult s id.toNat value
  answer source 19 result id [] <|
    if result = .ok then
      s.setCtl { s.ctl with working := s.ctl.working.set id.toNat (settingValue id.toNat value) }
    else s

/-- SETTING (R166). -/
def execSetting (rx : Rx) (target id value : List Byte) (s : State) : Host.Outcome State Fault Refusal :=
  let data := target ++ id ++ value
  .next (frameArrives 0x83 rx data (serve (takeSetting (byteAt data 1) (half (byteAt data 2) (byteAt data 3)))) s)

/-- RELEASE taken: in SETUP the commit starts; it is answered by COMMIT_END or by the restart (R168). -/
def takeRelease (source : BitVec 4) (s : State) : State :=
  if s.ctl.station != .setup then answer source 21 .wrongState 0 [] s
  else if s.ctl.commit.isSome then answer source 21 .busy 0 [] s
  else s.setCtl { s.ctl with commit := some ⟨source, 0⟩ }

/-- RELEASE (R168). -/
def execRelease (rx : Rx) (data : List Byte) (s : State) : Host.Outcome State Fault Refusal :=
  .next (frameArrives 0x85 rx data (serve takeRelease) s)

/-- RESTART taken: BUSY during a commit, otherwise the restart (R167). -/
def takeRestart (pins : Pins) (source : BitVec 4) (s : State) : State :=
  if s.ctl.commit.isSome then answer source 22 .busy 0 [] s else resetStation .restart pins s

/-- RESTART (R167). -/
def execRestart (rx : Rx) (data : List Byte) (pins : Pins) (s : State) : Host.Outcome State Fault Refusal :=
  .next (frameArrives 0x86 rx data (serve (takeRestart pins)) s)

/-- The stored table, read back, matches the working copy (R168). -/
def commitMatches (s : State) (stored : StoredTable) : Bool := storedItems stored.items == storedItems s.ctl.working

/-- The commit ends: a match restarts; a mismatch is answered WRITE-FAILED and recorded (R168). -/
def commitEnded (stored : StoredTable) (pins : Pins) (s : State) : State :=
  match s.ctl.commit with
  | none => s
  | some c =>
    let a := (s.setNvm stored).setCtl { s.ctl with commit := none }
    if commitMatches s stored then resetStation .restart pins a
    else record .settingsWrite 0 (answer c.requester 21 .writeFailed 0 [] a)

/-- COMMIT_END (R168). -/
def execCommitEnd (stored : StoredTable) (pins : Pins) (s : State) : Host.Outcome State Fault Refusal :=
  live s (commitEnded stored pins)

/-! ### FETCH payloads (R63, R81, R95, R113, R131, R165, section 11.4) -/

/-- SUMMARY. -/
def fetchedSummary (s : State) (index : Nat) : Option (List Byte) :=
  match index with
  | 0 => some [stateByte s, faultByte s.ctl.faults, BitVec.ofBool s.ctl.radio ++ 0#4 ++ s.ctl.role,
      natByte s.log.entries.length]
  | 1 => some [natByte s.port.unheard, natByte s.port.rxErrors,
      (match s.port.lastError with
        | none => 0
        | some .framing => 1
        | some .format => 2
        | some .check => 3
        | some .pace => 4
        | some .stuck => 5),
      natByte s.port.lostArbitrations, natByte s.port.collisions]
  | 2 => some (natBytes4 s.log.clock)
  | _ => none

/-- Presence codes (section 11.4). -/
def Presence.code : Presence → Byte
  | .absent => 0
  | .live => 1
  | .stale => 2
  | .lost => 3

/-- PEER: three items for each address but the station's own. -/
def fetchedPeer (s : State) (index : Nat) : Option (List Byte) :=
  match allRoles.find? fun r => roleAddress r == index % 8 with
  | none => none
  | some r =>
    if roleIs s r then none
    else
      let e := s.peers.at r
      match index / 8 with
      | 0 => some (e.presence.code :: natBytes2 e.age ++ [e.stateByte, e.faults])
      | 1 => some [e.cues, e.phase, e.wantK, e.wantA, e.wantB]
      | 2 => some [e.wantC]
      | _ => none

/-- Incident codes (section 11.5). -/
def IncidentCode.code : IncidentCode → Byte
  | .cellWarn => 1
  | .cellReserve => 2
  | .cellCut => 3
  | .packTrip => 4
  | .tripLatched => 5
  | .packFault => 6
  | .sensor => 7
  | .bridgeTrip => 8
  | .bridgeLatched => 9
  | .winchStall => 10
  | .demandLost => 11
  | .isolated => 12
  | .bankSplit => 13
  | .demandConflict => 14
  | .settingsDefaulted => 15
  | .settingsWrite => 16

/-- INCIDENT: code and time at 0 to 7, code and detail at 8 to 15. -/
def fetchedIncident (s : State) (index : Nat) : Option (List Byte) :=
  match s.log.entries[index % 8]? with
  | none => none
  | some e =>
    match index / 8 with
    | 0 => some (e.code.code :: natBytes4 e.time)
    | 1 => some (e.code.code :: bytes2 e.detail)
    | _ => none

/-- SETTING: the value in the working copy. -/
def fetchedSetting (s : State) (index : Nat) : Option (List Byte) :=
  if (settingRow index).isSome then some (intBytes2 (settingAt s.ctl.working index)) else none

/-- The four figures of a tier record. -/
def tierBytes (t : Tiers) : List Byte := [natByte t.k, natByte t.a, natByte t.b, natByte t.c]

/-- SHARE (R63). -/
def fetchedShare (s : State) (index : Nat) : Option (List Byte) :=
  let u := s.share
  match index with
  | 0 => some ([natByte u.value,
      (match u.basis with
        | .none => 0
        | .record => 1
        | .trip => 2
        | .blind => 3)] ++ natBytes2 u.age ++ [flagByte u.tripHold])
  | 1 => some (tierBytes u.wants)
  | 2 => some (tierBytes u.grants)
  | 3 => some (natBytes2 u.count ++ [match u.cause with
      | none => 0
      | some .entry => 1
      | some .timer => 2
      | some .lower => 3
      | some .trip => 4])
  | _ => none

/-- CELLS, on PACK. -/
def fetchedCells (s : State) (index : Nat) : Option (List Byte) :=
  if roleIs s .pack && decide (index ≤ 1) then
    some (natBytes2 (cellAt s.pack.table (2 * index)) ++ natBytes2 (cellAt s.pack.table (2 * index + 1)))
  else none

/-- SCAN, on PACK. -/
def fetchedScan (s : State) (index : Nat) : Option (List Byte) :=
  let t := s.pack.table
  if roleIs s .pack then
    match index with
    | 0 => some (natBytes2 t.vMin ++ [natByte t.current, BitVec.ofInt 8 t.temp, flagByte t.sensorFault])
    | 1 => some (natBytes2 t.scans ++ [s.pack.state.code, natByte s.pack.tripCount, flagByte s.pack.closed])
    | 2 => some [natByte s.pack.trim, natByte s.pack.rampCap, natByte s.pack.aPrev]
    | _ => none
  else none

/-- Band codes of a channel (section 11.4). -/
def Band.code : Band → BitVec 4
  | .none => 0
  | .fresh => 1
  | .stale => 2
  | .lost => 3

/-- Zone codes (section 11.4). -/
def Zone.code : Zone → BitVec 4
  | .none => 0
  | .low => 1
  | .mid => 2
  | .high => 3

/-- CAPTURE, on the RADIO station (R81). DESIGN CHOICE (log 29): in index 6 the link state's code stands in the low bits
of its byte; section 11.4 says only that it is as in DEMAND. -/
def fetchedCapture (s : State) (index : Nat) : Option (List Byte) :=
  if s.ctl.radio then
    if index ≤ 5 then
      let c := channelAt s index
      some (natBytes2 c.width ++ intBytes2 c.value ++ [c.band.code ++ c.zone.code])
    else if index = 6 then
      some [0#6 ++ s.dem.link.code, flagByte s.dem.armed, natByte (quality s.dem.history), natByte s.cap.rejected,
        flagByte s.dem.published]
    else none
  else none

/-- WINCH, on the WINCH station (R131); "haul ramp running" is set from the entry to HAUL until HAUL ends (R120). -/
def fetchedWinch (s : State) (index : Nat) : Option (List Byte) :=
  let w := s.winch
  if roleIs s .winch then
    match index with
    | 0 => some (w.state.code :: intBytes2 w.position ++
        [bitsByte [w.homed, unhomedLimited s, homeActive s, w.holdOff, false, false,
          w.starvedFrom == some .payout, w.starvedFrom == some .haul]])
    | 1 => some ([natByte w.tension, natByte w.stallCount] ++ intBytes2 (if inRun s then (winchDrive s).2 else 0) ++
        [bitsByte [w.ramp.isSome, w.stallTimer.isSome, w.starveTimer.isSome, false, false, false, false, false]])
    | 2 => some (natBytes2 w.hallEdges ++ [natByte w.activations] ++ natBytes2 w.msInState)
    | _ => none
  else none

/-- Drive state codes (section 11.4). -/
def DriveState.code : DriveState → Byte
  | .off => 0
  | .driveFwd => 1
  | .driveRev => 2
  | .brake => 3
  | .dwell => 4
  | .tripped => 5
  | .latched => 6

/-- Steering mode codes (section 11.4). -/
def SteerMode.code : SteerMode → BitVec 2
  | .quiet => 0
  | .centre => 1
  | .split => 2
  | .follow => 3

/-- A selection of 0 to 2, or 3 for none. -/
def selectionCode (p : Option Nat) : Nat := p.getD 3

/-- BRIDGE, indexes 0 to 3 (R113). -/
def fetchedBridgeUnit (s : State) (index : Nat) : Option (List Byte) :=
  let b := s.bridge
  match index with
  | 0 => some ([b.driveState.code, natByte b.brakeLevel] ++ intBytes2 b.outDuty ++ [natByte b.tripLevel])
  | 1 => some (intBytes2 b.d ++ [natByte (bridgeWant s), natByte b.current,
      bitsByte [inRun s && b.assist.isSome, digLock s, b.dwellTimer.isSome, false, false, false,
        b.lastSign == some .minus, b.lastSign == some .plus]])
  | 2 => some ([natByte b.tripCount] ++ natBytes2 (b.sinceTrip.getD 65535) ++
      [bitsByte [b.rearmTimer.isSome, b.windowTimer.isSome, b.latched, false, false, false, false, false]])
  | 3 => some ([natByte b.activeDig, natByte (selectionCode b.pendingDig)] ++ natBytes2 b.limited)
  | _ => none

/-- BRIDGE, indexes 4 and 5 on the axle stations (R95). -/
def fetchedSteering (s : State) (index : Nat) : Option (List Byte) :=
  let t := s.steer
  match index with
  | 4 => some ([BitVec.ofNat 2 t.active ++ BitVec.ofNat 2 (selectionCode t.pending) ++ t.mode.code ++
      BitVec.ofBool t.split ++ BitVec.ofBool t.splitTimer.isSome] ++ intBytes2 (axleFactor s) ++ intBytes2 t.target)
  | 5 => some (intBytes2 t.shadow ++ intBytes2 t.output ++ [natByte (servoRate s)])
  | _ => none

/-- BRIDGE, on FRONT, REAR and WINCH (R95, R113). -/
def fetchedBridge (s : State) (index : Nat) : Option (List Byte) :=
  if bridgeInUse s then
    if index ≤ 3 then fetchedBridgeUnit s index else if isAxle s then fetchedSteering s index else none
  else none

/-- The payload of a known kind and index; `none` is UNKNOWN (R165). -/
def fetchPayload (s : State) (kind index : Nat) : Option (List Byte) :=
  match kind with
  | 1 => fetchedSummary s index
  | 2 => fetchedPeer s index
  | 3 => fetchedIncident s index
  | 4 => fetchedSetting s index
  | 5 => fetchedShare s index
  | 6 => fetchedCells s index
  | 7 => fetchedCapture s index
  | 8 => fetchedWinch s index
  | 9 => fetchedBridge s index
  | 10 => fetchedScan s index
  | _ => none

/-- The kind an ANSWER to a FETCH carries: the item kind, or 0 for an unknown kind (R171). -/
def answeredKind (kind : Byte) : BitVec 5 := if 1 ≤ kind.toNat ∧ kind.toNat ≤ 10 then kind.setWidth 5 else 0

/-- FETCH taken: OK with the payload, or UNKNOWN without one (R165, R171). -/
def takeFetch (kind index : Byte) (source : BitVec 4) (s : State) : State :=
  match fetchPayload s kind.toNat index.toNat with
  | some payload => answer source (answeredKind kind) .ok index payload s
  | none => answer source (answeredKind kind) .unknown index [] s

/-- A FETCH frame arrives: its item kind and index are its second and third data bytes (R164, R165). -/
def fetchArrives (rx : Rx) (data : List Byte) (s : State) : State :=
  frameArrives 0x81 rx data (serve (takeFetch (byteAt data 1) (byteAt data 2))) s

/-- FETCH_SUMMARY (R165). -/
def execFetchSummary (rx : Rx) (target : Byte) (index : List Byte) (s : State) : Host.Outcome State Fault Refusal :=
  .next (fetchArrives rx (target :: 1 :: index) s)

/-- FETCH_PEER (R165). -/
def execFetchPeer (rx : Rx) (target : Byte) (index : List Byte) (s : State) : Host.Outcome State Fault Refusal :=
  .next (fetchArrives rx (target :: 2 :: index) s)

/-- FETCH_INCIDENT (R165). -/
def execFetchIncident (rx : Rx) (target : Byte) (index : List Byte) (s : State) : Host.Outcome State Fault Refusal :=
  .next (fetchArrives rx (target :: 3 :: index) s)

/-- FETCH_SETTING (R165). -/
def execFetchSetting (rx : Rx) (target : Byte) (index : List Byte) (s : State) : Host.Outcome State Fault Refusal :=
  .next (fetchArrives rx (target :: 4 :: index) s)

/-- FETCH_SHARE (R63). -/
def execFetchShare (rx : Rx) (target : Byte) (index : List Byte) (s : State) : Host.Outcome State Fault Refusal :=
  .next (fetchArrives rx (target :: 5 :: index) s)

/-- FETCH_CELLS (R165). -/
def execFetchCells (rx : Rx) (target : Byte) (index : List Byte) (s : State) : Host.Outcome State Fault Refusal :=
  .next (fetchArrives rx (target :: 6 :: index) s)

/-- FETCH_SCAN (R165). -/
def execFetchScan (rx : Rx) (target : Byte) (index : List Byte) (s : State) : Host.Outcome State Fault Refusal :=
  .next (fetchArrives rx (target :: 10 :: index) s)

/-- FETCH_CAPTURE (R81). -/
def execFetchCapture (rx : Rx) (target : Byte) (index : List Byte) (s : State) : Host.Outcome State Fault Refusal :=
  .next (fetchArrives rx (target :: 7 :: index) s)

/-- FETCH_WINCH (R131). -/
def execFetchWinch (rx : Rx) (target : Byte) (index : List Byte) (s : State) : Host.Outcome State Fault Refusal :=
  .next (fetchArrives rx (target :: 8 :: index) s)

/-- FETCH_BRIDGE (R95, R113). -/
def execFetchBridge (rx : Rx) (target : Byte) (index : List Byte) (s : State) : Host.Outcome State Fault Refusal :=
  .next (fetchArrives rx (target :: 9 :: index) s)

/-- FETCH_UNKNOWN_KIND: UNKNOWN, with kind 0 (R165, R171). -/
def execFetchUnknownKind (rx : Rx) (target kind index : List Byte) (s : State) : Host.Outcome State Fault Refusal :=
  .next (fetchArrives rx (target ++ kind ++ index) s)

end Sys2Proof.Machine
end

