-- ==== Sys2Proof/Machine/Bus.lean ====
section
/-! DEFINITION. The bus port's own events (chapter 9): idle and the join window, runs that are no Lead, and how the
station's own frame leaves the shift buffer. -/

namespace Sys2Proof.Machine

/-! ### Idle and the join window (R155, R156) -/

/-- The transmit queue is not empty. -/
def queueFull (p : BusPort) : Bool := p.slots.first.isSome

/-- The recessive count adds 1 for each 8 µs of recessive line, saturating at 10 (R155; log 32). -/
def countQuiet (steps : Nat) (p : BusPort) : BusPort := { p with recessive := min 10 (p.recessive + steps) }

/-- The recessive count reaches 10: IDLE, and a waiting frame starts its Lead (R155). -/
def becameIdle (s : State) : State :=
  if s.port.port == .waitIdle then
    startSend (s.setPort { countQuiet 10 s.port with port := .idle, stuckCounted := false })
  else s

/-- BUS_IDLE (R155). -/
def execBusIdle (s : State) : Host.Outcome State Fault Refusal := live s becameIdle

/-- A falling edge begins another station's Lead `steps` of the 8 µs after the last command of the port or 1 ms step: a station with a frame queued
and a recessive count of 8 or more joins, any other times the run as a Lead (R155, R156). -/
def leadBegins (steps : Nat) (s : State) : State :=
  if s.port.port == .waitIdle || s.port.port == .idle then
    let t := s.setPort { s.port with port := .lead, recessive := 0, stuckCounted := false }
    if 8 ≤ (countQuiet steps s.port).recessive ∧ queueFull s.port then startSend t else t
  else s

/-- JOIN_WINDOW (R156). -/
def execJoinWindow (steps : Nat) (s : State) : Host.Outcome State Fault Refusal := live s (leadBegins steps)

/-! ### Runs that are no Lead (R147, R152) -/

/-- A receive error of kind Stuck is counted (R152, R162). -/
def countStuck (p : BusPort) : BusPort := { p with rxErrors := satSucc 255 p.rxErrors, lastError := some .stuck }

/-- A dominant run passes 320 µs: Stuck, counted once for the run; WAIT-IDLE with the count at 0 for as long
as the run lasts (R152; log 23). -/
def lineStuck (s : State) : State :=
  if s.port.port == .send then s
  else
    let p := if s.port.stuckCounted then s.port else countStuck s.port
    s.setPort { p with port := .waitIdle, recessive := 0, stuckCounted := true }

/-- LINE_STUCK (R152). -/
def execLineStuck (s : State) : Host.Outcome State Fault Refusal := live s lineStuck

/-- A dominant run shorter than 88 µs outside a frame: the count is 0 and the bus is treated as busy (R147, R155). -/
def shortRun (s : State) : State :=
  if s.port.port == .send || s.port.port == .receive then s
  else s.setPort { s.port with port := .waitIdle, recessive := 0, stuckCounted := false }

/-- SHORT_DOMINANT_RUN (R147). -/
def execShortDominantRun (s : State) : Host.Outcome State Fault Refusal := live s shortRun

/-! ### The station's own frame leaves the shift buffer (R9, R149, R154, R157 to R161) -/

/-- The unheard count and the isolation flag after a completed frame (R9). -/
def countHeard (heard : Bool) (p : BusPort) : BusPort :=
  if heard then { p with unheard := 0, isolation := false }
  else
    let n := min 16 (p.unheard + 1)
    { p with unheard := n, isolation := p.isolation || n == 16 }

/-- ISOLATED follows the isolation flag in RUN; its beginning records an incident, and both changes are handed to the
FAILSAFE evaluation (R9, R10). -/
def evalIsolated (s : State) : State :=
  if inRun s && s.ctl.isolated != s.port.isolation then
    let t := s.setCtl { s.ctl with isolated := s.port.isolation }
    demandReact false (if t.ctl.isolated then record .isolated 0 t else t)
  else s

/-- The frame is complete: the shift buffer is emptied, the outcome goes to the unheard count, and a clash mark sends
the station to HALT (R154, R159). -/
def frameComplete (heard mark : Bool) (s : State) : State :=
  let t := evalIsolated <| s.setPort { countHeard heard s.port with port := .waitIdle, recessive := 0, shift := none }
  if mark then enterHalt t else t

/-- The pace span a sender measured itself; none where the frame ended before the end of the Pace (R148). -/
def ownSpan : SendEnd → Option Nat
  | .complete span _ _ | .lostArbitration span => some span
  | .bitCollision span => span
  | .stuck => none

/-- The sender's own pace span is no pace error (R148, R149). -/
def ownPaceGood (how : SendEnd) : Bool := (ownSpan how).all paceGood

/-- A bit collision: the copy goes back, the count adds 1, WAIT-IDLE with the recessive count at 0 (R158). -/
def collided (p : BusPort) : BusPort :=
  { handBack p with port := .waitIdle, recessive := 0, collisions := satSucc 255 p.collisions }

/-- The frame leaves the shift buffer, by each way of R149, R154, R157 and R158. The sender keeps the span it measured,
and a span that is a pace error abandons the frame as a bit collision does, whatever else was read (R148, R149). -/
def sendEnded (how : SendEnd) (s : State) : State :=
  if s.port.port == .send && s.port.shift.isSome then
    let a := s.setPort { s.port with paceSpan := (ownSpan how).getD s.port.paceSpan }
    if !ownPaceGood how then a.setPort (collided a.port)
    else match how with
    | .complete _ heard mark => frameComplete heard mark a
    | .lostArbitration _ =>
      a.setPort { handBack a.port with
        port := .receive, recessive := 0, lostArbitrations := satSucc 255 s.port.lostArbitrations }
    | .bitCollision _ => a.setPort (collided a.port)
    | .stuck => a.setPort { countStuck (handBack a.port) with port := .waitIdle, recessive := 0, stuckCounted := true }
  else s

/-- FRAME_SEND_END (R154). -/
def execFrameSendEnd (how : SendEnd) (s : State) : Host.Outcome State Fault Refusal := live s (sendEnded how)

end Sys2Proof.Machine
end

