-- ==== Sys2Proof/Machine/Dispatch.lean ====
section
/-! DEFINITION. The effect of every command: one arm per row of spec/opcode_table.json, in the table's order. -/

namespace Sys2Proof.Machine

def exec (i : Instr) (s : State) : Host.Outcome State Fault Refusal :=
  match i with
  | .powerOnReset pins => Sys2Proof.Machine.execPowerOnReset pins s
  | .pinReset pins => Sys2Proof.Machine.execPinReset pins s
  | .startTimerExpiry => Sys2Proof.Machine.execStartTimerExpiry s
  | .stationTimerExpiry => Sys2Proof.Machine.execStationTimerExpiry s
  | .stationFrame rx data => Sys2Proof.Machine.execStationFrame rx data s
  | .demandFrame rx data => Sys2Proof.Machine.execDemandFrame rx data s
  | .allowanceFrame rx data => Sys2Proof.Machine.execAllowanceFrame rx data s
  | .winchFrame rx data => Sys2Proof.Machine.execWinchFrame rx data s
  | .tripFrame rx data => Sys2Proof.Machine.execTripFrame rx data s
  | .answerFrame rx data => Sys2Proof.Machine.execAnswerFrame rx data s
  | .hold rx data => Sys2Proof.Machine.execHold rx data s
  | .setting rx target id value => Sys2Proof.Machine.execSetting rx target id value s
  | .release rx data => Sys2Proof.Machine.execRelease rx data s
  | .restart rx data pins => Sys2Proof.Machine.execRestart rx data pins s
  | .commitEnd stored pins => Sys2Proof.Machine.execCommitEnd stored pins s
  | .fetchSummary rx target index => Sys2Proof.Machine.execFetchSummary rx target index s
  | .fetchPeer rx target index => Sys2Proof.Machine.execFetchPeer rx target index s
  | .fetchIncident rx target index => Sys2Proof.Machine.execFetchIncident rx target index s
  | .fetchSetting rx target index => Sys2Proof.Machine.execFetchSetting rx target index s
  | .fetchShare rx target index => Sys2Proof.Machine.execFetchShare rx target index s
  | .fetchCells rx target index => Sys2Proof.Machine.execFetchCells rx target index s
  | .fetchScan rx target index => Sys2Proof.Machine.execFetchScan rx target index s
  | .fetchCapture rx target index => Sys2Proof.Machine.execFetchCapture rx target index s
  | .fetchWinch rx target index => Sys2Proof.Machine.execFetchWinch rx target index s
  | .fetchBridge rx target index => Sys2Proof.Machine.execFetchBridge rx target index s
  | .demandSourceExpiry address => Sys2Proof.Machine.execDemandSourceExpiry address s
  | .demandRecordStale => Sys2Proof.Machine.execDemandRecordStale s
  | .demandRecordLost => Sys2Proof.Machine.execDemandRecordLost s
  | .allowanceRecordLost => Sys2Proof.Machine.execAllowanceRecordLost s
  | .winchRecordLost => Sys2Proof.Machine.execWinchRecordLost s
  | .peerPresenceChange peer => Sys2Proof.Machine.execPeerPresenceChange peer s
  | .scanCompletion scan => Sys2Proof.Machine.execScanCompletion scan s
  | .checkTimerExpiry => Sys2Proof.Machine.execCheckTimerExpiry s
  | .cutgraceExpiry => Sys2Proof.Machine.execCutgraceExpiry s
  | .packTrip current => Sys2Proof.Machine.execPackTrip current s
  | .holdTimerExpiry => Sys2Proof.Machine.execHoldTimerExpiry s
  | .quietTimerExpiry => Sys2Proof.Machine.execQuietTimerExpiry s
  | .shareTimerExpiry => Sys2Proof.Machine.execShareTimerExpiry s
  | .captureEdge channel rising stamp => Sys2Proof.Machine.execCaptureEdge channel rising stamp s
  | .trainEdge edge => Sys2Proof.Machine.execTrainEdge edge s
  | .longFlag channel => Sys2Proof.Machine.execLongFlag channel s
  | .channelBandChange channel => Sys2Proof.Machine.execChannelBandChange channel s
  | .armingTimerExpiry => Sys2Proof.Machine.execArmingTimerExpiry s
  | .demandTimerExpiry => Sys2Proof.Machine.execDemandTimerExpiry s
  | .splitTimerExpiry => Sys2Proof.Machine.execSplitTimerExpiry s
  | .servoFrameTimerExpiry => Sys2Proof.Machine.execServoFrameTimerExpiry s
  | .servoPulseEnd => Sys2Proof.Machine.execServoPulseEnd s
  | .periodStart => Sys2Proof.Machine.execPeriodStart s
  | .dutyStep samples => Sys2Proof.Machine.execDutyStep samples s
  | .cycleLimit current => Sys2Proof.Machine.execCycleLimit current s
  | .oneShotTrip current => Sys2Proof.Machine.execOneShotTrip current s
  | .dwellTimerExpiry => Sys2Proof.Machine.execDwellTimerExpiry s
  | .rearmTimerExpiry => Sys2Proof.Machine.execRearmTimerExpiry s
  | .windowTimerExpiry => Sys2Proof.Machine.execWindowTimerExpiry s
  | .drivenTimerExpiry => Sys2Proof.Machine.execDrivenTimerExpiry s
  | .hallEdge stamp => Sys2Proof.Machine.execHallEdge stamp s
  | .homeActivation => Sys2Proof.Machine.execHomeActivation s
  | .homeRelease => Sys2Proof.Machine.execHomeRelease s
  | .stallTimerExpiry => Sys2Proof.Machine.execStallTimerExpiry s
  | .starveTimerExpiry => Sys2Proof.Machine.execStarveTimerExpiry s
  | .winchTimerExpiry => Sys2Proof.Machine.execWinchTimerExpiry s
  | .blinkStep => Sys2Proof.Machine.execBlinkStep s
  | .fadeTimerExpiry => Sys2Proof.Machine.execFadeTimerExpiry s
  | .busIdle => Sys2Proof.Machine.execBusIdle s
  | .joinWindow steps => Sys2Proof.Machine.execJoinWindow steps s
  | .lineStuck => Sys2Proof.Machine.execLineStuck s
  | .frameSendEnd outcome => Sys2Proof.Machine.execFrameSendEnd outcome s
  | .shortDominantRun => Sys2Proof.Machine.execShortDominantRun s
  | .unknownTopicFrame first rx data => Sys2Proof.Machine.execUnknownTopicFrame first rx data s
  | .fetchUnknownKind rx target kind index => Sys2Proof.Machine.execFetchUnknownKind rx target kind index s

end Sys2Proof.Machine
end

