-- ==== Sys2Proof/Machine/Tick.lean ====
section
/-! DEFINITION. The 1 ms step of the station's timebase, which `step` takes on an empty queue (log 2): every clock, timer
and age advances by one, and the timed events that are due take place, in a free order (log 3). The ages of what was
heard advance together with every crossing of a bound that this brings, at one place of that order: no other event
sees an age past its bound with the band, presence or source of before (R14, R17, R19, R71).
The events that sense something outside (frames, edges, currents, scans, a dominant line) come as commands only; a
recessive line is counted by the tick (R155). -/

namespace Sys2Proof.Machine

/-! ### Ages, clocks and timers -/

/-- A Peer Table entry after 1 ms (R14). -/
def tickPeer (e : Peer) : Peer := if e.presence == .absent then e else { e with age := ageStep e.age }

/-- The Latest Records after 1 ms (R17, R19). -/
def tickLatest (l : Latest) : Latest :=
  { l with
    demand := if l.demand.held then { l.demand with age := ageStep l.demand.age } else l.demand
    allowance := if l.allowance.held then { l.allowance with age := ageStep l.allowance.age } else l.allowance
    winch := if l.winch.held then { l.winch with age := ageStep l.winch.age } else l.winch
    ageFront := l.ageFront.map ageStep
    ageRear := l.ageRear.map ageStep
    ageLamp := l.ageLamp.map ageStep }

/-- The capture timer after 1 ms: it moves on by what the time stamps of the edges within this ms have not yet moved it
(R65; log 31). -/
def tickCapture (c : Capture) : Capture := { moveTimer (1000 - c.ahead) c with ahead := c.ahead - 1000 }

/-- The bus port after the `t`-th 1 ms: in WAIT-IDLE on a line that no Stuck run holds, the recessive count goes on. From
0 it adds what the free value says, at least 1, since the count was set to 0 at some moment of a ms; from any other value
it adds the 125 of a whole ms (R155; log 32). -/
def tickPort (t : Nat) (p : BusPort) : BusPort :=
  if p.port == .waitIdle && !p.stuckCounted then
    countQuiet (if p.recessive = 0 then 1 + Config.quietSteps t % 125 else 125) p
  else p

/-- The bridge unit after 1 ms (R101, R107, R108, R110, R113). -/
def tickBridge (b : Bridge) : Bridge :=
  { b with
    dwellTimer := tickTimer b.dwellTimer
    rearmTimer := tickTimer b.rearmTimer
    windowTimer := tickTimer b.windowTimer
    drivenTimer := tickTimer b.drivenTimer
    sinceTrip := b.sinceTrip.map ageStep }

/-- The winch controller after 1 ms (R123, R124, R129, R131). -/
def tickWinch (w : Winch) : Winch :=
  { w with
    stallTimer := tickTimer w.stallTimer
    starveTimer := tickTimer w.starveTimer
    recordTimer := tickTimer w.recordTimer
    msInState := ageStep w.msInState }

/-- The pack monitor after 1 ms (R29, R31, R36). -/
def tickPack (p : Pack) : Pack :=
  { p with
    checkTimer := tickTimer p.checkTimer
    cutGrace := tickTimer p.cutGrace
    holdTimer := tickTimer p.holdTimer
    quietTimer := tickTimer p.quietTimer }

/-- The station controller after 1 ms (R4, R11, R168). -/
def tickController (c : Controller) : Controller :=
  { c with
    startTimer := tickTimer c.startTimer
    stationTimer := tickTimer c.stationTimer
    commit := c.commit.map fun x => { x with elapsed := ageStep x.elapsed } }

/-- The steering unit after 1 ms; its two µs timers lose 1000 (R86, R91). -/
def tickSteering (t : Steering) : Steering :=
  { t with
    frameTimer := t.frameTimer.map (· - 1000)
    pulseTimer := t.pulseTimer.map (· - 1000)
    splitTimer := tickTimer t.splitTimer }

/-- Every clock and timer of the station after 1 ms, with the ages that bound no band. -/
def advanceTimers (s : State) : State :=
  { s with
    ticks := s.ticks + 1
    ctl := tickController s.ctl
    port := tickPort s.ticks s.port
    cap := if captureInUse s then tickCapture s.cap else s.cap
    dem := { s.dem with armingTimer := tickTimer s.dem.armingTimer, demandTimer := tickTimer s.dem.demandTimer }
    steer := tickSteering s.steer
    bridge := tickBridge s.bridge
    winch := if roleIs s .winch then tickWinch s.winch else s.winch
    pack := tickPack s.pack
    share := { s.share with timer := tickTimer s.share.timer, age := ageStep s.share.age }
    lamp := { s.lamp with blinkTimer := tickTimer s.lamp.blinkTimer, fadeTimer := tickTimer s.lamp.fadeTimer }
    log := { s.log with clock := satSucc 4294967295 s.log.clock } }

/-- The ages of what was heard, after 1 ms: the peers, the records, the DEMAND ages, and the channels on the RADIO
station (R14, R17, R19, R71). -/
def advanceAges (s : State) : State :=
  { s with
    peers := s.peers.map tickPeer
    latest := tickLatest s.latest
    cap := if s.ctl.radio then
        { s.cap with channels := s.cap.channels.map fun r => { r with age := ageStep r.age } }
      else s.cap }

/-- Every age, clock and timer of the station after 1 ms. -/
def advance (s : State) : State := advanceAges (advanceTimers s)

/-! ### The events that are due -/

/-- A µs timer that has run out. -/
def dueMicros (t : Option Int) : Bool := t.any fun left => decide (left ≤ 0)

/-- A channel's age has crossed a bound of its band (R71). -/
def channelDue (r : Channel) : Bool :=
  (r.band == .fresh && decide (60 < r.age)) || (r.band == .stale && decide (250 < r.age))

/-- An entry's age has crossed a bound of its presence (R14). -/
def peerDue (e : Peer) : Bool :=
  (e.presence == .live && decide (60 < e.age)) || (e.presence == .stale && decide (200 < e.age))

/-- A timed event is due, the bus idle one where the recessive count has reached 10; a sensed one never is. A long flag is set by the timer itself as it moves (`moveTimer`). -/
def isDue (s : State) : Instr → Bool
  | .startTimerExpiry => due s.ctl.startTimer
  | .stationTimerExpiry => due s.ctl.stationTimer
  | .demandSourceExpiry p => s.latest.ageOf p == some 251
  | .demandRecordStale => s.latest.demand.held && s.latest.demand.band == .fresh && decide (60 < s.latest.demand.age)
  | .demandRecordLost => s.latest.demand.held && s.latest.demand.band.inUse && decide (250 < s.latest.demand.age)
  | .allowanceRecordLost =>
    s.latest.allowance.held && s.latest.allowance.band == .fresh && decide (100 < s.latest.allowance.age)
  | .winchRecordLost => s.latest.winch.held && s.latest.winch.band == .fresh && decide (100 < s.latest.winch.age)
  | .peerPresenceChange r => peerDue (s.peers.at r)
  | .checkTimerExpiry => due s.pack.checkTimer
  | .cutgraceExpiry => due s.pack.cutGrace
  | .holdTimerExpiry => due s.pack.holdTimer
  | .quietTimerExpiry => due s.pack.quietTimer
  | .shareTimerExpiry => due s.share.timer
  | .channelBandChange c => s.ctl.radio && channelDue (channelAt s c)
  | .armingTimerExpiry => due s.dem.armingTimer
  | .demandTimerExpiry => due s.dem.demandTimer
  | .splitTimerExpiry => due s.steer.splitTimer
  | .servoFrameTimerExpiry => dueMicros s.steer.frameTimer
  | .servoPulseEnd => dueMicros s.steer.pulseTimer
  | .periodStart => s.bridge.periodTimer
  | .dwellTimerExpiry => due s.bridge.dwellTimer
  | .rearmTimerExpiry => due s.bridge.rearmTimer
  | .windowTimerExpiry => due s.bridge.windowTimer
  | .drivenTimerExpiry => due s.bridge.drivenTimer
  | .stallTimerExpiry => due s.winch.stallTimer
  | .starveTimerExpiry => due s.winch.starveTimer
  | .winchTimerExpiry => due s.winch.recordTimer
  | .blinkStep => due s.lamp.blinkTimer
  | .fadeTimerExpiry => due s.lamp.fadeTimer
  | .busIdle => s.port.port == .waitIdle && s.port.recessive == 10
  | .powerOnReset _ | .pinReset _ | .stationFrame _ _ | .demandFrame _ _ | .allowanceFrame _ _ | .winchFrame _ _
  | .tripFrame _ _ | .answerFrame _ _ | .hold _ _ | .setting _ _ _ _ | .release _ _ | .restart _ _ _ | .commitEnd _ _
  | .fetchSummary _ _ _ | .fetchPeer _ _ _ | .fetchIncident _ _ _ | .fetchSetting _ _ _ | .fetchShare _ _ _
  | .fetchCells _ _ _ | .fetchScan _ _ _ | .fetchCapture _ _ _ | .fetchWinch _ _ _ | .fetchBridge _ _ _ | .scanCompletion _ | .packTrip _
  | .captureEdge _ _ _ | .trainEdge _ | .longFlag _ | .dutyStep _ | .cycleLimit _ | .oneShotTrip _ | .hallEdge _
  | .homeActivation | .homeRelease | .joinWindow _ | .lineStuck | .frameSendEnd _ | .shortDominantRun
  | .unknownTopicFrame _ _ _ | .fetchUnknownKind _ _ _ _ => false

/-- The six channels. -/
def allChannels : List (Fin 6) := [0, 1, 2, 3, 4, 5]

/-- The events that an age crossing a bound brings (R14, R17, R19, R71). -/
def ageEvents : List Instr :=
  allPublishers.map .demandSourceExpiry ++
    [.demandRecordStale, .demandRecordLost, .allowanceRecordLost, .winchRecordLost] ++
    allRoles.map .peerPresenceChange ++ allChannels.map .channelBandChange

/-- The events of the timers and of the recessive count; the period start comes PwmFreq times in 1 ms (R96). -/
def timerEvents (s : State) : List Instr :=
  [.startTimerExpiry, .stationTimerExpiry, .checkTimerExpiry, .cutgraceExpiry, .holdTimerExpiry, .quietTimerExpiry,
    .shareTimerExpiry, .armingTimerExpiry, .demandTimerExpiry, .splitTimerExpiry, .servoFrameTimerExpiry,
    .servoPulseEnd, .dwellTimerExpiry, .rearmTimerExpiry, .windowTimerExpiry, .drivenTimerExpiry, .stallTimerExpiry,
    .starveTimerExpiry, .winchTimerExpiry, .blinkStep, .fadeTimerExpiry, .busIdle] ++
    List.replicate (pwmFreq s) .periodStart

/-- Every timed event. -/
def timedEvents (s : State) : List Instr := timerEvents s ++ ageEvents

/-! ### The order (log 3) -/

/-- An event put before the first one with a greater key. -/
def insertEvent (key : Nat) (e : Instr) : List (Nat × Instr) → List (Nat × Instr)
  | [] => [(key, e)]
  | x :: rest => if key < x.1 then (key, e) :: x :: rest else x :: insertEvent key e rest

/-- The events, the first of which has number `i`, put among those already ordered by the free order of tick `t`. -/
def orderFrom (t : Nat) : Nat → List Instr → List (Nat × Instr)
  | _, [] => []
  | i, e :: rest => insertEvent (Config.tickOrder t i) e (orderFrom t (i + 1) rest)

/-- One outcome after another: the second takes the state the first answers. -/
def thenRun (o : Host.Outcome State Fault Refusal) (f : State → Host.Outcome State Fault Refusal) :
    Host.Outcome State Fault Refusal :=
  match o with
  | .next t => f t
  | .fault e => .fault e
  | .refused r => .refused r

/-- The events take place one after the other, each only if it is still due. -/
def runDue : List (Nat × Instr) → State → Host.Outcome State Fault Refusal
  | [], s => .next s
  | e :: rest, s => if isDue s e.2 then thenRun (exec e.2 s) (runDue rest) else runDue rest s

/-- The events of a list that are due, in the free order of tick `t` with numbers from `i` on (R4 and the rules it
stands for: "either may be taken first"). -/
def dueInOrder (t i : Nat) (events : List Instr) (s : State) : List (Nat × Instr) := orderFrom t i (events.filter (isDue s))

/-- The ages advance, and at once every crossing of a bound that this brings takes place (log 3). -/
def ageStepped (t i : Nat) (s : State) : Host.Outcome State Fault Refusal :=
  runDue (dueInOrder t i ageEvents (advanceAges s)) (advanceAges s)

/-- A servo frame start comes with the pulse end right before it, at the same place of the order: a pulse always ends
within its own frame, so where both fall due in one tick the end is taken first (R91, log 3). An end that is not due does
not take place, nor one that took place earlier. -/
def pulseFirst (e : Nat × Instr) : List (Nat × Instr) :=
  match e.2 with
  | .servoFrameTimerExpiry => [(e.1, .servoPulseEnd), e]
  | _ => [e]

/-- One 1 ms step of the timebase; in HALT it is stopped (R7). The step of the ages has the number 0 in the free order:
the due timers of smaller key act before it, the others after it. -/
def tick (s : State) : Host.Outcome State Fault Refusal :=
  if s.ctl.station == .halt then .next s
  else
    let u := advanceTimers s
    let timers := (dueInOrder s.ticks 1 (timerEvents u) u).flatMap pulseFirst
    let early := fun e : Nat × Instr => decide (e.1 < Config.tickOrder s.ticks 0)
    thenRun (runDue (timers.filter early) u) fun v =>
      thenRun (ageStepped s.ticks (timers.length + 1) v) (runDue (timers.filter fun e => !early e))

end Sys2Proof.Machine
end

