-- ==== Sys2Proof/Machine/Step.lean ====
section
/-! DEFINITION. One step of the block: the command at the front of the queue, or a 1 ms tick on an empty queue. -/

namespace Sys2Proof.Machine

/-- The command at the front of the queue is taken off and executed with the queue's rest; on an empty queue the
station's own timebase advances by 1 ms (log 2). -/
def step (s : State) : Host.Outcome State Fault Refusal :=
  match s.pending with
  | c :: rest => exec c { s with pending := rest }
  | [] => tick s

/-- The command that a word spells put at the front of the queue; `s` where it spells none (log 4). -/
def State.withFetchWord (s : State) (nbits w : Nat) : State :=
  match decodeTableWord nbits w with
  | some c => { s with pending := c :: s.pending }
  | none => s

end Sys2Proof.Machine
end

