-- ==== Sys2Proof/Safety.lean ====
section
/-! DEFINITION. What every state of a station satisfies: the whole-machine rules of the manual, in the terms the
statements use. -/

namespace Sys2Proof.Machine

/-- FAILSAFE and DEMAND-HOLD are never both set, and outside RUN the three conditions are clear (R8, section 1.3). -/
def conditionsSafe (s : State) : Bool :=
  !(s.ctl.failsafe && s.ctl.demandHold) &&
    (s.ctl.station == .run || !(s.ctl.failsafe || s.ctl.demandHold || s.ctl.isolated))

/-- A pack state in which a re-arm may close the switch (R36). -/
def PackState.graded : PackState → Bool
  | .normal | .limit | .reserve => true
  | .check | .cutoff | .tripped | .fault => false

/-- The main switch is closed only in NORMAL, LIMIT or RESERVE, or in CUTOFF while its grace runs (R33); the return
state is one of the first three (R34). -/
def switchSafe (s : State) : Bool :=
  (!s.pack.closed || s.pack.state.graded || (s.pack.state == .cutoff && s.pack.cutGrace.isSome)) &&
    (s.pack.returnState.all PackState.graded) && (!s.pack.closed || inRun s)

/-- The gates are off and the bridge is in no state that drives or brakes (R3, R97). -/
def gatesOff (s : State) : Bool :=
  s.bridge.driveState == .off && s.bridge.applied == {} && s.bridge.outDuty == 0

/-- Every lamp's effective target and level are 0 (R3, R144). -/
def lampsDark (s : State) : Bool := s.lamp.lamps.all fun l => l.effective == 0 && l.level == 0

/-- No servo pulse is emitted (R3, R93). -/
def servoQuiet (s : State) : Bool := !s.steer.srv && s.steer.output == 0

/-- Outside RUN the outputs are the safe output set (R3). -/
def outputsSafe (s : State) : Bool :=
  inRun s || (gatesOff s && lampsDark s && servoQuiet s && !s.pack.closed)

/-- The list's times never go backward and none lies after the clock; it holds at most eight entries (R163). -/
def incidentsSafe (s : State) : Bool :=
  decide (s.log.entries.length ≤ 8) && decide (s.log.entries.Pairwise fun a b => a.time ≤ b.time) &&
    s.log.entries.all (fun e => decide (e.time ≤ s.log.clock)) && decide (s.log.clock ≤ 4294967295)

/-- The shift buffer is full exactly in SEND, an idle port has an empty queue, and the isolation flag is the unheard
count at 16 (R9, R155, R160). -/
def portSafe (s : State) : Bool :=
  ((s.port.port == .send) == s.port.shift.isSome) && (s.port.port != .idle || !queueFull s.port) &&
    decide (s.port.unheard ≤ 16) && (s.port.isolation == (s.port.unheard == 16))

/-- A bridge under FAILSAFE: BRAKE at 100 %, or the drive state of a trip (R100, R112). -/
def failsafeBraked (s : State) : Bool :=
  (s.bridge.driveState == .brake && s.bridge.brakeLevel == 100) ||
    (s.bridge.driveState == .tripped && s.bridge.tripped) || (s.bridge.driveState == .latched && s.bridge.latched)

/-- A locked winch of a station in RUN whose lock condition holds (R118). -/
def lockSafe (s : State) : Bool := !(roleIs s .winch && inRun s && s.winch.lock) || s.winch.state == .locked

/-- Under FAILSAFE in RUN no bridge drives and the commanded duty is 0, the steering mode is CENTRE, the winch is LOCKED
(R88, R98, R100, R112, R118). -/
def failsafeSafe (s : State) : Bool :=
  !(inRun s && s.ctl.failsafe) ||
    ((!bridgeInUse s || failsafeBraked s) && (!isAxle s || (s.bridge.d == 0 && s.steer.mode == .centre)) &&
      (!roleIs s .winch || s.winch.state == .locked))

/-- On an axle station a running dwell has a pending sign, and a non-zero d has that sign (R101). -/
def dwellSafe (s : State) : Bool :=
  !isAxle s || s.bridge.dwellTimer.isNone ||
    (s.bridge.pendingSign.isSome && (s.bridge.d == 0 || signOf s.bridge.d == s.bridge.pendingSign))

/-- On a WINCH station that is not in HALT the duty shadow names the drive state, the bridge drives inward in HAUL alone and
outward in PAYOUT alone; with HOME active the winch is not in HAUL and the gates do not drive inward, and at the outward end
it is not in PAYOUT and they do not drive outward (R96, R125). -/
def lineEndSafe (s : State) : Bool :=
  !(roleIs s .winch && s.ctl.station != .halt) ||
    (!s.ctl.radio && s.bridge.shadow.state == s.bridge.driveState &&
      (s.bridge.driveState != .driveFwd || s.winch.state == .haul) &&
      (s.bridge.driveState != .driveRev || s.winch.state == .payout) &&
      (!homeActive s || (s.winch.state != .haul && s.bridge.applied.state != .driveFwd)) &&
      (!atLineEnd s || (s.winch.state != .payout && s.bridge.applied.state != .driveRev)))

/-- Every item of section 10.6 lies in its range and every cross-item check passes (R169). -/
def settingsValid (t : Settings) : Bool :=
  t.length == settingPlaces && settingRows.all (fun r => r.admits (settingAt t r.id)) &&
    crossChecks.all (fun c => crossPasses t c.detail)

/-- The settings the blocks hold passed the checks of START, and the working copy has every place (R166, R169). -/
def settingsSafe (s : State) : Bool := settingsValid s.ctl.held && s.ctl.working.length == settingPlaces

/-- In RUN on an axle station the servo shadow and every emitted width lie within ServoMin to ServoMax (R90, R92). -/
def servoSafe (s : State) : Bool :=
  !(isAxle s && inRun s) ||
    (decide (servoMin s ≤ s.steer.shadow) && decide (s.steer.shadow ≤ servoMax s) &&
      decide (servoMin s ≤ s.steer.output) && decide (s.steer.output ≤ servoMax s))

/-- A station that is not in HALT has a valid role (R2); no grant exceeds its want, and the grants together stay within
the allowance used (R56). -/
def shareSafe (s : State) : Bool :=
  (s.ctl.station == .halt || (roleOf s.ctl.role).isSome) && decide (s.share.grants.k ≤ s.share.wants.k) &&
    decide (s.share.grants.a ≤ s.share.wants.a) && decide (s.share.grants.b ≤ s.share.wants.b) &&
    decide (s.share.grants.c ≤ s.share.wants.c) &&
    decide (s.share.grants.k + s.share.grants.a + s.share.grants.b + s.share.grants.c ≤ s.share.value)

/-! ### Terms of the statements about frames -/

/-- Every command that brings a frame, with the first identifier byte of its topic and its data bytes (sections 11.1 to
11.3); `first` is that of a frame of an unknown class or topic, and the bytes of a service frame of several operands are
cut at `target`, `kind` and the rest. -/
def frameCommands (first target : Byte) (kind d : List Byte) (rx : Rx) (p : Pins) : List (Byte × List Byte × Instr) :=
  [(0x61, d, .stationFrame rx d), (0x21, d, .demandFrame rx d), (0x01, d, .allowanceFrame rx d),
    (0x41, d, .winchFrame rx d), (0x02, d, .tripFrame rx d), (0x82, d, .answerFrame rx d), (0x84, d, .hold rx d),
    (0x85, d, .release rx d), (0x86, d, .restart rx d p), (0x83, d, .setting rx [] [] d),
    (0x83, target :: kind ++ d, .setting rx [target] kind d),
    (0x81, target :: 1 :: d, .fetchSummary rx target d), (0x81, target :: 2 :: d, .fetchPeer rx target d),
    (0x81, target :: 3 :: d, .fetchIncident rx target d), (0x81, target :: 4 :: d, .fetchSetting rx target d),
    (0x81, target :: 5 :: d, .fetchShare rx target d), (0x81, target :: 6 :: d, .fetchCells rx target d),
    (0x81, target :: 7 :: d, .fetchCapture rx target d), (0x81, target :: 8 :: d, .fetchWinch rx target d),
    (0x81, target :: 9 :: d, .fetchBridge rx target d), (0x81, target :: 10 :: d, .fetchScan rx target d),
    (0x81, d, .fetchUnknownKind rx [] [] d), (0x81, target :: kind ++ d, .fetchUnknownKind rx [target] kind d),
    (first, d, .unknownTopicFrame first rx d)]

/-- The station takes the frame with first identifier byte `first` in as intact, and it is no clash (R153, R159). -/
def takesFrame (s : State) (first : Byte) (rx : Rx) (data : List Byte) : Bool :=
  listening s && receive first rx data == .intact data && rx.source.toNat != ownAddress s

/-- The port after an intact frame of another address: its echo was driven, WAIT-IDLE with the count at 0 (R153, R155). -/
def afterEcho (span : Nat) (p : BusPort) : BusPort :=
  { p with port := .waitIdle, recessive := 0, paceSpan := span, stuckCounted := false, echo := .echo }

/-- The port after an intact frame that the station answers with `data` (R153, R164). -/
def afterAnswer (span : Nat) (data : List Byte) (p : BusPort) : BusPort :=
  { afterEcho span p with slots := p.slots.put .answer (some data) }

/-- An idle port has an empty queue: a frame queued there starts its Lead at once (R155, R160). -/
def portReady (s : State) : Bool := s.port.port != .idle || s.port.slots == {}

/-- The port after a frame is queued on it: in the shift buffer where the port was idle, else in its slot (R155, R160). -/
def afterQueue (t : TxTopic) (data : List Byte) (own : Nat) (p : BusPort) : BusPort :=
  if p.port = .idle then
    { p with
      port := .send
      recessive := 0
      shift := some ⟨t, data, wireBytes t.first (BitVec.ofNat 4 own) data, false⟩ }
  else { p with slots := p.slots.put t (some data) }

/-- What one evaluation of the split check leaves of the split timer and the split condition, by the table of R86:
`differs` is its finding. -/
def splitAfter (differs : Bool) (before after : Steering) : Prop :=
  if differs then
    if before.splitTimer = none ∧ before.split = false then after.splitTimer = some 200 ∧ after.split = false
    else after.splitTimer = before.splitTimer ∧ after.split = before.split
  else after.splitTimer = none ∧ after.split = false

/-- The finding of the split check on a REAR station in RUN (R85): FRONT's entry is heard and shows RUN, and its active
bank is not the station's own. -/
def banksDiffer (front : Peer) (own : Nat) : Bool :=
  front.heard && shownState front.stateByte == 2 && (front.cues.extractLsb' 0 2).toNat != own

/-- All of these together. -/
def stationSafe (s : State) : Bool :=
  conditionsSafe s && switchSafe s && outputsSafe s && incidentsSafe s && portSafe s && lockSafe s && failsafeSafe s &&
    dwellSafe s && lineEndSafe s && settingsSafe s && servoSafe s && shareSafe s

end Sys2Proof.Machine
end

