-- ==== Sys2Proof/Certificates/Slice0/Obligations.lean ====
section
/-! DEFINITION. The statements for the provers. Each docstring names the rules it formalises, or the log entry it rests
on. A frame is written `t = { s with … }`: every block that is not named is unchanged. -/

open Sys2Proof Sys2Proof.Machine

/-! ### The block and its resets -/

/-- The command at the front of the queue is executed with the queue's rest. On an empty queue outside HALT, where no
timed event is due after the next 1 ms, a step only advances the ages, clocks, timers and the recessive count: the
model's choice, logs 2 and 32.
-/
def Obligations.StepRunsFrontCommand : Prop :=
  (∀ (c : Instr) (rest : List Instr) (s : State), s.pending = c :: rest → step s = exec c { s with pending := rest }) ∧
    ∀ s : State, s.pending = [] → s.ctl.station ≠ .halt →
      (∀ c ∈ timedEvents (advance s), isDue (advance s) c = false) → step s = .next (advance s)

/-- R7: in HALT no command but a power-on reset or a pin reset changes anything, and time stands still. -/
def Obligations.HaltChangesNothing : Prop :=
  ∀ (s : State), s.ctl.station = .halt →
    (∀ c, (∀ p, c ≠ .powerOnReset p ∧ c ≠ .pinReset p) → exec c s = .next s) ∧ (s.pending = [] → step s = .next s)

/-- R1, R2, R4, R11, R163, R170: a reset on valid straps latches them and begins START with every block at its reset
value; on a strap fault it goes straight to HALT with nothing queued and no fault flag. A power-on reset also empties
the Incident List and its clock, a pin reset keeps both, apart from the SETTINGS-DEFAULTED incidents of START. The
model's choices in it (DESIGN CHOICE): the queue of commands is kept (log 24), the field `ahead` is 0 (log 31), Train
mode's slot index is 0 and its incomplete flag clear (log 33), and the servo shadow on a strap fault is 1500 (log 34). -/
def Obligations.ResetByStraps : Prop :=
  ∀ (s : State) (p : Pins), ∃ t u, exec (.powerOnReset p) s = .next t ∧ exec (.pinReset p) s = .next u ∧
    t.log.clock = 0 ∧ (∀ e ∈ t.log.entries, e.code = .settingsDefaulted) ∧ u.log.clock = s.log.clock ∧
    (∀ r ∈ [t, u], r.ctl.role = p.role ∧ r.ctl.radio = p.radio ∧ r.ctl.commit = none ∧ r.ctl.failsafe = false ∧
      r.ctl.demandHold = false ∧ r.ctl.isolated = false ∧ r.peers = {} ∧ r.latest = {} ∧ r.cap = {} ∧ r.dem = {} ∧
      r.bridge = {} ∧ r.pack = {} ∧ r.share = {} ∧ r.nvm = abandonedNvm s ∧
      r.pending = s.pending) ∧
    (strapFault p = false → (∀ r ∈ [t, u], r.ctl.station = .start ∧
        r.winch = (if roleIs r .winch && homeActive r then { homed := true, activations := 1 } else {}) ∧ r.ctl.startTimer = some 300 ∧
        r.ctl.stationTimer = some 20 ∧ r.lamp = { blinkTimer := some 3 } ∧ r.steer = { shadow := servoCentre r } ∧
        (∃ d, r.port = { slots := { station := some d } }) ∧
        r.ctl.held = (loadSettings (abandonedNvm s)).1 ∧ r.ctl.working = r.ctl.held) ∧
      ((loadSettings (abandonedNvm s)).2 = [] → t.log.entries = [] ∧ u.log = s.log)) ∧
    (strapFault p = true → (∀ r ∈ [t, u], r.ctl.station = .halt ∧ r.winch = {} ∧ r.lamp = {} ∧ r.steer = {} ∧ r.ctl.faults = {} ∧ r.port = {} ∧
        r.ctl.startTimer = none ∧ r.ctl.stationTimer = none) ∧ t.log = {} ∧ u.log = s.log)

/-- R167: a RESTART outside a commit begins START again on the straps read then: the controller, the Peer Table, the
records, the port and every block at their reset values, the stored settings loaded, the Incident List and its clock
kept apart from the SETTINGS-DEFAULTED incidents of START; on a strap fault it is HALT. During a commit it is answered
BUSY (kind 22, result 4) and has no other effect. That the frame is echoed is the model's reading, log 7. The model's
choices in it (DESIGN CHOICE): the queue of commands and the tick counter are kept (log 24), the field `ahead` is 0 (log
31), Train mode's slot index is 0 and its incomplete flag clear (log 33), and on a strap fault the working copy and the
settings held stay (log 11) and the servo shadow is 1500 (log 34). -/
def Obligations.RestartOrBusy : Prop :=
  ∀ (s : State) (rx : Rx) (target : Byte) (p : Pins), takesFrame s 0x86 rx [target] = true →
    targeted s target = true → ∃ t, exec (.restart rx [target] p) s = .next t ∧
      (s.ctl.commit.isSome = true →
        t = { s with port := afterAnswer rx.span [0#4 ++ rx.source, 0x96, 0] s.port }) ∧
      (s.ctl.commit = none → t.pending = s.pending ∧ t.ticks = s.ticks ∧ t.pins = p ∧ t.nvm = s.nvm ∧ t.peers = {} ∧
        t.latest = {} ∧ t.cap = {} ∧ t.dem = {} ∧ t.bridge = {} ∧ t.pack = {} ∧ t.share = {}) ∧
      (s.ctl.commit = none → strapFault p = false →
        t.ctl = {
          role := p.role, radio := p.radio, station := .start, startTimer := some 300, stationTimer := some 20
          faults := { settingsDefaulted := !(loadSettings s.nvm).2.isEmpty }
          working := (loadSettings s.nvm).1, held := (loadSettings s.nvm).1 } ∧
        t.steer = { shadow := servoCentre t } ∧ t.lamp = { blinkTimer := some 3 } ∧
        t.winch = (if roleIs t .winch && homeActive t then { homed := true, activations := 1 } else {}) ∧
        t.log = (loadSettings s.nvm).2.foldl
          (fun l detail => l.append .settingsDefaulted (BitVec.ofNat 16 detail)) s.log ∧
        ∃ d, t.port = { slots := { station := some d }, echo := .echo, paceSpan := rx.span }) ∧
      (s.ctl.commit = none → strapFault p = true →
        t.ctl = {
          role := p.role, radio := p.radio, station := .halt, working := s.ctl.working, held := s.ctl.held } ∧
        t.steer = {} ∧ t.lamp = {} ∧ t.winch = {} ∧ t.log = s.log ∧ t.port = {})

/-- R168: a commit whose stored table matches the working copy restarts the station on it; a mismatch is answered
WRITE-FAILED to the RELEASE's sender and recorded, and leaves the working copy and SETUP as they are. That equal items
alone make the match, whatever the stored check, is the model's choice: log 6, DESIGN CHOICE, unsafe. -/
def Obligations.CommitMatchesOrFails : Prop :=
  ∀ (s : State) (c : Commit) (stored : StoredTable) (p : Pins),
    s.ctl.station ≠ .halt → s.ctl.commit = some c → ∃ t, exec (.commitEnd stored p) s = .next t ∧
      (storedItems stored.items = storedItems s.ctl.working → strapFault p = false →
        t.ctl.station = .start ∧ t.nvm = stored ∧ t.ctl.held = (loadSettings stored).1 ∧ t.port.slots.answer = none) ∧
      (storedItems stored.items = storedItems s.ctl.working → strapFault p = true → t.ctl.station = .halt) ∧
      (storedItems stored.items ≠ storedItems s.ctl.working →
        t = { s with nvm := stored, ctl := { s.ctl with commit := none }, port := t.port, log := t.log } ∧
          t.log.entries.getLast? = some ⟨.settingsWrite, s.log.clock, 0⟩ ∧
          (portReady s = true →
            t.port = afterQueue .answer [0#4 ++ c.requester, 0xB5, 0] (ownAddress s) s.port))

/-- R6, R9, R29, R52, R76, R78, R111, R118, R145: what RUN entry leaves of the conditions, the records, the timers named
here and the outputs. On a station that is not the RADIO station FAILSAFE holds, the bridge brakes, the servo emits
ServoCentre and the winch is LOCKED; the RADIO station starts its demand timer. That the DEMAND record has the values
of a reset is the model's reading of "not held": log 10, DEDUCED. -/
def Obligations.RunEntry : Prop :=
  ∀ (s : State), s.ctl.station = .start → s.ctl.startTimer.isSome = true → ∃ t,
    exec .startTimerExpiry s = .next t ∧ t.ctl.station = .run ∧ t.ctl.startTimer = none ∧
      t.ctl.stationTimer = some 20 ∧ t.ctl.isolated = s.port.isolation ∧ t.latest.allowance = s.latest.allowance ∧
      t.peers = s.peers ∧ t.cap = s.cap ∧ t.nvm = s.nvm ∧ t.pins = s.pins ∧ t.lamp.fadeTimer = some 4 ∧ t.share.timer = some 20 ∧
      t.share.cause = some .entry ∧ (isAxle s = true → t.steer.srv = true ∧ t.steer.output = servoCentre s) ∧
      (s.port.isolation = true → ∃ e ∈ t.log.entries, e.code = .isolated ∧ e.time = s.log.clock) ∧
      (s.ctl.radio = true → t.dem.demandTimer = some 20 ∧ t.dem.armed = false) ∧
      (s.ctl.radio = false → t.ctl.failsafe = true ∧ t.ctl.demandHold = false ∧ t.latest.demand = {} ∧
        t.latest.source = s.latest.source ∧ t.dem = s.dem ∧ t.lamp.cues.hazard = true ∧
        t.pack = (if roleIs s .pack then { s.pack with checkTimer := some 500 } else s.pack) ∧
        (bridgeInUse s = true → s.bridge.tripped = false → s.bridge.latched = false →
          t.bridge.driveState = .brake ∧ t.bridge.brakeLevel = 100 ∧ t.bridge.tripLevel = 0) ∧
        (isAxle s = true → t.steer.mode = .centre) ∧ (roleIs s .winch = true → t.winch.state = .locked))

/-- R11, R12, R94: the STATION timer's expiry queues a STATION with the fields of that moment, all eight fault flags and
the active bank (0 but on an axle station) among them, and starts the timer again. -/
def Obligations.StationPublished : Prop :=
  ∀ (s : State), s.ctl.station ≠ .halt → s.ctl.stationTimer.isSome = true → portReady s = true → ∃ t d,
    exec .stationTimerExpiry s = .next t ∧
      t = { s with
        ctl := { s.ctl with stationTimer := some 20 }
        port := afterQueue .station d (ownAddress s) s.port } ∧
      d.length = 8 ∧ shownState (byteAt d 0) = s.ctl.station.code ∧ (byteAt d 0).getLsbD 5 = s.ctl.failsafe ∧
      (byteAt d 0).getLsbD 4 = s.ctl.demandHold ∧ (byteAt d 0).getLsbD 3 = s.ctl.isolated ∧
      (byteAt d 1).getLsbD 7 = s.ctl.faults.bridgeTrip ∧ (byteAt d 1).getLsbD 6 = s.ctl.faults.bridgeLatched ∧
      (byteAt d 1).getLsbD 5 = s.ctl.faults.winchStall ∧ (byteAt d 1).getLsbD 4 = s.ctl.faults.bankSplit ∧
      (byteAt d 1).getLsbD 3 = s.ctl.faults.demandConflict ∧ (byteAt d 1).getLsbD 2 = s.ctl.faults.sensor ∧
      (byteAt d 1).getLsbD 1 = s.ctl.faults.settingsDefaulted ∧ (byteAt d 1).getLsbD 0 = s.ctl.faults.packFault ∧
      (byteAt d 2).getLsbD 7 = brakingFlag s ∧ (byteAt d 2).getLsbD 6 = reversingFlag s ∧
      (byteAt d 2).getLsbD 5 = workingFlag s ∧ (byteAt d 2).getLsbD 4 = s.lamp.cues.hazardRequest ∧
      (byteAt d 2).getLsbD 3 = digLockedFlag s ∧ (byteAt d 2).getLsbD 2 = bridgeOffFlag s ∧
      ((byteAt d 2).extractLsb' 0 2).toNat = (if isAxle s then s.steer.active % 4 else 0) ∧
      byteAt d 3 = natByte s.lamp.phase ∧ byteAt d 4 = natByte s.share.wants.k ∧ byteAt d 5 = natByte s.share.wants.a ∧
      byteAt d 6 = natByte s.share.wants.b ∧ byteAt d 7 = natByte s.share.wants.c

/-! ### Frames that arrive -/

/-- R13, R85, R86, R88, R133, R135, R136, R138, R153: an intact STATION of another role address fills that address's entry and makes
it LIVE, the cues and the base targets are taken from the entries as they then stand, and the blink phase is aligned
where the sender is the blink leader; on REAR in RUN an arrival from FRONT is an evaluation of the split check, which
starts or stops the split timer, ends the split condition or leaves both, and the steering mode follows; one of an address
that is no role's changes the port alone. -/
def Obligations.StationFrameFillsPeer : Prop :=
  ∀ (s : State) (rx : Rx) (d : List Byte), takesFrame s 0x61 rx d = true → d.length = 8 → ∃ t,
    exec (.stationFrame rx d) s = .next t ∧ t.port = afterEcho rx.span s.port ∧
      (∀ r, sourceRole rx.source = some r →
        t = { s with peers := t.peers, port := t.port, lamp := t.lamp, steer := t.steer } ∧
          t.peers = s.peers.put r
            ⟨.live, 0, byteAt d 0, byteAt d 1, byteAt d 2, byteAt d 3, byteAt d 4, byteAt d 5, byteAt d 6, byteAt d 7⟩ ∧
          (¬ (roleIs s .rear = true ∧ s.ctl.station = .run ∧ r = .front) → t.steer = s.steer) ∧
          (roleIs s .rear = true → s.ctl.station = .run → r = .front →
            t.steer = { s.steer with
              split := t.steer.split, splitTimer := t.steer.splitTimer, mode := t.steer.mode, target := t.steer.target
              shadow := t.steer.shadow } ∧
            splitAfter (shownState (byteAt d 0) == 2 && ((byteAt d 2).extractLsb' 0 2).toNat != s.steer.active)
              s.steer t.steer ∧
            t.steer.mode = (if s.ctl.failsafe then .centre else if t.steer.split then .split else .follow) ∧
            (t.steer.mode ≠ .follow → t.steer.target = 0 ∧ t.steer.shadow = servoCentre s) ∧
            (t.steer.mode = .follow → t.steer.shadow = servoWidth s t.steer.target ∧
              t.steer.target = Int.tdiv (s.latest.demand.steer * bankFactor s s.steer.active) 1000)) ∧
          (let c := t.lamp.cues
          let shows := fun (q : Role) (bit : Nat) =>
            roleIs s q = false ∧ (t.peers.at q).heard = true ∧ (t.peers.at q).cues.getLsbD bit = true
          (c.braking = true ↔ brakingFlag s = true ∨ shows .front 7 ∨ shows .rear 7) ∧
          (c.reversing = true ↔ reversingFlag s = true ∨ shows .front 6 ∨ shows .rear 6) ∧
          (c.winchWorking = true ↔ workingFlag s = true ∨ shows .winch 5) ∧
          (c.hazard = true ↔ s.ctl.station = .run ∧ (s.ctl.failsafe = true ∨
            (roleIs s .front = false ∧ t.peers.front.presence = .lost) ∨
            (roleIs s .rear = false ∧ t.peers.rear.presence = .lost) ∨
            (s.latest.allowance.band = .fresh ∧ 3 ≤ s.latest.allowance.packState.toNat) ∨
            s.latest.allowance.band = .none ∨ s.latest.allowance.band = .lost ∨
            ∃ q, shows q 4 ∨
              (roleIs s q = false ∧ (t.peers.at q).heard = true ∧ (t.peers.at q).stateByte.getLsbD 5 = true))) ∧
          (∀ n, n < 8 →
            let dark : Bool := c.scene == .dark
            let full : Bool := c.scene == .full
            (lampAt t n).base =
              (if functionOf s n = 1 then (if dark then 0 else if full then 255 else 160)
              else if functionOf s n = 2 then (if full then 255 else 0)
              else if functionOf s n = 3 then (if dark then 0 else 64)
              else if functionOf s n = 4 then (if c.braking then 255 else if dark then 0 else 64)
              else if functionOf s n = 5 then (if c.braking then 255 else 0)
              else if functionOf s n = 6 then (if c.reversing then 255 else 0)
              else if functionOf s n = 7 then (if c.left || c.hazard then 255 else 0)
              else if functionOf s n = 8 then (if c.right || c.hazard then 255 else 0)
              else if functionOf s n = 9 then (if dark then 0 else if full then 200 else 96)
              else if functionOf s n = 10 then (if c.winchWorking then 255 else 0)
              else if functionOf s n = 11 then (if c.winchWorking || c.hazard then 255 else 0) else 0))) ∧
          (let expected := ((byteAt d 3).toNat + 1) % 256
          let plain := max expected s.lamp.phase - min expected s.lamp.phase
          let leads := roleAddress r < ownAddress s ∧
            ∀ q, roleAddress q < roleAddress r → (s.peers.at q).presence ≠ .live
          (leads → 3 ≤ min plain (256 - plain) → t.lamp.phase = expected) ∧
          (¬ leads ∨ min plain (256 - plain) < 3 → t.lamp.phase = s.lamp.phase))) ∧
      (sourceRole rx.source = none → t = { s with port := t.port })

/-- R10, R16, R17, R19, R85, R86, R98, R117, R172: an intact DEMAND of address 0, 1 or 4 sets its DEMAND age to 0; it becomes the source
and is accepted unless a lower address is the source, and in RUN it ends DEMAND-HOLD and leaves FAILSAFE set exactly
where its link state is LOST or the station ISOLATED. A link state of 2 that ends FRESH or STALE in RUN records
DEMAND-LOST; the code 3 is LOST without an incident (log 37, DEDUCED). The turn cues and the scene follow it (R134), and on an axle
station in RUN a DEMAND that is taken stages the bank and the dig selection, and FOLLOW's target is its steer under the
active bank's factor (R83, R84, R88, R89, R99); on REAR a change of the active bank is an evaluation of the split check
(R85, R86). In RUN the bridge and the winch controller are what their reactions to an accepted DEMAND leave, which
DriveSelection and StallAndStarve state (in that order, log 8): on an axle station d is the scaled throttle, 0 under
FAILSAFE, on WINCH the effective command is the record's. A DEMAND of any other address changes the port alone. -/
def Obligations.DemandFrameAccepted : Prop :=
  ∀ (s : State) (rx : Rx) (d : List Byte), takesFrame s 0x21 rx d = true → d.length = 8 → ∃ t,
    exec (.demandFrame rx d) s = .next t ∧
      t = { s with
          ctl := t.ctl, latest := t.latest, port := t.port, steer := t.steer, bridge := t.bridge, winch := t.winch,
          pack := t.pack, lamp := t.lamp, log := t.log } ∧
      (sourcePublisher rx.source = none → t = { s with port := afterEcho rx.span s.port }) ∧
      (∀ p, sourcePublisher rx.source = some p →
        t.latest.ageOf p = some 0 ∧ (∀ q, q ≠ p → t.latest.ageOf q = s.latest.ageOf q) ∧
        t.latest.allowance = s.latest.allowance ∧ t.peers = s.peers ∧
        ((∀ o, s.latest.source = some o → publisherAddress p ≤ publisherAddress o) →
          t.latest.source = some p ∧ t.latest.demand.held = true ∧ t.latest.demand.source = some p ∧
            t.latest.demand.age = 0 ∧
            t.latest.demand.throttle = limitTo (-1000) 1000 (half (byteAt d 0) (byteAt d 1)).toInt ∧
            t.latest.demand.steer = limitTo (-1000) 1000 (half (byteAt d 2) (byteAt d 3)).toInt ∧
            t.latest.demand.bankRequest = byteAt d 4 ∧ t.latest.demand.digSelection = byteAt d 5 ∧
            t.latest.demand.winchCommand = (byteAt d 6).extractLsb' 4 4 ∧
            t.latest.demand.scene = (byteAt d 6).extractLsb' 0 4 ∧ t.latest.demand.link = (byteAt d 7).extractLsb' 6 2 ∧
            t.latest.demand.armed = (byteAt d 7).getLsbD 5 ∧ t.latest.demand.quality = (byteAt d 7).extractLsb' 0 5 ∧
            t.latest.demand.band = (if 2 ≤ ((byteAt d 7).extractLsb' 6 2).toNat then .lost else .fresh) ∧
            (s.ctl.station = .run → (s.latest.demand.band = .fresh ∨ s.latest.demand.band = .stale) →
              (byteAt d 7).extractLsb' 6 2 = 2 → t.log.entries.getLast? = some ⟨.demandLost, s.log.clock, 0⟩) ∧
            (s.ctl.radio = false → (byteAt d 7).extractLsb' 6 2 ≠ 2 → t.log = s.log) ∧
            (s.ctl.station = .run → t.ctl.demandHold = false ∧ (t.ctl.failsafe = true ↔
              (2 ≤ ((byteAt d 7).extractLsb' 6 2).toNat ∨ s.ctl.isolated = true))) ∧
            (let live := ((byteAt d 7).extractLsb' 6 2).toNat < 2
            let steer := t.latest.demand.steer
            (t.lamp.cues.left = true ↔ live ∧ steer < -turnThreshold s) ∧
            (t.lamp.cues.right = true ↔ live ∧ turnThreshold s < steer) ∧
            (t.lamp.cues.scene = .run ↔ live ∧ (byteAt d 6).extractLsb' 0 4 = 1) ∧
            (t.lamp.cues.scene = .full ↔ live ∧ (byteAt d 6).extractLsb' 0 4 = 2) ∧
            (s.ctl.station ≠ .run → t.bridge = s.bridge ∧ t.winch = s.winch) ∧
            (s.ctl.station = .run →
              let u := { s with ctl := t.ctl, latest := { t.latest with winch := s.latest.winch } }
              t.bridge = (winchReact true (bridgeReact true u)).bridge ∧
              t.winch = (winchReact true (bridgeReact true u)).winch ∧
              (isAxle s = true → t.winch = s.winch ∧ t.bridge.d =
                (if t.ctl.failsafe then 0 else Int.tdiv (t.latest.demand.throttle * driveScale s) 1000)) ∧
              (roleIs s .winch = true →
                (t.winch.command = .inward ↔ t.ctl.failsafe = false ∧ (byteAt d 6).extractLsb' 4 4 = 1) ∧
                (t.winch.command = .outward ↔ t.ctl.failsafe = false ∧ (byteAt d 6).extractLsb' 4 4 = 2))) ∧
            (¬ (isAxle s = true ∧ s.ctl.station = .run) → t.steer = s.steer ∧
              t.bridge.activeDig = s.bridge.activeDig ∧ t.bridge.pendingDig = s.bridge.pendingDig) ∧
            (isAxle s = true → s.ctl.station = .run →
              let taken := live ∧ s.ctl.isolated = false
              let bank := (byteAt d 4).toNat
              let dig := (byteAt d 5).toNat
              ((¬ taken ∨ 2 < bank) → t.steer.active = s.steer.active ∧ t.steer.pending = s.steer.pending) ∧
              (taken → bank ≤ 2 → bank = s.steer.active → t.steer.active = bank ∧ t.steer.pending = none) ∧
              (taken → bank ≤ 2 → bank ≠ s.steer.active → steer.natAbs ≤ centreBand s →
                t.steer.active = bank ∧ t.steer.pending = none) ∧
              (taken → bank ≤ 2 → bank ≠ s.steer.active → centreBand s < steer.natAbs →
                t.steer.active = s.steer.active ∧ t.steer.pending = some bank) ∧
              ((¬ taken ∨ 2 < dig) →
                t.bridge.activeDig = s.bridge.activeDig ∧ t.bridge.pendingDig = s.bridge.pendingDig) ∧
              (taken → dig ≤ 2 → dig = s.bridge.activeDig → t.bridge.activeDig = dig ∧ t.bridge.pendingDig = none) ∧
              (taken → dig ≤ 2 → dig ≠ s.bridge.activeDig → t.latest.demand.throttle.natAbs ≤ 100 →
                t.bridge.activeDig = dig ∧ t.bridge.pendingDig = none) ∧
              (taken → dig ≤ 2 → dig ≠ s.bridge.activeDig → 100 < t.latest.demand.throttle.natAbs →
                t.bridge.activeDig = s.bridge.activeDig ∧ t.bridge.pendingDig = some dig) ∧
              (roleIs s .rear = false ∨ t.steer.active = s.steer.active →
                t.steer.split = s.steer.split ∧ t.steer.splitTimer = s.steer.splitTimer) ∧
              (roleIs s .rear = true → t.steer.active ≠ s.steer.active →
                splitAfter (banksDiffer s.peers.front t.steer.active) s.steer t.steer) ∧
              (t.ctl.failsafe = true → t.steer.mode = .centre ∧ t.steer.target = 0) ∧
              (t.ctl.failsafe = false → t.steer.split = true → t.steer.mode = .split ∧ t.steer.target = 0) ∧
              (t.ctl.failsafe = false → t.steer.split = false → t.steer.mode = .follow ∧
                t.steer.target = Int.tdiv (steer * bankFactor s t.steer.active) 1000)))) ∧
        (∀ o, s.latest.source = some o → publisherAddress o < publisherAddress p →
          t.latest.source = some o ∧ t.latest.demand = s.latest.demand ∧ t.steer = s.steer ∧ t.bridge = s.bridge ∧
            t.winch = s.winch ∧ t.pack = s.pack ∧ t.lamp = s.lamp))

/-- R20: on the RADIO station a DEMAND of another publisher sets DEMAND-CONFLICT, recorded when the flag is first set;
a lower address empties the DEMAND slot, a higher one leaves it. -/
def Obligations.DemandConflict : Prop :=
  ∀ (s : State) (rx : Rx) (d : List Byte) (p : Publisher), takesFrame s 0x21 rx d = true → d.length = 8 →
    s.ctl.radio = true → sourcePublisher rx.source = some p → ∃ t, exec (.demandFrame rx d) s = .next t ∧
      t = { s with
          ctl := t.ctl, latest := t.latest, port := t.port, steer := t.steer, bridge := t.bridge, winch := t.winch,
          pack := t.pack, lamp := t.lamp, log := t.log } ∧
      t.ctl.faults = { s.ctl.faults with demandConflict := true } ∧
      (s.ctl.faults.demandConflict = false → ∃ e ∈ t.log.entries, e.code = .demandConflict ∧ e.time = s.log.clock) ∧
      t.port.slots.demand = (if publisherAddress p < ownAddress s then none else s.port.slots.demand) ∧
      (publisherAddress p < ownAddress s → ∀ b, s.port.shift = some b → b.topic = .demand →
        t.port.shift = some { b with withdrawn := true })

/-- R16, R51: an intact ALLOWANCE of address 3 is accepted and ends the TRIP hold; in RUN a value below the allowance
used is computed on at once, any other waits; an ALLOWANCE of another address changes the port alone. -/
def Obligations.AllowanceFrameAccepted : Prop :=
  ∀ (s : State) (rx : Rx) (d : List Byte), takesFrame s 0x01 rx d = true → d.length = 6 → ∃ t,
    exec (.allowanceFrame rx d) s = .next t ∧
      t = { s with
          latest := t.latest, port := t.port, share := t.share, lamp := t.lamp, winch := t.winch, bridge := t.bridge } ∧
      (rx.source ≠ 3 → t = { s with port := afterEcho rx.span s.port }) ∧
      (rx.source = 3 →
        t.latest.allowance = ⟨true, some .pack, 0, .fresh, byteAt d 0, byteAt d 1, half (byteAt d 2) (byteAt d 3),
          byteAt d 4, byteAt d 5⟩ ∧ t.latest.demand = s.latest.demand ∧ t.share.tripHold = false ∧
        (s.ctl.station = .run → (byteAt d 0).toNat < s.share.value →
          t.share.value = (byteAt d 0).toNat ∧ t.share.basis = .record ∧ t.share.cause = some .lower) ∧
        (¬ (s.ctl.station = .run ∧ (byteAt d 0).toNat < s.share.value) →
          t.share = { s.share with tripHold := false }))

/-- R16, R103, R172: an intact WINCH of address 2 is accepted; on an axle station the assist cap is in force exactly
while the record shows HAUL, and a forward output duty above it is cut to it at once. -/
def Obligations.WinchFrameSetsAssist : Prop :=
  ∀ (s : State) (rx : Rx) (d : List Byte), takesFrame s 0x41 rx d = true → d.length = 6 → ∃ t,
    exec (.winchFrame rx d) s = .next t ∧
      (rx.source ≠ 2 → t = { s with port := afterEcho rx.span s.port }) ∧
      (rx.source = 2 →
        t = { s with port := t.port, latest := t.latest, bridge := t.bridge } ∧
        t.latest = { s.latest with winch := ⟨true, some .winch, 0, .fresh, byteAt d 0, byteAt d 1,
          half (byteAt d 2) (byteAt d 3), byteAt d 4, byteAt d 5⟩ } ∧
        (isAxle s = true →
          t.bridge.assist = (if byteAt d 0 = 2 then some (assistDuty s * (byteAt d 1).toNat / 255) else none) ∧
          (byteAt d 0 = 2 → s.bridge.driveState = .driveFwd →
            t.bridge.outDuty = min s.bridge.outDuty ((assistDuty s * (byteAt d 1).toNat / 255 : Nat) : Int)) ∧
          (byteAt d 0 ≠ 2 → t.bridge = { s.bridge with assist := none })))

/-- R18, R50: a TRIP of address 3 sets the TRIP hold; in RUN the computation that follows uses 0 with basis TRIP, and
every grant is 0; the ALLOWANCE record is unchanged. -/
def Obligations.TripFrameZeroesGrants : Prop :=
  ∀ (s : State) (rx : Rx) (d : List Byte), takesFrame s 0x02 rx d = true → d.length = 2 → ∃ t,
    exec (.tripFrame rx d) s = .next t ∧
      t = { s with
          latest := t.latest, port := t.port, share := t.share, lamp := t.lamp, winch := t.winch, bridge := t.bridge } ∧
      (rx.source ≠ 3 → t = { s with port := afterEcho rx.span s.port }) ∧
      (rx.source = 3 → t.share.tripHold = true ∧ t.latest.allowance = s.latest.allowance ∧
        (s.ctl.station ≠ .run → t.share = { s.share with tripHold := true }) ∧
        (s.ctl.station = .run → (roleOf s.ctl.role).isSome = true →
          t.share.value = 0 ∧ t.share.basis = .trip ∧ t.share.cause = some .trip ∧ t.share.grants = {}))

/-- R152, R153: a receive error of any frame counts, keeps its kind, is not echoed and delivers nothing; an intact
frame of an unknown class and topic, one of a length its layout does not allow, and every intact ANSWER are echoed
and delivered to nobody. -/
def Obligations.FrameErrorsAndEchoes : Prop :=
  ∀ (s : State) (rx : Rx) (d : List Byte) (first : Byte),
    (∀ (e : RxError) (target : Byte) (kind x : List Byte) (p : Pins) (c : Instr),
      (first, x, c) ∈ frameCommands first target kind d rx p → listening s = true → receive first rx x = .error e →
        exec c s = .next { s with port := { s.port with
          port := .waitIdle, recessive := 0, paceSpan := rx.span, stuckCounted := false, echo := .silent,
          rxErrors := min (s.port.rxErrors + 1) 255, lastError := some e } }) ∧
    (∀ (target : Byte) (kind x : List Byte) (p : Pins) (c : Instr),
      (first, x, c) ∈ frameCommands first target kind d rx p → takesFrame s first rx x = true →
      lengthAllowed first x.length = false → exec c s = .next { s with port := afterEcho rx.span s.port }) ∧
    (takesFrame s 0x82 rx d = true → exec (.answerFrame rx d) s = .next { s with port := afterEcho rx.span s.port }) ∧
    (takesFrame s first rx d = true →
      exec (.unknownTopicFrame first rx d) s = .next { s with port := afterEcho rx.span s.port })

/-- R7, R159: an intact frame of any kind with the station's own address draws the clash mark and sends the station to
HALT with the safe output set and the hazard cue clear (R135); the records and the Incident List are kept. -/
def Obligations.ClashHalts : Prop :=
  ∀ (s : State) (rx : Rx) (first target : Byte) (kind d x : List Byte) (p : Pins) (c : Instr),
    (first, x, c) ∈ frameCommands first target kind d rx p →
    listening s = true → receive first rx x = .intact x → rx.source.toNat = ownAddress s → ∃ t,
      exec c s = .next t ∧ t.ctl.station = .halt ∧ t.ctl.failsafe = false ∧ t.ctl.demandHold = false ∧
        t.ctl.isolated = false ∧ t.port.slots = {} ∧ t.port.shift = none ∧ t.port.echo = .clashMark ∧
        gatesOff t = true ∧ lampsDark t = true ∧ servoQuiet t = true ∧ t.pack.closed = false ∧
        t.lamp.cues.hazard = false ∧ t.lamp.cues.hazardRequest = false ∧
        t.peers = s.peers ∧ t.latest = s.latest ∧ t.log = s.log ∧ t.ctl.faults = s.ctl.faults ∧ t.cap = s.cap ∧
        t.pins = s.pins ∧ t.ctl.held = s.ctl.held ∧
        t.nvm = (if s.ctl.commit.isSome then { s.nvm with good := false } else s.nvm)

/-! ### Service frames -/

/-- R4, R11, R133, R167: a HOLD taken in START enters SETUP, re-evaluates the cues and is answered OK; in SETUP and RUN
it is answered WRONG-STATE; a HOLD for another target is ignored after its echo. -/
def Obligations.HoldEntersSetup : Prop :=
  ∀ (s : State) (rx : Rx) (target : Byte), takesFrame s 0x84 rx [target] = true → ∃ t,
    exec (.hold rx [target]) s = .next t ∧
      (targeted s target = false → t = { s with port := afterEcho rx.span s.port }) ∧
      (targeted s target = true → s.ctl.station = .start →
        (∃ d, t.port = { afterAnswer rx.span [0#4 ++ rx.source, 0x14, 0] s.port with
          slots := { s.port.slots with answer := some [0#4 ++ rx.source, 0x14, 0], station := some d } }) ∧
        t = { s with
          ctl := { s.ctl with station := .setup, startTimer := none, stationTimer := some 20 }
          lamp := (evalCues s).lamp
          port := t.port }) ∧
      (targeted s target = true → s.ctl.station ≠ .start →
        t = { s with port := afterAnswer rx.span [0#4 ++ rx.source, 0x74, 0] s.port })

/-- R166, R171: a SETTING is answered by the table of R166, and only an OK changes the working copy. -/
def Obligations.SettingTable : Prop :=
  ∀ (s : State) (rx : Rx) (target id : Byte) (value : Half),
    takesFrame s 0x83 rx (target :: id :: bytes2 value) = true → targeted s target = true → ∃ t,
    exec (.setting rx [target] [id] (bytes2 value)) s = .next t ∧
      (s.ctl.station ≠ .setup → t = { s with port := afterAnswer rx.span [0#4 ++ rx.source, 0x73, id] s.port }) ∧
      (s.ctl.station = .setup → s.ctl.commit.isSome = true →
        t = { s with port := afterAnswer rx.span [0#4 ++ rx.source, 0x93, id] s.port }) ∧
      (s.ctl.station = .setup → s.ctl.commit = none → settingRow id.toNat = none →
        t = { s with port := afterAnswer rx.span [0#4 ++ rx.source, 0x33, id] s.port }) ∧
      (∀ r, s.ctl.station = .setup → s.ctl.commit = none → settingRow id.toNat = some r →
        let v : Int := if 32 ≤ id.toNat ∧ id.toNat ≤ 37 then value.toInt else value.toNat
        (¬ (r.lo ≤ v ∧ v ≤ r.hi) →
          t = { s with port := afterAnswer rx.span [0#4 ++ rx.source, 0x53, id] s.port }) ∧
        (r.lo ≤ v ∧ v ≤ r.hi →
          t = { s with
            port := afterAnswer rx.span [0#4 ++ rx.source, 0x13, id] s.port
            ctl := { s.ctl with working := s.ctl.working.set id.toNat v } }))

/-- R165, R166: a SETTING answered OK is what a FETCH SETTING of that id then answers; every other item answers as
before. -/
def Obligations.SettingReadsBack : Prop :=
  ∀ (s : State) (id : Byte) (value : Half) (r : SettingRow),
    s.ctl.working.length = settingPlaces → s.ctl.station = .setup → s.ctl.commit = none →
    settingRow id.toNat = some r → r.admits (settingValue id.toNat value) = true →
      fetchPayload (takeSetting id value 15 s) 4 id.toNat = some (bytes2 value) ∧
        ∀ k, k ≠ id.toNat → fetchPayload (takeSetting id value 15 s) 4 k = fetchPayload s 4 k

/-- R168: a RELEASE taken in SETUP starts the commit and is not answered; during a commit it is answered BUSY, in
START and RUN WRONG-STATE. -/
def Obligations.ReleaseStartsCommit : Prop :=
  ∀ (s : State) (rx : Rx) (target : Byte), takesFrame s 0x85 rx [target] = true → targeted s target = true → ∃ t,
    exec (.release rx [target]) s = .next t ∧
      (s.ctl.station ≠ .setup → t = { s with port := afterAnswer rx.span [0#4 ++ rx.source, 0x75, 0] s.port }) ∧
      (s.ctl.station = .setup → s.ctl.commit.isSome = true →
        t = { s with port := afterAnswer rx.span [0#4 ++ rx.source, 0x95, 0] s.port }) ∧
      (s.ctl.station = .setup → s.ctl.commit = none →
        t = { s with
          port := afterEcho rx.span s.port
          ctl := { s.ctl with commit := some ⟨rx.source, 0⟩ } })

/-- R164, R165, R171: a FETCH of any kind changes nothing but the port; taken, it is answered with its kind and index,
OK with the item's payload of at most five bytes, or UNKNOWN without one. R63, R81, R95, R113, R131: the payload of every
item of section 11.4 follows, and that every other kind and index has none. That WINCH 1 shows the duty 0 and BRIDGE 1 no
assist flag outside RUN is log 27 (DEDUCED), and the place of the link state in CAPTURE 6 is log 29 (DESIGN CHOICE). -/
def Obligations.FetchOnlyAnswers : Prop :=
  (∀ (s : State) (rx : Rx) (target kind index : Byte) (c : Instr),
    (kind, c) ∈ [(1, .fetchSummary rx target [index]), (2, .fetchPeer rx target [index]),
      (3, .fetchIncident rx target [index]), (4, .fetchSetting rx target [index]), (5, .fetchShare rx target [index]),
      (6, .fetchCells rx target [index]), (7, .fetchCapture rx target [index]), (8, .fetchWinch rx target [index]),
      (9, .fetchBridge rx target [index]), (10, .fetchScan rx target [index]),
      (kind, Instr.fetchUnknownKind rx [target] [kind] [index])] →
    takesFrame s 0x81 rx [target, kind, index] = true →
      (targeted s target = false → exec c s = .next { s with port := afterEcho rx.span s.port }) ∧
      (targeted s target = true → ∃ result payload,
        exec c s = .next { s with
          port := afterAnswer rx.span ((0#4 ++ rx.source) :: (result ++ answeredKind kind) :: index :: payload) s.port } ∧
        ((result = 0#3 ∧ fetchPayload s kind.toNat index.toNat = some payload) ∨
          (result = 1#3 ∧ fetchPayload s kind.toNat index.toNat = none ∧ payload = [])) ∧ payload.length ≤ 5)) ∧
  ∀ s : State,
    (∀ k, 11 ≤ k ∨ k = 0 → ∀ i, fetchPayload s k i = none) ∧
    fetchPayload s 1 0 = some [stateByte s, faultByte s.ctl.faults, BitVec.ofBool s.ctl.radio ++ 0#4 ++ s.ctl.role,
      natByte s.log.entries.length] ∧
    fetchPayload s 1 1 = some [natByte s.port.unheard, natByte s.port.rxErrors,
      (if s.port.lastError = none then 0 else if s.port.lastError = some .framing then 1
        else if s.port.lastError = some .format then 2 else if s.port.lastError = some .check then 3
        else if s.port.lastError = some .pace then 4 else 5),
      natByte s.port.lostArbitrations, natByte s.port.collisions] ∧
    fetchPayload s 1 2 = some (natBytes4 s.log.clock) ∧ (∀ i, 3 ≤ i → fetchPayload s 1 i = none) ∧
    (∀ r, (roleIs s r = true → ∀ j, fetchPayload s 2 (8 * j + roleAddress r) = none) ∧ (roleIs s r = false →
      fetchPayload s 2 (roleAddress r) = some ((s.peers.at r).presence.code :: natBytes2 (s.peers.at r).age ++
        [(s.peers.at r).stateByte, (s.peers.at r).faults]) ∧
      fetchPayload s 2 (8 + roleAddress r) = some [(s.peers.at r).cues, (s.peers.at r).phase, (s.peers.at r).wantK,
        (s.peers.at r).wantA, (s.peers.at r).wantB] ∧
      fetchPayload s 2 (16 + roleAddress r) = some [(s.peers.at r).wantC])) ∧
    (∀ i, (5 ≤ i % 8 ∨ 24 ≤ i) → fetchPayload s 2 i = none) ∧
    (∀ k, k < 8 → s.log.entries[k]? = none → fetchPayload s 3 k = none ∧ fetchPayload s 3 (8 + k) = none) ∧
    (∀ k e, k < 8 → s.log.entries[k]? = some e →
      fetchPayload s 3 k = some (e.code.code :: natBytes4 e.time) ∧
      fetchPayload s 3 (8 + k) = some (e.code.code :: bytes2 e.detail)) ∧
    (∀ i, 16 ≤ i → fetchPayload s 3 i = none) ∧
    (∀ i, fetchPayload s 4 i = (if (settingRow i).isSome then some (intBytes2 (settingAt s.ctl.working i)) else none)) ∧
    fetchPayload s 5 0 = some ([natByte s.share.value,
      (if s.share.basis = .none then 0 else if s.share.basis = .record then 1 else if s.share.basis = .trip then 2 else 3)] ++
      natBytes2 s.share.age ++ [if s.share.tripHold then 1 else 0]) ∧
    fetchPayload s 5 1 = some [natByte s.share.wants.k, natByte s.share.wants.a, natByte s.share.wants.b,
      natByte s.share.wants.c] ∧
    fetchPayload s 5 2 = some [natByte s.share.grants.k, natByte s.share.grants.a, natByte s.share.grants.b,
      natByte s.share.grants.c] ∧
    fetchPayload s 5 3 = some (natBytes2 s.share.count ++ [if s.share.cause = none then 0
      else if s.share.cause = some .entry then 1 else if s.share.cause = some .timer then 2
      else if s.share.cause = some .lower then 3 else 4]) ∧ (∀ i, 4 ≤ i → fetchPayload s 5 i = none) ∧
    (roleIs s .pack = false → ∀ i, fetchPayload s 6 i = none ∧ fetchPayload s 10 i = none) ∧
    (roleIs s .pack = true →
      fetchPayload s 6 0 = some (natBytes2 (cellAt s.pack.table 0) ++ natBytes2 (cellAt s.pack.table 1)) ∧
      fetchPayload s 6 1 = some (natBytes2 (cellAt s.pack.table 2) ++ natBytes2 (cellAt s.pack.table 3)) ∧
      (∀ i, 2 ≤ i → fetchPayload s 6 i = none) ∧
      fetchPayload s 10 0 = some (natBytes2 s.pack.table.vMin ++ [natByte s.pack.table.current,
        BitVec.ofInt 8 s.pack.table.temp, if s.pack.table.sensorFault then 1 else 0]) ∧
      fetchPayload s 10 1 = some (natBytes2 s.pack.table.scans ++ [s.pack.state.code, natByte s.pack.tripCount,
        if s.pack.closed then 1 else 0]) ∧
      fetchPayload s 10 2 = some [natByte s.pack.trim, natByte s.pack.rampCap, natByte s.pack.aPrev] ∧
      (∀ i, 3 ≤ i → fetchPayload s 10 i = none)) ∧
    (s.ctl.radio = false → ∀ i, fetchPayload s 7 i = none) ∧
    (s.ctl.radio = true → (∀ i, i < 6 → fetchPayload s 7 i = some (natBytes2 (channelAt s i).width ++
        intBytes2 (channelAt s i).value ++ [(channelAt s i).band.code ++ (channelAt s i).zone.code])) ∧
      fetchPayload s 7 6 = some [0#6 ++ s.dem.link.code, if s.dem.armed then 1 else 0, natByte (quality s.dem.history),
        natByte s.cap.rejected, if s.dem.published then 1 else 0] ∧ (∀ i, 7 ≤ i → fetchPayload s 7 i = none)) ∧
    (roleIs s .winch = false → ∀ i, fetchPayload s 8 i = none) ∧
    (roleIs s .winch = true →
      (∃ f, fetchPayload s 8 0 = some (s.winch.state.code :: intBytes2 s.winch.position ++ [f]) ∧
        f.getLsbD 7 = s.winch.homed ∧ f.getLsbD 6 = (s.winch.state == .payout && !s.winch.homed) ∧
        f.getLsbD 5 = homeActive s ∧ f.getLsbD 4 = s.winch.holdOff ∧ f.extractLsb' 2 2 = 0 ∧
        f.extractLsb' 0 2 = (if s.winch.starvedFrom = some .haul then 1 else if s.winch.starvedFrom = some .payout then 2
          else 0)) ∧
      (∃ f, fetchPayload s 8 1 = some ([natByte s.winch.tension, natByte s.winch.stallCount] ++
          intBytes2 (if s.ctl.station = .run then
            (if s.winch.state = .haul then ((haulDuty s * min (s.winch.ramp.getD 0) 200 / 200 : Nat) : Int)
              else if s.winch.state = .payout then
                -((if s.winch.homed then payoutDuty s else min (payoutDuty s) (unhomedDuty s) : Nat) : Int)
              else 0)
            else 0) ++ [f]) ∧
        f.getLsbD 7 = s.winch.ramp.isSome ∧ f.getLsbD 6 = s.winch.stallTimer.isSome ∧
        f.getLsbD 5 = s.winch.starveTimer.isSome ∧ f.extractLsb' 0 5 = 0) ∧
      fetchPayload s 8 2 = some (natBytes2 s.winch.hallEdges ++ [natByte s.winch.activations] ++
        natBytes2 s.winch.msInState) ∧ (∀ i, 3 ≤ i → fetchPayload s 8 i = none)) ∧
    (bridgeInUse s = false → ∀ i, fetchPayload s 9 i = none) ∧ (isAxle s = false → ∀ i, 4 ≤ i → fetchPayload s 9 i = none) ∧
    (∀ i, 6 ≤ i → fetchPayload s 9 i = none) ∧
    (bridgeInUse s = true →
      fetchPayload s 9 0 = some ([s.bridge.driveState.code, natByte s.bridge.brakeLevel] ++
        intBytes2 s.bridge.outDuty ++ [natByte s.bridge.tripLevel]) ∧
      (∃ f, fetchPayload s 9 1 = some (intBytes2 s.bridge.d ++ [natByte (bridgeWant s), natByte s.bridge.current, f]) ∧
        f.getLsbD 7 = (inRun s && s.bridge.assist.isSome) ∧ f.getLsbD 6 = digLock s ∧
        f.getLsbD 5 = s.bridge.dwellTimer.isSome ∧ f.extractLsb' 2 3 = 0 ∧
        f.extractLsb' 0 2 = (if s.bridge.lastSign = some .plus then 1 else if s.bridge.lastSign = some .minus then 2
          else 0)) ∧
      (∃ f, fetchPayload s 9 2 = some (natByte s.bridge.tripCount :: natBytes2 (s.bridge.sinceTrip.getD 65535) ++ [f]) ∧
        f.getLsbD 7 = s.bridge.rearmTimer.isSome ∧ f.getLsbD 6 = s.bridge.windowTimer.isSome ∧
        f.getLsbD 5 = s.bridge.latched ∧ f.extractLsb' 0 5 = 0) ∧
      fetchPayload s 9 3 = some ([natByte s.bridge.activeDig, natByte (s.bridge.pendingDig.getD 3)] ++
        natBytes2 s.bridge.limited)) ∧
    (isAxle s = true →
      (∃ f, fetchPayload s 9 4 = some (f :: intBytes2 (bankFactor s s.steer.active) ++ intBytes2 s.steer.target) ∧
        f.extractLsb' 6 2 = BitVec.ofNat 2 s.steer.active ∧ f.extractLsb' 4 2 = BitVec.ofNat 2 (s.steer.pending.getD 3) ∧
        f.extractLsb' 2 2 = s.steer.mode.code ∧ f.getLsbD 1 = s.steer.split ∧
        f.getLsbD 0 = s.steer.splitTimer.isSome) ∧
      fetchPayload s 9 5 = some (intBytes2 s.steer.shadow ++ intBytes2 s.steer.output ++ [natByte (servoRate s)]))

/-- R169: whatever the stored table holds, the settings that START loads lie in their ranges and pass every cross-item
check; a good table that passes them all is loaded as it stands, with no incident. -/
def Obligations.LoadedSettingsValid : Prop :=
  ∀ (stored : StoredTable), settingsValid (loadSettings stored).1 = true ∧
    (stored.good = false → loadSettings stored = (defaultSettings, [0])) ∧
    (stored.good = true → settingsValid (storedItems stored.items) = true →
      loadSettings stored = (storedItems stored.items, []))

/-! ### Ages -/

/-- R19: when an address's DEMAND age passes 250 ms and it was the source, the source passes to the lowest current
address or to none; the records are unchanged. -/
def Obligations.SourcePassesOn : Prop :=
  ∀ (s : State) (p : Publisher) (age : Nat), s.ctl.station ≠ .halt → s.latest.ageOf p = some age → ∃ t,
    exec (.demandSourceExpiry p) s = .next t ∧ t = { s with latest := t.latest } ∧
      t.latest.demand = s.latest.demand ∧ t.latest.ageOf p = some (max age 251) ∧
      (s.latest.source ≠ some p → t.latest.source = s.latest.source) ∧
      (s.latest.source = some p → ∀ q, t.latest.source = some q →
        q ≠ p ∧ (∃ n, s.latest.ageOf q = some n ∧ n ≤ 250) ∧
          ∀ o n, o ≠ p → s.latest.ageOf o = some n → n ≤ 250 → publisherAddress q ≤ publisherAddress o) ∧
      (s.latest.source = some p → t.latest.source = none → ∀ o n, o ≠ p → s.latest.ageOf o = some n → 250 < n)

/-- R8, R10, R17, R98, R117: the DEMAND record that passes 60 ms is STALE, which gives DEMAND-HOLD in RUN unless FAILSAFE holds
through ISOLATED (log 9); one that passes 250 ms is LOST: in RUN DEMAND-HOLD clears, FAILSAFE is set and a DEMAND-LOST
incident is recorded. In RUN the bridge and the winch controller are what their reactions leave, which DriveSelection
states of the bridge, and the effective command of a winch is HOLD. The record's fields are kept. -/
def Obligations.DemandRecordAges : Prop :=
  ∀ (s : State), s.ctl.station ≠ .halt → s.latest.demand.held = true →
    (s.latest.demand.band = .fresh → ∃ t, exec .demandRecordStale s = .next t ∧
      t = { s with
          ctl := t.ctl, latest := t.latest, port := t.port, steer := t.steer, bridge := t.bridge, winch := t.winch,
          pack := t.pack, lamp := t.lamp } ∧
      t.latest.demand = { s.latest.demand with band := .stale, age := max s.latest.demand.age 61 } ∧
      (s.ctl.station = .run → t.ctl = { s.ctl with failsafe := s.ctl.isolated, demandHold := !s.ctl.isolated } ∧
        (isAxle s = true → t.bridge = (bridgeReact false { s with ctl := t.ctl, latest := t.latest }).bridge ∧
          t.bridge.d = 0) ∧
        (roleIs s .winch = true → t.winch.command = .hold)) ∧
      (s.ctl.station ≠ .run → t.ctl = s.ctl)) ∧
    (s.latest.demand.band = .fresh ∨ s.latest.demand.band = .stale → ∃ t, exec .demandRecordLost s = .next t ∧
      t = { s with
          ctl := t.ctl, latest := t.latest, port := t.port, steer := t.steer, bridge := t.bridge, winch := t.winch,
          pack := t.pack, lamp := t.lamp, log := t.log } ∧
      t.latest.demand = { s.latest.demand with band := .lost, age := max s.latest.demand.age 251 } ∧
      (s.ctl.station = .run → t.ctl = { s.ctl with failsafe := true, demandHold := false } ∧
        t.log.entries.getLast? = some ⟨.demandLost, s.log.clock, 0⟩ ∧
        (isAxle s = true → t.bridge = (bridgeReact false { s with ctl := t.ctl, latest := t.latest }).bridge ∧
          t.bridge.d = 0) ∧
        (roleIs s .winch = true → t.winch.command = .hold)) ∧
      (s.ctl.station ≠ .run → t.ctl = s.ctl ∧ t.log = s.log))

/-- R17, R103, R117: an ALLOWANCE or WINCH record that passes 100 ms is LOST with its fields kept; the assist cap
ceases with the WINCH record. -/
def Obligations.OtherRecordsBecomeLost : Prop :=
  ∀ (s : State), s.ctl.station ≠ .halt →
    (s.latest.allowance.held = true → s.latest.allowance.band = .fresh → ∃ t, exec .allowanceRecordLost s = .next t ∧
      t = { s with latest := t.latest, lamp := t.lamp, winch := t.winch, bridge := t.bridge, port := t.port } ∧
      t.latest.allowance = { s.latest.allowance with band := .lost, age := max s.latest.allowance.age 101 } ∧
      t.latest.demand = s.latest.demand) ∧
    (s.latest.winch.held = true → s.latest.winch.band = .fresh → ∃ t, exec .winchRecordLost s = .next t ∧
      t = { s with latest := t.latest, bridge := t.bridge } ∧
      t.latest = { s.latest with winch :=
        { s.latest.winch with band := .lost, age := max s.latest.winch.age 101 } } ∧
      (isAxle s = true → t.bridge = { s.bridge with assist := none }))

/-- R14, R85, R86: a peer's entry passes from LIVE to STALE and from STALE to LOST with its published fields kept; the entries
of the other addresses are unchanged. On REAR in RUN a change of FRONT's presence is an evaluation of the split check: a
FRONT that becomes LOST stops the split timer and ends the split condition. -/
def Obligations.PeerAges : Prop :=
  ∀ (s : State) (r : Role), s.ctl.station ≠ .halt → roleIs s r = false →
    ((s.peers.at r).presence = .live ∨ (s.peers.at r).presence = .stale) → ∃ t,
    exec (.peerPresenceChange r) s = .next t ∧
      t = { s with peers := t.peers, lamp := t.lamp, steer := t.steer } ∧
      t.peers = s.peers.put r { s.peers.at r with
        presence := (if (s.peers.at r).presence = .live then .stale else .lost)
        age := max (s.peers.at r).age (if (s.peers.at r).presence = .live then 61 else 201) } ∧
      (roleIs s .rear = true → s.ctl.station = .run → r = .front →
        splitAfter (banksDiffer t.peers.front s.steer.active) s.steer t.steer ∧
          t.steer.mode = (if s.ctl.failsafe then .centre else if t.steer.split then .split else .follow) ∧
          ((s.peers.at r).presence = .stale → t.steer.splitTimer = none ∧ t.steer.split = false)) ∧
      (¬ (roleIs s .rear = true ∧ s.ctl.station = .run ∧ r = .front) → t.steer = s.steer) ∧
      ((r = .front ∨ r = .rear) → (s.peers.at r).presence = .stale → s.ctl.station = .run → t.lamp.cues.hazard = true)

/-! ### Pack protection -/

/-- R12, R21 to R28: a scan completion on PACK in START or SETUP writes the table and advances the counters, and stops
there; a sensor fault sets SENSOR and, where it was clear, records the incident. -/
def Obligations.ScanFillsTable : Prop :=
  ∀ (s : State) (scan : Scan), roleIs s .pack = true → (s.ctl.station = .start ∨ s.ctl.station = .setup) → ∃ t,
    exec (.scanCompletion scan) s = .next t ∧ t = { s with pack := t.pack, ctl := t.ctl, log := t.log } ∧
      t.ctl = { s.ctl with faults := { s.ctl.faults with
        sensor := s.ctl.faults.sensor || decide (scan.temp < -40 ∨ 125 < scan.temp) } } ∧
      t.log = (if (scan.temp < -40 ∨ 125 < scan.temp) ∧ s.ctl.faults.sensor = false then s.log.append .sensor 0
        else s.log) ∧
      t.pack = { s.pack with
        table := t.pack.table, counters := t.pack.counters, recovery := t.pack.recovery
        plausibility := t.pack.plausibility } ∧
      t.pack.table.current = ((scan.samples.map fun x => (limitTo 0 255 x).toNat).sum) / 10 ∧
      t.pack.table.scans = min (s.pack.table.scans + 1) 65535 ∧ t.pack.table.temp = limitTo (-128) 127 scan.temp ∧
      (t.pack.table.sensorFault = true ↔ scan.temp < -40 ∨ 125 < scan.temp) ∧
      (∀ k, k < 4 → cellAt t.pack.table k = if k < cellCount s then
        (limitTo 0 5000 (scan.taps.getD k 0 - (if k = 0 then 0 else scan.taps.getD (k - 1) 0))).toNat else 0) ∧
      (∀ k, k < 4 → k < cellCount s → countersAt t.pack k =
        ⟨if cellAt t.pack.table k < warnMv s then min ((countersAt s.pack k).warn + 1) (faultCount s) else 0,
          if cellAt t.pack.table k < reserveMv s then min ((countersAt s.pack k).reserve + 1) (faultCount s) else 0,
          if cellAt t.pack.table k < cutMv s then min ((countersAt s.pack k).cut + 1) (faultCount s) else 0⟩) ∧
      (0 < cellCount s → cellCount s ≤ 4 →
        (∀ k, k < cellCount s → t.pack.table.vMin ≤ cellAt t.pack.table k) ∧
        (∃ k, k < cellCount s ∧ t.pack.table.vMin = cellAt t.pack.table k)) ∧
      ((∀ k, k < cellCount s → warnMv s + hystMv s ≤ cellAt t.pack.table k) →
        t.pack.recovery = min (s.pack.recovery + 1) (faultCount s)) ∧
      (¬ (∀ k, k < cellCount s → warnMv s + hystMv s ≤ cellAt t.pack.table k) → t.pack.recovery = 0) ∧
      ((∀ k, k < cellCount s → 2500 ≤ cellAt t.pack.table k ∧ cellAt t.pack.table k ≤ 4300) →
        t.pack.plausibility = min (s.pack.plausibility + 1) (faultCount s)) ∧
      (¬ (∀ k, k < cellCount s → 2500 ≤ cellAt t.pack.table k ∧ cellAt t.pack.table k ≤ 4300) →
        t.pack.plausibility = 0)

/-- R40: StateCap by pack state. -/
def Obligations.StateCapTable : Prop :=
  ∀ (s : State),
    (s.pack.state = .check → stateCap s = 0) ∧ (s.pack.state = .normal → stateCap s = packMax s) ∧
    (s.pack.state = .limit → stateCap s = packMax s / 2) ∧
    (s.pack.state = .reserve → stateCap s = min (reserveCap s) (packMax s)) ∧
    ((s.pack.state = .cutoff ∨ s.pack.state = .tripped ∨ s.pack.state = .fault) → stateCap s = 0) ∧
    (packMax s = 160 → reserveCap s = 40 → (s.pack.state = .normal → stateCap s = 160) ∧
      (s.pack.state = .limit → stateCap s = 80) ∧ (s.pack.state = .reserve → stateCap s = 40))

/-- R40 to R45: at a scan completion on PACK in RUN the allowance is Base less Trim, where the Base is the least of
StateCap, SagCap, HeatCap and RampCap: RampCap has risen by SoftStep to at most PackMax where the switch is closed, Trim,
0 at an entry to CUTOFF, has risen by a quarter of the overdraw, fallen by 1 or stayed, and lies within PackMax. The
allowance becomes A_prev, enters the station's own record, and never exceeds StateCap nor PackMax; it is 0 in CHECK,
CUTOFF, TRIPPED and FAULT. -/
def Obligations.AllowancePublished : Prop :=
  ∀ (s : State) (scan : Scan), roleIs s .pack = true → s.ctl.station = .run → ∃ t,
    exec (.scanCompletion scan) s = .next t ∧
      t = { s with pack := t.pack, ctl := t.ctl, log := t.log, port := t.port, share := t.share, lamp := t.lamp, latest := t.latest } ∧
      t.pack.aPrev ≤ stateCap t ∧ t.pack.aPrev ≤ packMax s ∧
      (let v := t.pack.table.vMin
      let temp := t.pack.table.temp
      let sag := if kneeMv s ≤ v then packMax s else if v ≤ floorMv s then 0
        else packMax s * (v - floorMv s) / (kneeMv s - floorMv s)
      let heat := if t.pack.table.sensorFault then min (reserveCap s) (packMax s)
        else if temp ≤ heatKnee s then packMax s else if heatStop s ≤ temp then 0
        else packMax s * (heatStop s - temp).toNat / (heatStop s - heatKnee s).toNat
      let trim := if t.pack.state = .cutoff ∧ s.pack.state ≠ .cutoff then 0 else s.pack.trim
      t.pack.rampCap = (if t.pack.closed then min (s.pack.rampCap + softStep s) (packMax s) else s.pack.rampCap) ∧
      (s.pack.aPrev + trimBand s < t.pack.table.current → t.pack.trim =
        min (packMax s) (trim + max 1 ((t.pack.table.current - s.pack.aPrev - trimBand s) / 4))) ∧
      (t.pack.table.current < s.pack.aPrev → t.pack.trim = min (packMax s) (trim - 1)) ∧
      (s.pack.aPrev ≤ t.pack.table.current → t.pack.table.current ≤ s.pack.aPrev + trimBand s →
        t.pack.trim = min (packMax s) trim) ∧
      t.pack.aPrev = min (min (stateCap t) sag) (min heat t.pack.rampCap) - t.pack.trim) ∧
      ((t.pack.state = .check ∨ t.pack.state = .cutoff ∨ t.pack.state = .tripped ∨ t.pack.state = .fault) →
        t.pack.aPrev = 0) ∧
      t.latest.allowance.held = true ∧ t.latest.allowance.age = 0 ∧ t.latest.allowance.band = .fresh ∧
      t.latest.allowance.allowance = natByte t.pack.aPrev ∧ t.latest.allowance.packState = t.pack.state.code ∧
      t.latest.allowance.vMin = BitVec.ofNat 16 t.pack.table.vMin ∧ t.share.tripHold = false ∧
      (portReady s = true → (∃ b, t.port.shift = some b ∧ b.data = allowanceData t t.pack.aPrev) ∨
        t.port.slots.allowance = some (allowanceData t t.pack.aPrev))

/-- R26, R29, R30, R31, R38, R46: a scan completion in RUN leaves CHECK, CUTOFF and FAULT as they are and never closes
the switch. On PACK the cut condition moves NORMAL, LIMIT, RESERVE and TRIPPED to CUTOFF, with the incident of the
lowest such cell, the switch open at once or the CutGrace timer running, and a TRIP; the reserve condition moves NORMAL
and LIMIT to RESERVE, and in TRIPPED a return state of NORMAL or LIMIT to RESERVE; the warn condition moves NORMAL to
LIMIT, and recovery LIMIT to NORMAL. In TRIPPED neither of these two is evaluated against the return state, which is kept
but for the reserve case. -/
def Obligations.ScanTransitions : Prop :=
  ∀ (s t : State) (scan : Scan), s.ctl.station = .run → exec (.scanCompletion scan) s = .next t →
    (s.pack.state = .normal → t.pack.state ∈ [PackState.normal, .limit, .reserve, .cutoff]) ∧
    (s.pack.state = .limit → t.pack.state ∈ [PackState.limit, .normal, .reserve, .cutoff]) ∧
    (s.pack.state = .reserve → t.pack.state ∈ [PackState.reserve, .cutoff]) ∧
    (s.pack.state = .tripped → t.pack.state ∈ [PackState.tripped, .cutoff]) ∧
    ((s.pack.state = .check ∨ s.pack.state = .cutoff ∨ s.pack.state = .fault) → t.pack.state = s.pack.state) ∧
    (t.pack.closed = true → s.pack.closed = true) ∧
    (t.pack.state ≠ .cutoff → t.pack.closed = s.pack.closed) ∧
    (roleIs s .pack = true →
      let holds := fun (which : CellCounters → Nat) (k : Nat) =>
        k < cellCount s ∧ which (countersAt t.pack k) = faultCount s
      let named := fun (code : IncidentCode) (which : CellCounters → Nat) => ∃ k, holds which k ∧
        (∀ j, holds which j → cellAt t.pack.table k ≤ cellAt t.pack.table j ∧
          (cellAt t.pack.table j = cellAt t.pack.table k → k ≤ j)) ∧
        t.log.entries.getLast? =
          some ⟨code, s.log.clock, BitVec.ofNat 16 ((k + 1) * 8192 + cellAt t.pack.table k)⟩
      let cut := ∃ k, holds CellCounters.cut k
      let reserve := ∃ k, holds CellCounters.reserve k
      let warn := ∃ k, holds CellCounters.warn k
      (cut → (s.pack.state.graded = true ∨ s.pack.state = .tripped) →
        t.pack.state = .cutoff ∧ named .cellCut CellCounters.cut ∧
        t.pack.closed = (s.pack.closed && cutGraceMs s != 0) ∧
        t.pack.cutGrace = (if s.pack.closed && cutGraceMs s != 0 then some (cutGraceMs s) else none) ∧
        (portReady s = true → (∃ b, t.port.shift = some b ∧ b.topic = .trip ∧ b.data = [4, 3]) ∨
          t.port.slots.trip = some [4, 3])) ∧
      (¬ cut → reserve → (s.pack.state = .normal ∨ s.pack.state = .limit) →
        t.pack.state = .reserve ∧ named .cellReserve CellCounters.reserve) ∧
      (¬ cut → reserve → s.pack.state = .tripped →
        (s.pack.returnState = some .normal ∨ s.pack.returnState = some .limit) →
        t.pack.state = .tripped ∧ t.pack.returnState = some .reserve ∧ named .cellReserve CellCounters.reserve) ∧
      (¬ cut → s.pack.state = .tripped →
        (¬ reserve ∨ (s.pack.returnState ≠ some .normal ∧ s.pack.returnState ≠ some .limit)) →
        t.pack.returnState = s.pack.returnState ∧ t.pack.holdTimer = s.pack.holdTimer ∧
          t.pack.quietTimer = s.pack.quietTimer) ∧
      (¬ cut → ¬ reserve → warn → s.pack.state = .normal → t.pack.state = .limit ∧ named .cellWarn CellCounters.warn) ∧
      (¬ cut → ¬ reserve → ¬ warn → s.pack.state = .normal → t.pack.state = .normal) ∧
      (¬ cut → ¬ reserve → s.pack.state = .limit →
        t.pack.state = (if t.pack.recovery = faultCount s then .normal else .limit)) ∧
      (¬ cut → (s.pack.state = .reserve ∨ s.pack.state = .tripped) → t.pack.state = s.pack.state))

/-- R29, R31, R32, R33, R46: the CHECK timer's expiry closes the switch into NORMAL with RampCap and Trim 0 where the
pack is plausible; otherwise it enters FAULT, with PACK-FAULT, its incident and a TRIP. The CutGrace timer's expiry
opens the switch and changes nothing else. -/
def Obligations.CheckAndGraceExpire : Prop :=
  ∀ (s : State), roleIs s .pack = true → s.ctl.station = .run →
    (s.pack.cutGrace.isSome = true →
      exec .cutgraceExpiry s = .next { s with pack := { s.pack with cutGrace := none, closed := false } }) ∧
    (s.pack.state = .check → s.pack.checkTimer.isSome = true → ∃ t, exec .checkTimerExpiry s = .next t ∧
      (s.pack.plausibility = faultCount s → t = { s with pack := { s.pack with
        checkTimer := none, state := .normal, closed := true, rampCap := 0, trim := 0 } }) ∧
      (s.pack.plausibility ≠ faultCount s →
        t = { s with pack := t.pack, ctl := t.ctl, log := t.log, port := t.port, share := t.share, lamp := t.lamp } ∧
        t.pack = { s.pack with checkTimer := none, state := .fault, trim := 0 } ∧
        t.ctl.faults = { s.ctl.faults with packFault := true } ∧
        t.log.entries.getLast? = some ⟨.packFault, s.log.clock, 4⟩ ∧ t.share.tripHold = true ∧ t.share.value = 0 ∧
        (portReady s = true → t.port = afterQueue .trip [6, 4] (ownAddress s) s.port)))

/-- R34, R35, R46: a pack trip, the current above PackTrip with the switch closed, opens the switch and counts; NORMAL,
LIMIT and RESERVE become TRIPPED with a return state, a PACK-TRIP incident and a TRIP, latched at the third; a trip in
CUTOFF stops the grace; the incident's detail is the current rounded down; with the switch open nothing happens. -/
def Obligations.PackTripOpensSwitch : Prop :=
  ∀ (s : State) (i : Current), roleIs s .pack = true → s.ctl.station = .run → ∃ t, exec (.packTrip i) s = .next t ∧
    (let above := packTripLevel s < i.whole ∨ (i.whole = packTripLevel s ∧ i.above = true)
    ((s.pack.closed = false ∨ ¬ above) → t = s) ∧
    (s.pack.closed = true → above →
      t = { s with pack := t.pack, log := t.log, port := t.port, share := t.share, lamp := t.lamp } ∧ t.pack.closed = false ∧
      t.pack.tripCount = min (s.pack.tripCount + 1) 255 ∧
      (s.pack.state = .cutoff → t.pack.state = .cutoff ∧ t.pack.cutGrace = none ∧ t.port = s.port ∧
        t.share = s.share ∧ t.log.entries.getLast? = some ⟨.packTrip, s.log.clock, BitVec.ofNat 16 (min 255 i.whole)⟩) ∧
      (s.pack.state.graded = true → t.pack.state = .tripped ∧ t.pack.returnState = some s.pack.state ∧
        t.pack.trim = 0 ∧ t.share.tripHold = true ∧ t.share.value = 0 ∧
        (s.pack.tripCount ≠ 2 → t.pack.latched = false ∧ t.pack.holdTimer = some 2000 ∧
          t.log.entries.getLast? = some ⟨.packTrip, s.log.clock, BitVec.ofNat 16 (min 255 i.whole)⟩ ∧
          (portReady s = true → t.port = afterQueue .trip [5, 1] (ownAddress s) s.port)) ∧
        (s.pack.tripCount = 2 → t.pack.latched = true ∧ t.pack.holdTimer = none ∧ t.pack.quietTimer = none ∧
          t.log.entries.getLast? = some ⟨.tripLatched, s.log.clock, 0⟩ ∧
          ⟨.packTrip, s.log.clock, BitVec.ofNat 16 (min 255 i.whole)⟩ ∈ t.log.entries ∧
          (portReady s = true → t.port = afterQueue .trip [5, 2] (ownAddress s) s.port)))))

/-- R33, R36, R37: the hold timer's expiry begins the quiet phase, with the quiet timer of 1000 ms where the throttle
is quiet; the quiet timer's expiry closes the switch into the return state with RampCap and Trim 0. -/
def Obligations.RearmInTwoPhases : Prop :=
  ∀ (s : State), roleIs s .pack = true → s.ctl.station = .run → s.pack.state = .tripped →
    (s.pack.holdTimer.isSome = true → s.pack.quietTimer = none → exec .holdTimerExpiry s = .next { s with
      pack := { s.pack with
        holdTimer := none
        quietPhase := true
        quietTimer := (if s.latest.demand.band = .none ∨ s.latest.demand.band = .lost ∨ s.latest.demand.throttle = 0
          then some 1000 else none) } }) ∧
    (∀ r, s.pack.quietTimer.isSome = true → s.pack.returnState = some r → exec .quietTimerExpiry s = .next { s with
      pack := { s.pack with
        state := r, closed := true, rampCap := 0, trim := 0, holdTimer := none, quietTimer := none
        quietPhase := false } })

/-! ### Power shares -/

/-- R49, R52, R54, R55, R56: the share timer's expiry in RUN computes: the allowance used by its basis, the timer again,
and the grants that the allocation of R55 gives tier by tier from the wants counted by R54; no grant is above its own
want, and the grants together lie within the allowance. R109: the want A of an axle is |d| x MotorLimit / 1000, rounded up,
while its requested state is a DRIVE state, which the trip level does not decide, and 0 otherwise. -/
def Obligations.ShareComputation : Prop :=
  ∀ (s : State), s.ctl.station = .run → s.share.timer.isSome = true → (roleOf s.ctl.role).isSome = true → ∃ t,
    exec .shareTimerExpiry s = .next t ∧ t.share.timer = some 20 ∧ t.share.cause = some .timer ∧
      t.share.count = min (s.share.count + 1) 65535 ∧
      (s.share.tripHold = true → t.share.value = 0 ∧ t.share.basis = .trip) ∧
      (s.share.tripHold = false → s.latest.allowance.band = .fresh →
        t.share.value = s.latest.allowance.allowance.toNat ∧ t.share.basis = .record) ∧
      (s.share.tripHold = false → s.latest.allowance.band ≠ .fresh →
        t.share.value = blindAllowance s ∧ t.share.basis = .blind) ∧
      t.share.wants.k = s.lamp.wantK ∧ t.share.wants.c = s.lamp.wantC ∧
      (roleIs s .winch = true → (t.share.wants.a, t.share.wants.b) = winchWants s) ∧
      (isAxle s = true →
        let digLocked := (roleIs s .front = true ∧ s.bridge.activeDig = 1) ∨ (roleIs s .rear = true ∧ s.bridge.activeDig = 2)
        let opposes := (0 < s.bridge.d ∧ s.bridge.lastSign = some .minus) ∨ (s.bridge.d < 0 ∧ s.bridge.lastSign = some .plus)
        let requestsDrive := s.bridge.latched = false ∧ s.bridge.tripped = false ∧ s.ctl.failsafe = false ∧ ¬ digLocked ∧
          s.bridge.dwellTimer = none ∧ s.bridge.d ≠ 0 ∧ ¬ (opposes ∧ 0 < reverseDwell s)
        (requestsDrive → t.share.wants.a = (s.bridge.d.natAbs * motorLimit s + 999) / 1000) ∧
        (¬ requestsDrive → t.share.wants.a = 0) ∧ t.share.wants.b = 0) ∧
      (let counted := fun r : Role =>
        if roleIs s r then t.share.wants
        else if (s.peers.at r).heard && shownState (s.peers.at r).stateByte == 2 then
          Tiers.mk (s.peers.at r).wantK.toNat (s.peers.at r).wantA.toNat (s.peers.at r).wantB.toNat
            (s.peers.at r).wantC.toNat
        else {}
      let sum := fun tier : Tiers → Nat =>
        tier (counted .front) + tier (counted .rear) + tier (counted .winch) + tier (counted .pack) + tier (counted .lamp)
      let grant := fun (tier : Tiers → Nat) (remainder : Nat) =>
        if sum tier ≤ remainder then tier t.share.wants else tier t.share.wants * remainder / sum tier
      let afterK := t.share.value - sum Tiers.k
      let afterA := afterK - sum Tiers.a
      let afterB := afterA - sum Tiers.b
      t.share.grants = ⟨grant Tiers.k t.share.value, grant Tiers.a afterK, grant Tiers.b afterA, grant Tiers.c afterB⟩) ∧
      t.share.grants.k ≤ t.share.wants.k ∧ t.share.grants.a ≤ t.share.wants.a ∧
      t.share.grants.b ≤ t.share.wants.b ∧ t.share.grants.c ≤ t.share.wants.c ∧
      t.share.grants.k + t.share.grants.a + t.share.grants.b + t.share.grants.c ≤ t.share.value ∧
      t.latest.allowance = s.latest.allowance ∧ t.latest.demand = s.latest.demand ∧
      t = { s with
          latest := t.latest, port := t.port, share := t.share, lamp := t.lamp, winch := t.winch, bridge := t.bridge }

/-! ### Receiver capture and the driver demand -/

/-- R65 to R68, R71: in Separate mode an active edge opens a measurement; the inactive edge that closes it makes a
width of 750 to 2250 us the channel's, and counts any other, and one whose long flag is set, as rejected with the
channel unchanged. The timer is the edge's stamp, and the long flag of every open measurement to whose count it came
round on the way is set (log 31). -/
def Obligations.CaptureEdgeMeasures : Prop :=
  ∀ (s : State) (c : Fin 6) (rising : Bool) (stamp : Half), s.ctl.station ≠ .halt → s.ctl.radio = true →
    captureMode s = 0 → ∃ t, exec (.captureEdge c rising stamp) s = .next t ∧
      t = { s with cap := t.cap, dem := t.dem, pins := t.pins } ∧ t.cap.timer = stamp ∧
      (let long := fun m : Measure => m.long = true ∨
        (0 < (m.start - s.cap.timer).toNat ∧ (m.start - s.cap.timer).toNat ≤ (stamp - s.cap.timer).toNat)
      (∀ (k : Fin 6) (m : Measure), k ≠ c → s.cap.opened.getD k none = some m → ∃ flag,
        t.cap.opened.getD k none = some { m with long := flag } ∧ (flag = true ↔ long m)) ∧
      (rising = decide (pulsePolarity s = 0) → t.cap.opened.getD c none = some ⟨stamp, false⟩ ∧
        t.cap.channels = s.cap.channels ∧ t.dem = s.dem) ∧
      (∀ m, rising ≠ decide (pulsePolarity s = 0) → s.cap.opened.getD c none = some m →
        t.cap.opened.getD c none = none ∧
        (¬ long m → 750 ≤ (stamp - m.start).toNat → (stamp - m.start).toNat ≤ 2250 →
          (channelAt t c).width = (stamp - m.start).toNat ∧ (channelAt t c).age = 0 ∧
            (channelAt t c).band = .fresh ∧ t.cap.rejected = s.cap.rejected ∧
            -1000 ≤ (channelAt t c).value ∧ (channelAt t c).value ≤ 1000) ∧
        (long m ∨ (stamp - m.start).toNat < 750 ∨ 2250 < (stamp - m.start).toNat →
          t.cap.channels = s.cap.channels ∧ t.cap.rejected = min (s.cap.rejected + 1) 255 ∧ t.dem = s.dem))) ∧
      (rising ≠ decide (pulsePolarity s = 0) → s.cap.opened.getD c none = none →
        t.cap.channels = s.cap.channels ∧ t.cap.rejected = s.cap.rejected ∧ t.dem = s.dem)

/-- R65, R66, R69, R70: in Train mode an interval of 3000 us or more, one with the long flag among them, begins a
frame; a shorter one in a frame is the next slot, and slots 0 to 5 are taken while none was out of range. An inactive
edge, by PulsePolarity, moves the timer alone. That the timer is the edge's stamp, and that the long flag of the open
measurement is set where the timer came round to its count on the way, is the model's choice: log 31, DESIGN CHOICE,
unsafe. -/
def Obligations.TrainEdgeSlots : Prop :=
  ∀ (s : State) (stamp : Half) (m : Measure), s.ctl.station ≠ .halt → s.ctl.radio = true → captureMode s = 1 →
    s.cap.train.prev = some m →
      let long := m.long = true ∨
        (0 < (m.start - s.cap.timer).toNat ∧ (m.start - s.cap.timer).toNat ≤ (stamp - s.cap.timer).toNat)
      (∃ t, exec (.trainEdge ⟨decide (pulsePolarity s = 0), stamp⟩) s = .next t ∧
      t = { s with cap := t.cap, dem := t.dem, pins := t.pins } ∧ t.cap.timer = stamp ∧
      t.cap.train.prev = some ⟨stamp, false⟩ ∧
      (let n := (stamp - m.start).toNat
      let k := s.cap.train.slot
      (long ∨ 3000 ≤ n → t.cap.train = ⟨some ⟨stamp, false⟩, true, 0, false⟩ ∧ t.cap.channels = s.cap.channels) ∧
      (¬ long → n < 3000 → s.cap.train.inFrame = false →
        t.cap.train = { s.cap.train with prev := some ⟨stamp, false⟩ } ∧ t.cap.channels = s.cap.channels) ∧
      (¬ long → n < 3000 → s.cap.train.inFrame = true → t.cap.train.slot = k + 1 ∧
        (k ≤ 5 → s.cap.train.incomplete = false → 750 ≤ n → n ≤ 2250 →
          (channelAt t k).width = n ∧ (channelAt t k).age = 0 ∧ t.cap.rejected = s.cap.rejected) ∧
        (k ≤ 5 → s.cap.train.incomplete = false → (n < 750 ∨ 2250 < n) →
          t.cap.train.incomplete = true ∧ t.cap.rejected = min (s.cap.rejected + 1) 255 ∧
            t.cap.channels = s.cap.channels) ∧
        ((s.cap.train.incomplete = true ∨ 6 ≤ k) → t.cap.channels = s.cap.channels ∧
          t.cap.rejected = s.cap.rejected) ∧
        (8 ≤ k → t.cap.train.inFrame = false)))) ∧
      (∃ t flag, exec (.trainEdge ⟨!decide (pulsePolarity s = 0), stamp⟩) s = .next t ∧
        t = { s with cap := t.cap, pins := t.pins } ∧ t.cap.timer = stamp ∧ t.cap.channels = s.cap.channels ∧
        t.cap.rejected = s.cap.rejected ∧ t.cap.train = { s.cap.train with prev := some { m with long := flag } } ∧
        (flag = true ↔ long))

/-- R65, R67, R71, R75, R76: a long flag is set on the open measurement of its pin and on nothing else; a channel
passes from FRESH to STALE and from STALE to LOST with width, value and zone kept; a link that becomes LOST in RUN
disarms the throttle; the arming timer's expiry in RUN arms it and does nothing else. -/
def Obligations.LongFlagsBandsArming : Prop :=
  ∀ (s : State) (c : Fin 6), s.ctl.station ≠ .halt → s.ctl.radio = true →
    (∀ r, s.cap.channels.length = 6 → s.cap.channels.getD c {} = r → (r.band = .fresh ∨ r.band = .stale) → ∃ t,
      exec (.channelBandChange c) s = .next t ∧ t = { s with cap := t.cap, dem := t.dem } ∧
      (channelAt t c).width = r.width ∧ (channelAt t c).value = r.value ∧ (channelAt t c).zone = r.zone ∧
      (channelAt t c).band = (if r.band = .fresh then .stale else .lost) ∧
      (c.val ≤ 1 → r.band = .stale → t.dem.link = .lost ∧ t.dem.armingTimer = none ∧
        (s.ctl.station = .run → s.dem.link ≠ .lost → t.dem.armed = false)) ∧
      (2 ≤ c.val → t.dem = s.dem)) ∧
    (s.ctl.station = .run → s.dem.armingTimer.isSome = true → exec .armingTimerExpiry s = .next { s with
      dem := { s.dem with armed := true, armingTimer := none } }) ∧
    (∀ m, captureMode s = 0 → s.cap.opened.getD c none = some m → ∃ t, exec (.longFlag c) s = .next t ∧
      t = { s with cap := { s.cap with opened := t.cap.opened } } ∧
      t.cap.opened.getD c none = some { m with long := true } ∧
      ∀ k : Fin 6, k ≠ c → t.cap.opened.getD k none = s.cap.opened.getD k none) ∧
    (∀ m, captureMode s = 1 → s.cap.train.prev = some m → exec (.longFlag 0) s = .next { s with
      cap := { s.cap with train := { s.cap.train with prev := some { m with long := true } } } })

/-- R16, R19, R77 to R79: at a publication moment the quality history advances; a RADIO station with no lower address
current queues a DEMAND, takes it as its own record with age 0, and carries throttle 0 unless it is armed and channel
0 is FRESH; a silenced station queues nothing. -/
def Obligations.DemandPublished : Prop :=
  ∀ (s : State) (p : Publisher), s.ctl.station = .run → s.ctl.radio = true → s.dem.demandTimer.isSome = true →
    publisherAddress p = ownAddress s → portReady s = true → ∃ t, exec .demandTimerExpiry s = .next t ∧
      t = { s with
          dem := t.dem, port := t.port, latest := t.latest, ctl := t.ctl, steer := t.steer, bridge := t.bridge,
          pack := t.pack, lamp := t.lamp, log := t.log } ∧
      t.dem.demandTimer = some 20 ∧ t.dem.history = s.dem.history.drop 1 ++ [allFresh s] ∧
      (silenced s = true → t = { s with dem := t.dem } ∧ t.dem.published = false) ∧
      (silenced s = false → t.dem.published = true ∧ t.latest.ageOf p = some 0 ∧
        t.latest.source = (if takesSource p s.latest.source then some p else s.latest.source) ∧
        ∃ d, t.port = afterQueue .demand d (ownAddress s) s.port ∧ d.length = 8 ∧
          ((s.dem.armed = false ∨ (channelAt s 0).band ≠ .fresh) → byteAt d 0 = 0 ∧ byteAt d 1 = 0) ∧
          (byteAt d 7).getLsbD 5 = s.dem.armed ∧ (byteAt d 7).extractLsb' 6 2 = s.dem.link.code ∧
          (takesSource p s.latest.source = true → t.latest.demand.held = true ∧ t.latest.demand.age = 0 ∧
            t.latest.demand.source = some p))

/-! ### Steering -/

/-- R86, R87, R88: the split timer's expiry on REAR in RUN begins the split condition where the banks still differ, with
BANK-SPLIT, its incident and mode SPLIT unless FAILSAFE holds; where they agree only the timer stops. R172: a FRONT bank
of 3 differs too and begins the condition; whether it sets the flag and records the incident is free, since R86 and R172
say opposite things of it (log 38, DESIGN CHOICE). -/
def Obligations.SplitExpiry : Prop :=
  ∀ (s : State), roleIs s .rear = true → s.ctl.station = .run → s.steer.splitTimer.isSome = true → ∃ t,
    exec .splitTimerExpiry s = .next t ∧
      (splitDiffers s = false → t = { s with steer := { s.steer with splitTimer := none } }) ∧
      (splitDiffers s = true → t = { s with steer := t.steer, ctl := t.ctl, log := t.log } ∧
        (2 < (s.peers.front.cues.extractLsb' 0 2).toNat → (t.ctl = s.ctl ∧ t.log = s.log) ∨
          (t.ctl = { s.ctl with faults := { s.ctl.faults with bankSplit := true } } ∧
            t.log.entries.getLast? = some ⟨.bankSplit, s.log.clock, 0⟩)) ∧
        ((s.peers.front.cues.extractLsb' 0 2).toNat ≤ 2 →
          t.ctl = { s.ctl with faults := { s.ctl.faults with bankSplit := true } } ∧
          t.log.entries.getLast? = some ⟨.bankSplit, s.log.clock, 0⟩) ∧ t.steer.split = true ∧
        t.steer.splitTimer = none ∧ t.steer.target = 0 ∧ t.steer.shadow = servoCentre s ∧
        t.steer.mode = (if s.ctl.failsafe then .centre else .split))

/-- R89 to R92: a frame start emits a pulse whose width is the servo shadow where that is within SlewStep or SlewStep is
0, and otherwise the last width moved toward it by the whole SlewStep; the pulse's end drives SRV low. The servo shadow
of an axle target lies within ServoMin to ServoMax, and is ServoCentre plus the truncated product, less it with
ServoReverse, where that lies within them. -/
def Obligations.ServoFrame : Prop :=
  ∀ (s : State) (left : Int), isAxle s = true → s.ctl.station = .run → s.steer.frameTimer = some left → 0 ≤ slewStep s →
    (∃ t, exec .servoFrameTimerExpiry s = .next t ∧ t = { s with steer := { s.steer with
        output := t.steer.output, srv := true, frameTimer := t.steer.frameTimer, pulseTimer := t.steer.pulseTimer } } ∧
      (slewStep s = 0 → t.steer.output = s.steer.shadow) ∧
      ((s.steer.shadow - s.steer.output).natAbs ≤ (slewStep s).toNat → t.steer.output = s.steer.shadow) ∧
      (0 < slewStep s → s.steer.output + slewStep s < s.steer.shadow → t.steer.output = s.steer.output + slewStep s) ∧
      (0 < slewStep s → s.steer.shadow + slewStep s < s.steer.output → t.steer.output = s.steer.output - slewStep s) ∧
      (0 ≤ left → t.steer.pulseTimer = some t.steer.output ∧ t.steer.frameTimer = some (framePeriod s))) ∧
    exec .servoPulseEnd s = .next { s with steer := { s.steer with srv := false, pulseTimer := none } } ∧
    (∀ t : Int, servoMin s ≤ servoMax s → servoMin s ≤ servoWidth s t ∧ servoWidth s t ≤ servoMax s ∧
      (let offset := Int.tdiv (t * servoThrow s) 1000
      (servoReverse s = 0 → servoMin s ≤ servoCentre s + offset → servoCentre s + offset ≤ servoMax s →
        servoWidth s t = servoCentre s + offset) ∧
      (servoReverse s = 1 → servoMin s ≤ servoCentre s - offset → servoCentre s - offset ≤ servoMax s →
        servoWidth s t = servoCentre s - offset)))

/-! ### Traction -/

/-- R96, R97, R104, R105: a period start takes the lesser of MotorLimit and the grant of the station's tier as the trip
level, and drives only where that grant is above 0. A sensed current above the trip level while the driving high gate
is on turns that gate off for the rest of the period, leaves the low gate of the other leg on, and counts the period;
a period already cut, one without an on-time, and a current that is not above change nothing. On WINCH the grant of the
states counted in no tier is 0: log 12. That the on-time is judged by the period's pattern is log 14, and that the
selection made at the period start reaches the gates at that same period start is log 39 (DESIGN CHOICE). -/
def Obligations.TripLevelLimits : Prop :=
  ∀ (s : State), s.ctl.station = .run → bridgeInUse s = true →
    (s.bridge.periodTimer = true → ∃ t, exec .periodStart s = .next t ∧ t = { s with bridge := t.bridge, lamp := t.lamp } ∧
      t.bridge.tripLevel = min (motorLimit s) (tierGrant s) ∧ t.bridge.cut = false ∧
      t.bridge.applied = t.bridge.shadow ∧ t.bridge.applied.state = t.bridge.driveState ∧
      (tierGrant s = 0 → t.bridge.driveState ≠ .driveFwd ∧ t.bridge.driveState ≠ .driveRev)) ∧
    (∀ i : Current,
      let above := s.bridge.tripLevel < i.whole ∨ (i.whole = s.bridge.tripLevel ∧ i.above = true)
      let onTime := (s.bridge.applied.state = .driveFwd ∨ s.bridge.applied.state = .driveRev) ∧ s.bridge.applied.duty ≠ 0
      (onTime → above → s.bridge.cut = false → ∃ t, exec (.cycleLimit i) s = .next t ∧
        t = { s with bridge := { s.bridge with cut := true, limited := min (s.bridge.limited + 1) 65535 } } ∧
        gatesOf t.bridge = ⟨0, (gatesOf s.bridge).braLow, 0, (gatesOf s.bridge).brbLow⟩ ∧
        ((gatesOf t.bridge).braLow = 1000 ∨ (gatesOf t.bridge).brbLow = 1000)) ∧
      ((¬ onTime ∨ ¬ above ∨ s.bridge.cut = true) → exec (.cycleLimit i) s = .next s))

/-- R102, R103, R105, R120, R123, R127: a duty step in RUN takes the bridge current figure. On an axle station the
output duty of a DRIVE state, 0 at its entry, becomes its target where that is within RampStep and otherwise moves
toward it by the whole RampStep; the target is d, in DRIVE-FWD the lesser of d and the assist cap in force. In every
other drive state the output duty is 0. That the selection comes before the ramp, and that the driven timer restarts by the
output duty after the move, is log 40 (DESIGN CHOICE). On WINCH a duty step advances the haul ramp, and with it the tension index and
the stall timer, and d is the duty commanded. -/
def Obligations.DutyStepRamps : Prop :=
  ∀ (s : State) (samples : List Int), s.ctl.station = .run → bridgeInUse s = true → ∃ t,
    exec (.dutyStep samples) s = .next t ∧ t = { s with bridge := t.bridge, lamp := t.lamp, winch := t.winch } ∧
      t.bridge.current = min 255 ((samples.map Int.natAbs).sum / samples.length) ∧
      (isAxle s = true → t.winch = s.winch ∧ t.bridge.d = s.bridge.d ∧
        (¬ t.bridge.driveState = .driveFwd → ¬ t.bridge.driveState = .driveRev → t.bridge.outDuty = 0) ∧
        ((t.bridge.driveState = .driveFwd ∨ t.bridge.driveState = .driveRev) → 0 ≤ rampStep s →
          let start := if t.bridge.driveState = s.bridge.driveState then s.bridge.outDuty else 0
          let target := if t.bridge.driveState = .driveFwd then
              (match s.bridge.assist with
                | some cap => min s.bridge.d cap
                | none => s.bridge.d)
            else s.bridge.d
          ((target - start).natAbs ≤ (rampStep s).toNat → t.bridge.outDuty = target) ∧
          (start + rampStep s < target → t.bridge.outDuty = start + rampStep s) ∧
          (target + rampStep s < start → t.bridge.outDuty = start - rampStep s) ∧
          (t.bridge.outDuty ≠ 0 → t.bridge.drivenTimer = some 1000) ∧ t.bridge.applied = s.bridge.applied ∧
          t.bridge.shadow = ⟨t.bridge.driveState, t.bridge.outDuty.natAbs, 0⟩)) ∧
      (roleIs s .winch = true → t.bridge.d = (winchDrive t).2 ∧
        (s.winch.state = .haul → t.winch = { s.winch with
          ramp := s.winch.ramp.map fun m => min 200 (m + 1)
          tension := tensionIndex (stallLevel s) (freeRun s) t.bridge.current
          stallTimer := (if t.bridge.current < stallLevel s then none
            else some (s.winch.stallTimer.getD (stallTime s))) }) ∧
        (s.winch.state = .payout → t.winch = { s.winch with
          stallTimer := (if t.bridge.current < stallLevel s then none
            else some (s.winch.stallTimer.getD (stallTime s))) }) ∧
        (s.winch.state ≠ .haul → s.winch.state ≠ .payout → t.winch = s.winch))

/-- R106, R108, R126: a one-shot trip, the sensed current above MotorTrip while a gate is on, turns every gate off,
counts and records; within the window it latches and records that too, outside it the window starts; on WINCH the trip
hold-off is set and HAUL, PAYOUT and STARVED go to HOLD. With every gate off, or a current that is not above, nothing
changes. That a gate is on is judged by the period's pattern: log 14. -/
def Obligations.OneShotTripOpens : Prop :=
  ∀ (s : State) (i : Current), s.ctl.station = .run → bridgeInUse s = true →
    let above := motorTrip s < i.whole ∨ (i.whole = motorTrip s ∧ i.above = true)
    ((gatesOf s.bridge = {} ∨ ¬ above) → exec (.oneShotTrip i) s = .next s) ∧
    (gatesOf s.bridge ≠ {} → above → ∃ t, exec (.oneShotTrip i) s = .next t ∧
      t = { s with
          bridge := t.bridge, ctl := t.ctl, log := t.log, winch := t.winch, lamp := t.lamp, port := t.port,
          latest := t.latest } ∧
      t.bridge.applied = {} ∧ gatesOf t.bridge = {} ∧ t.bridge.outDuty = 0 ∧
      t.bridge.tripCount = min (s.bridge.tripCount + 1) 255 ∧
      t.bridge.sinceTrip = some 0 ∧ t.ctl.faults.bridgeTrip = true ∧
      (s.bridge.windowTimer = none → t.bridge.windowTimer = some 10000 ∧
        (s.bridge.latched = false → t.bridge.driveState = .tripped) ∧
        t.log.entries.getLast? = some ⟨.bridgeTrip, s.log.clock, 0⟩ ∧ t.ctl.faults.bridgeLatched = s.ctl.faults.bridgeLatched) ∧
      (s.bridge.windowTimer.isSome = true → t.bridge.windowTimer = none ∧ t.bridge.latched = true ∧
        t.bridge.driveState = .latched ∧ t.ctl.faults.bridgeLatched = true ∧
        t.log.entries.getLast? = some ⟨.bridgeLatched, s.log.clock, 0⟩ ∧
        ⟨.bridgeTrip, s.log.clock, 0⟩ ∈ t.log.entries) ∧
      (roleIs s .winch = true → t.winch.holdOff = true ∧
        (s.winch.state.working = true → s.winch.state ≠ .stalled → t.winch.state = .hold)))

/-- R101, R107, R108, R110: the dwell's expiry makes the pending sign the last driven sign, or the sign of the DRIVE
state it then enters; it starts no new dwell where a running dwell's pending sign is the sign of every non-zero d, a
rule that every step keeps. The re-arm's expiry ends TRIPPED; the window's and the driven timer's expiry stop those
timers, and BRAKING is clear after the latter. -/
def Obligations.BridgeTimersExpire : Prop :=
  (∀ s t : State, dwellSafe s = true → step s = .next t → dwellSafe t = true) ∧
  ∀ (s : State), s.ctl.station = .run →
    (isAxle s = true → s.bridge.dwellTimer.isSome = true → s.bridge.driveState = .dwell →
      s.bridge.pendingSign.isSome = true → (s.bridge.d = 0 ∨ signOf s.bridge.d = s.bridge.pendingSign) →
      ∃ t, exec .dwellTimerExpiry s = .next t ∧ t = { s with bridge := t.bridge, lamp := t.lamp } ∧
      t.bridge.pendingSign = none ∧ t.bridge.dwellTimer = none ∧
      (t.bridge.driveState = .driveFwd → t.bridge.lastSign = some .plus) ∧
      (t.bridge.driveState = .driveRev → t.bridge.lastSign = some .minus) ∧
      (t.bridge.driveState = .brake → t.bridge.lastSign = s.bridge.pendingSign)) ∧
    (bridgeInUse s = true → s.bridge.tripped = true → s.bridge.latched = false → s.bridge.rearmTimer.isSome = true →
      ∃ t, exec .rearmTimerExpiry s = .next t ∧ t = { s with bridge := t.bridge, lamp := t.lamp, winch := t.winch } ∧
        t.bridge.tripped = false ∧ t.bridge.rearmTimer = none ∧
        t.bridge.driveState ≠ .tripped) ∧
    exec .windowTimerExpiry s = .next { s with bridge := { s.bridge with windowTimer := none } } ∧
    (∃ t, exec .drivenTimerExpiry s = .next t ∧ t = { s with bridge := { s.bridge with drivenTimer := none }, lamp := t.lamp } ∧
      brakingFlag t = false)

/-- R98, R100, R101: after a DEMAND is accepted in RUN on an axle station the commanded duty is the scaled throttle,
and 0 under FAILSAFE or DEMAND-HOLD; a trip, FAILSAFE or dig lock fixes the drive state. Otherwise a d of 0 gives
BRAKE at DragBrake, or OFF; a d against the last driven sign gives DWELL with its timer and pending sign (ReverseDwell
above 0); any other d drives in its direction, with output duty 0 and the last driven sign at the entry, unless the
trip level is 0. A dwell that runs goes on, from the full ReverseDwell where d turned against its pending sign. That the
dig selection is staged first, d follows, and ONE selection is made on both, on which the clauses about the drive state
rest, is the model's choice: log 8, DESIGN CHOICE, unsafe. -/
def Obligations.DriveSelection : Prop :=
  ∀ (s : State) (accepted : Bool), isAxle s = true → s.ctl.station = .run →
    let t := bridgeReact accepted s
    ((s.ctl.failsafe = true ∨ s.ctl.demandHold = true) → t.bridge.d = 0) ∧
    (s.ctl.failsafe = false → s.ctl.demandHold = false →
      t.bridge.d = Int.tdiv (s.latest.demand.throttle * driveScale s) 1000) ∧
    (s.bridge.latched = true → t.bridge.driveState = .latched) ∧
    (s.bridge.latched = false → s.bridge.tripped = true → t.bridge.driveState = .tripped) ∧
    (s.bridge.latched = false → s.bridge.tripped = false →
      (s.ctl.failsafe = true → t.bridge.driveState = .brake ∧ t.bridge.brakeLevel = 100 ∧ t.bridge.dwellTimer = none) ∧
      (t.bridge.driveState = .driveFwd → 0 < t.bridge.d ∧ 0 < s.bridge.tripLevel ∧ digLock t = false) ∧
      (t.bridge.driveState = .driveRev → t.bridge.d < 0 ∧ 0 < s.bridge.tripLevel ∧ digLock t = false) ∧
      (t.bridge.driveState = .off → dragBrake s = 0) ∧
      (t.bridge.driveState = .dwell → t.bridge.dwellTimer.isSome = true ∧ t.bridge.brakeLevel = 100) ∧
      (digLock t = true → t.bridge.driveState = .brake ∧ t.bridge.brakeLevel = 100 ∧ t.bridge.dwellTimer = none) ∧
      (s.ctl.failsafe = false → digLock t = false →
        let drags := (dragBrake s = 0 → t.bridge.driveState = .off) ∧
          (0 < dragBrake s → t.bridge.driveState = .brake ∧ t.bridge.brakeLevel = dragBrake s)
        (∀ n, s.bridge.dwellTimer = some n → t.bridge.driveState = .dwell ∧
          (t.bridge.d = 0 ∨ signOf t.bridge.d = s.bridge.pendingSign →
            t.bridge.dwellTimer = some n ∧ t.bridge.pendingSign = s.bridge.pendingSign) ∧
          (t.bridge.d ≠ 0 → signOf t.bridge.d ≠ s.bridge.pendingSign →
            t.bridge.dwellTimer = some (reverseDwell s) ∧ t.bridge.pendingSign = signOf t.bridge.d)) ∧
        (s.bridge.dwellTimer = none →
          (t.bridge.d = 0 → drags) ∧
          (∀ sign, signOf t.bridge.d = some sign →
            (s.bridge.lastSign = some (opposite sign) → 0 < reverseDwell s →
              t.bridge.driveState = .dwell ∧ t.bridge.brakeLevel = 100 ∧
                t.bridge.dwellTimer = some (reverseDwell s) ∧ t.bridge.pendingSign = some sign) ∧
            (s.bridge.lastSign ≠ some (opposite sign) ∨ reverseDwell s = 0 →
              (s.bridge.tripLevel = 0 → drags) ∧
              (0 < s.bridge.tripLevel →
                t.bridge.driveState = (if sign = .plus then .driveFwd else .driveRev) ∧
                (t.bridge.driveState ≠ s.bridge.driveState →
                  t.bridge.lastSign = some sign ∧ t.bridge.outDuty = 0))))))) ∧
    t = { s with bridge := t.bridge, lamp := t.lamp }

/-! ### The winch -/

/-- R128: the wants of the winch by its state, 0 after every reset and outside RUN; the share unit of a WINCH station
reads them at each share computation. -/
def Obligations.WinchWantsTable : Prop :=
  ∀ (s : State),
    (s.ctl.station ≠ .run → winchWants s = (0, 0)) ∧
    (s.ctl.station = .run →
      ((s.winch.state = .haul ∨ (s.winch.state = .starved ∧ s.winch.starvedFrom = some .haul)) →
        winchWants s = (haulWant s, 0)) ∧
      ((s.winch.state = .payout ∨ (s.winch.state = .starved ∧ s.winch.starvedFrom = some .payout)) →
        winchWants s = (0, payoutWant s)) ∧
      ((s.winch.state = .locked ∨ s.winch.state = .hold ∨ s.winch.state = .stalled ∨ s.winch.state = .endIn ∨
        s.winch.state = .endOut) → winchWants s = (0, 0))) ∧
    (∀ (kind : ResetKind) (pins : Pins), winchWants (resetStation kind pins s) = (0, 0)) ∧
    (∀ cause : ShareCause, roleIs s .winch = true →
      (shareCompute cause s).share.wants.a = (winchWants s).1 ∧ (shareCompute cause s).share.wants.b = (winchWants s).2)

/-- R96, R114, R116, R120, R121, R125: a Hall edge on WINCH moves P by one, outward unless the bridge drives inward, holds
it at its two bounds, and ends PAYOUT at LineMax when homed; an activation of HOME sets P to 0 and HOMED and ends HAUL; a
release moves neither. At both ends the bridge stops driving and the brake is on the gates in the same event, also where
the winch was taken from HAUL or PAYOUT before and the gates still drive. Every step keeps that no inward drive stands with
HOME active, and no outward drive at the outward end. -/
def Obligations.LinePosition : Prop :=
  (∀ s t : State, lineEndSafe s = true → step s = .next t → lineEndSafe t = true) ∧
  ∀ (s : State) (stamp : Half), s.ctl.station ≠ .halt → roleIs s .winch = true →
    (∃ t, exec (.hallEdge stamp) s = .next t ∧
      t = { s with
          winch := t.winch, cap := t.cap, bridge := t.bridge, lamp := t.lamp, port := t.port, latest := t.latest } ∧
      t.winch.hallEdges = min (s.winch.hallEdges + 1) 65535 ∧
      (s.bridge.driveState = .driveFwd → -32768 < s.winch.position → s.winch.position ≤ 32767 →
        t.winch.position = s.winch.position - 1) ∧
      (s.bridge.driveState ≠ .driveFwd → -32768 ≤ s.winch.position → s.winch.position < 32767 →
        t.winch.position = s.winch.position + 1) ∧
      (s.bridge.driveState = .driveFwd → s.winch.position = -32768 → t.winch.position = -32768) ∧
      (s.bridge.driveState ≠ .driveFwd → s.winch.position = 32767 → t.winch.position = 32767) ∧
      (s.winch.state = .payout → s.winch.homed = true → lineMax s ≤ t.winch.position → t.winch.state = .endOut ∧
        t.bridge.driveState.drives = false ∧ t.bridge.applied = t.bridge.shadow ∧ t.bridge.cut = false) ∧
      (s.winch.homed = true → lineMax s ≤ t.winch.position → s.bridge.applied.state = .driveRev →
        t.bridge.applied = t.bridge.shadow ∧ t.bridge.cut = false) ∧
      (homeActive s = false → (s.winch.homed = false ∨ t.winch.position < lineMax s) →
        t.winch.state = s.winch.state ∧ t.bridge = s.bridge) ∧
      (s.winch.state ≠ .payout → t.winch.state = s.winch.state)) ∧
    (∃ t, exec .homeActivation s = .next t ∧
      t = { s with
          winch := t.winch, pins := t.pins, bridge := t.bridge, lamp := t.lamp, port := t.port, latest := t.latest } ∧
      t.winch.position = 0 ∧ t.winch.homed = true ∧
      t.winch.activations = min (s.winch.activations + 1) 255 ∧ homeActive t = true ∧
      (s.winch.state = .haul → t.winch.state = .endIn ∧ t.bridge.driveState.drives = false ∧
        t.bridge.applied = t.bridge.shadow ∧ t.bridge.cut = false) ∧
      (s.bridge.applied.state = .driveFwd → t.bridge.applied = t.bridge.shadow ∧ t.bridge.cut = false) ∧
      (s.winch.state = .payout → 0 < lineMax s → t.winch.state = .payout ∧ t.bridge.d = -(payoutDuty s : Int)) ∧
      (s.winch.state = .payout → lineMax s ≤ 0 → t.winch.state = .endOut ∧ t.bridge.driveState.drives = false ∧
        t.bridge.applied = t.bridge.shadow ∧ t.bridge.cut = false) ∧
      (s.winch.state ≠ .haul → s.winch.state ≠ .payout → t.winch.state = s.winch.state)) ∧
    (∃ t, exec .homeRelease s = .next t ∧ t = { s with pins := t.pins } ∧ homeActive t = false)

/-- R123, R124: the stall timer's expiry enters STALLED with WINCH-STALL, its count and an incident with P; the starve
timer's expiry enters STARVED from the state it ran in; in both the bridge stops driving. R117 to R122, R126: at an
evaluation of the command the winch goes from state to state by the effective command, HOME and the line's end, the
lock condition locks it as it begins, and the trip hold-off keeps it in HOLD. R124: at a grant hand-over STARVED
returns to its state at 5/4 of WinchMinimum, and the starve timer follows the grant. -/
def Obligations.StallAndStarve : Prop :=
  (∀ (s : State), roleIs s .winch = true → s.ctl.station = .run → (s.winch.state = .haul ∨ s.winch.state = .payout) →
    (s.winch.stallTimer.isSome = true → ∃ t, exec .stallTimerExpiry s = .next t ∧
      t = { s with
          winch := t.winch, ctl := t.ctl, log := t.log, bridge := t.bridge, lamp := t.lamp, port := t.port,
          latest := t.latest } ∧
      t.winch.state = .stalled ∧
      t.winch.stallCount = min (s.winch.stallCount + 1) 255 ∧
      t.ctl.faults = { s.ctl.faults with winchStall := true } ∧
      t.log.entries.getLast? = some ⟨.winchStall, s.log.clock, BitVec.ofInt 16 s.winch.position⟩ ∧
      t.winch.stallTimer = none ∧ t.bridge.driveState.drives = false ∧ t.latest.winch.winchState = 4) ∧
    (s.winch.starveTimer.isSome = true → ∃ t, exec .starveTimerExpiry s = .next t ∧
      t = { s with winch := t.winch, bridge := t.bridge, lamp := t.lamp, port := t.port, latest := t.latest } ∧
      t.winch.state = .starved ∧
      t.winch.starvedFrom = some s.winch.state ∧ t.winch.starveTimer = none ∧ t.bridge.driveState.drives = false ∧
      t.latest.winch.winchState = 5)) ∧
  ∀ (s : State), roleIs s .winch = true → s.ctl.station = .run →
    let inward := if homeActive s then WinchState.endIn else .haul
    let outward := if s.winch.homed = true ∧ lineMax s ≤ s.winch.position then WinchState.endOut else .payout
    (let t := winchReact true s
    let heeded := s.latest.demand.band = .fresh ∧ s.ctl.failsafe = false ∧ s.ctl.demandHold = false
    let lock := s.ctl.failsafe = true ∨
      (s.latest.allowance.band = .fresh ∧ 4 ≤ s.latest.allowance.packState.toNat)
    (t.winch.command = .inward ↔ heeded ∧ s.latest.demand.winchCommand = 1) ∧
    (t.winch.command = .outward ↔ heeded ∧ s.latest.demand.winchCommand = 2) ∧ (t.winch.lock = true ↔ lock) ∧
    (lock → s.winch.lock = false → t.winch.state = .locked) ∧
    (¬ lock → s.winch.state = .locked → t.winch.state = (if t.winch.command = .hold then .hold else .locked)) ∧
    (s.winch.state = .hold → s.winch.holdOff = true → s.bridge.tripped = true → ¬ lock → t.winch.state = .hold) ∧
    (¬ lock → s.winch.lock = false → s.winch.holdOff = false → s.bridge.latched = false →
      (s.winch.state = .hold → t.winch.state =
        (if t.winch.command = .inward then inward else if t.winch.command = .outward then outward else .hold)) ∧
      (s.winch.state = .haul → t.winch.state = (if t.winch.command = .inward then .haul else .hold)) ∧
      (s.winch.state = .payout → t.winch.state = (if t.winch.command = .outward then .payout else .hold)) ∧
      (s.winch.state = .stalled → t.winch.state = (if t.winch.command = .hold then .hold else .stalled)) ∧
      (s.winch.state = .starved → t.winch.state =
        (if (t.winch.command = .inward ∧ s.winch.starvedFrom = some .haul) ∨
          (t.winch.command = .outward ∧ s.winch.starvedFrom = some .payout) then .starved else .hold)) ∧
      (s.winch.state = .endIn → t.winch.state =
        (if t.winch.command = .inward then .endIn else if t.winch.command = .outward then outward else .hold)) ∧
      (s.winch.state = .endOut → t.winch.state =
        (if t.winch.command = .outward then .endOut else if t.winch.command = .inward then inward else .hold))) ∧
    (t.winch.state ≠ s.winch.state → t.latest.winch.winchState = t.winch.state.code ∧
      (t.winch.state ≠ .haul → t.winch.state ≠ .payout → t.bridge.driveState.drives = false) ∧
      (t.winch.state = .haul → t.winch.ramp = some 0))) ∧
    (let t := winchHandOver s
    let grant := if s.winch.state = .haul ∨ (s.winch.state = .starved ∧ s.winch.starvedFrom = some .haul)
      then s.share.grants.a else s.share.grants.b
    (s.winch.state = .starved → winchMinimum s * 5 / 4 ≤ grant →
      (s.winch.starvedFrom = some .haul → s.winch.command = .inward → t.winch.state = inward) ∧
      (s.winch.starvedFrom = some .payout → s.winch.command = .outward → t.winch.state = outward)) ∧
    (s.winch.state = .starved → grant < winchMinimum s * 5 / 4 →
      (s.winch.starvedFrom = some .haul ∨ s.winch.starvedFrom = some .payout) → t = s) ∧
    ((s.winch.state = .haul ∨ s.winch.state = .payout) → t = { s with winch := { s.winch with
      starveTimer := (if grant < winchMinimum s then some (s.winch.starveTimer.getD 100) else none) } }))

/-- R16, R129: the WINCH timer's expiry in RUN queues a WINCH with the state, tension and position of that moment,
takes it as the station's own record, and starts the timer again for the winch state. -/
def Obligations.WinchPublished : Prop :=
  ∀ (s : State), roleIs s .winch = true → s.ctl.station = .run → s.winch.recordTimer.isSome = true → ∃ t,
    exec .winchTimerExpiry s = .next t ∧
      t = { s with winch := t.winch, port := t.port, latest := t.latest } ∧
      t.winch = { s.winch with
        recordTimer := some (if s.winch.state = .hold ∨ s.winch.state = .endIn ∨ s.winch.state = .endOut then 100 else 20) } ∧
      (∃ flags : Byte, t.latest = { s.latest with winch := ⟨true, some .winch, 0, .fresh, s.winch.state.code,
          natByte s.winch.tension, BitVec.ofInt 16 s.winch.position, flags, natByte s.winch.stallCount⟩ } ∧
        flags.getLsbD 7 = s.winch.homed ∧ flags.getLsbD 6 = (s.winch.state == .payout && !s.winch.homed)) ∧
      (portReady s = true → t.port = afterQueue .winch (winchData s) (ownAddress s) s.port)

/-! ### Lamps -/

/-- R137, R139, R140: the blink phase advances by one round 256, and a blinking output is dark in the off-phase; at a
fade step the level of every lamp becomes its effective target where that is within FadeStep, and otherwise moves
toward it by the whole FadeStep. -/
def Obligations.BlinkAndFade : Prop :=
  ∀ (s : State), s.ctl.station ≠ .halt →
    (s.lamp.phase < 256 → ∃ t, exec .blinkStep s = .next t ∧
      t = { s with lamp := t.lamp } ∧ t.lamp.phase = (if s.lamp.phase = 255 then 0 else s.lamp.phase + 1) ∧
      t.lamp.blinkTimer = some 3 ∧ t.lamp.cues = s.lamp.cues ∧ t.lamp.wantK = s.lamp.wantK ∧
      t.lamp.wantC = s.lamp.wantC ∧
      (s.lamp.phase = 127 → ∀ n, n < 8 → blinkFunction (functionOf s n) = true → (lampAt t n).effective = 0)) ∧
    (s.ctl.station = .run → s.lamp.fadeTimer.isSome = true → ∃ t, exec .fadeTimerExpiry s = .next t ∧
      t = { s with lamp := t.lamp } ∧ t.lamp.fadeTimer = some 4 ∧
      ∀ n, n < 8 → (lampAt t n).effective = (lampAt s n).effective ∧
        ((lampAt s n).level + fadeStep s < (lampAt s n).effective →
          (lampAt t n).level = (lampAt s n).level + fadeStep s) ∧
        ((lampAt s n).effective + fadeStep s < (lampAt s n).level →
          (lampAt t n).level = (lampAt s n).level - fadeStep s) ∧
        ((lampAt s n).level ≤ (lampAt s n).effective + fadeStep s →
          (lampAt s n).effective ≤ (lampAt s n).level + fadeStep s → (lampAt t n).level = (lampAt s n).effective))

/-- R142, R143: after a hand-over the lamps that stay unshed want no more than grant C, and the loads kept at the
effective targets lie within grants C and K. -/
def Obligations.LampLoadsWithinGrants : Prop :=
  ∀ (s : State) (g : Tiers), settingsSafe s = true →
    s.lamp.wantC = lampWantC s (fun n => (lampAt s n).base) → s.lamp.wantK = lampWantK s (fun n => (lampAt s n).base) →
      unshedWant (lampHandOver g s) ((List.range 8).filter fun n => (lampAt (lampHandOver g s) n).shed) ≤ g.c ∧
      loadToQa (loadSum s (fun n => !inTierK s n) fun n => (lampAt (lampHandOver g s) n).effective) ≤ g.c ∧
      loadToQa (loadSum s (inTierK s) fun n => (lampAt (lampHandOver g s) n).effective) ≤ g.k

/-! ### The Chassis Bus port -/

/-- R147, R152, R155, R156, R160: at bus idle, and in the join window with a count of 8 or more, a station with a
frame queued copies the frame of lowest identifier into the shift buffer and begins to send; otherwise it is idle, or
times the run as a Lead. A dominant run that passes 320 us outside SEND counts one Stuck error, not again where it was
counted already (log 23); a run shorter than 88 us outside a frame only sets the count to 0. The recessive count of a
join window is the state's and the 8 us steps since, at most 10. In a ms of WAIT-IDLE the count goes on, to 10 from any
value above 0, and bus idle is due where it is 10; a Stuck run holds it. How far it comes from 0 in that ms is free
(log 32, DESIGN CHOICE). -/
def Obligations.BusEvents : Prop :=
  ∀ (s : State) (steps : Nat), s.ctl.station ≠ .halt →
    (s.port.port ≠ .send → exec .lineStuck s = .next { s with port := { s.port with
      port := .waitIdle, recessive := 0, stuckCounted := true,
      rxErrors := (if s.port.stuckCounted then s.port.rxErrors else min (s.port.rxErrors + 1) 255),
      lastError := (if s.port.stuckCounted then s.port.lastError else some .stuck) } }) ∧
    (s.port.port ≠ .send → s.port.port ≠ .receive → exec .shortDominantRun s = .next { s with port := { s.port with
      port := .waitIdle, recessive := 0, stuckCounted := false } }) ∧
    (s.port.port = .waitIdle → s.port.slots.first = none →
      exec .busIdle s = .next { s with port := { s.port with port := .idle, recessive := 10, stuckCounted := false } }) ∧
    (let count := min 10 (s.port.recessive + steps)
    ((s.port.port = .waitIdle ∨ s.port.port = .idle) → (count < 8 ∨ s.port.slots.first = none) →
      exec (.joinWindow steps) s = .next { s with
        port := { s.port with port := .lead, recessive := 0, stuckCounted := false } }) ∧
    (∀ topic d c, s.port.slots.first = some (topic, d) →
      (c = .busIdle ∧ s.port.port = .waitIdle) ∨
        (c = .joinWindow steps ∧ 8 ≤ count ∧ (s.port.port = .waitIdle ∨ s.port.port = .idle)) → ∃ t,
      exec c s = .next t ∧ t = { s with port := t.port } ∧ t.port.port = .send ∧ t.port.recessive = 0 ∧
        t.port.slots = s.port.slots.put topic none ∧
        t.port.shift = some ⟨topic, d, wireBytes topic.first (BitVec.ofNat 4 (ownAddress s)) d, false⟩ ∧
        ∀ u, (s.port.slots.at u).isSome = true → topic.first.toNat ≤ u.first.toNat)) ∧
    (let u := (advance s).port
    u = { s.port with recessive := u.recessive } ∧
    (s.port.port ≠ .waitIdle ∨ s.port.stuckCounted = true → u = s.port) ∧
    (s.port.port = .waitIdle → s.port.stuckCounted = false →
      (0 < s.port.recessive → u.recessive = 10) ∧
      (s.port.recessive = 0 → 1 ≤ u.recessive ∧ u.recessive ≤ 10) ∧
      (isDue (advance s) .busIdle = true ↔ u.recessive = 10)))

/-- R9, R10, R148, R149, R154, R157, R158, R159, R161: how the station's own frame leaves the shift buffer: complete,
it is not sent again; unsent, its copy goes back to its slot unless a newer frame stands there or the topic was
withdrawn, and the count of its cause rises; the port keeps the span the sender measured, and a span that is a pace
error abandons the frame as a bit collision. The sixteenth unheard frame isolates a station in RUN, with its incident
and FAILSAFE, DEMAND-HOLD clear whatever the record (log 9); a heard frame ends it; a clash mark sends the station to
HALT. -/
def Obligations.FrameLeavesShiftBuffer : Prop :=
  ∀ (s : State) (b : Shift) (how : SendEnd), s.ctl.station ≠ .halt → s.port.port = .send → s.port.shift = some b →
    ∃ t, exec (.frameSendEnd how) s = .next t ∧ t.port.shift = none ∧
      t.port.paceSpan = (match how with
        | .complete span _ _ | .lostArbitration span | .bitCollision (some span) => span
        | .bitCollision none | .stuck => s.port.paceSpan) ∧
      (let good := fun span : Nat => 3400 ≤ span ∧ span ≤ 4600
      let abandoned := t = { s with port := t.port } ∧ t.port.unheard = s.port.unheard ∧
        t.port.slots = (if (s.port.slots.at b.topic).isSome || b.withdrawn then s.port.slots
          else s.port.slots.put b.topic (some b.data))
      let collides := abandoned ∧ t.port.port = .waitIdle ∧ t.port.recessive = 0 ∧
        t.port.collisions = min (s.port.collisions + 1) 255 ∧ t.port.lostArbitrations = s.port.lostArbitrations ∧
        t.port.rxErrors = s.port.rxErrors
      (∀ span, how = .bitCollision span → collides) ∧
      (∀ span, how = .lostArbitration span →
        (¬ good span → collides) ∧
        (good span → abandoned ∧ t.port.port = .receive ∧ t.port.collisions = s.port.collisions ∧
          t.port.lostArbitrations = min (s.port.lostArbitrations + 1) 255)) ∧
      (how = .stuck → abandoned ∧ t.port.port = .waitIdle ∧ t.port.rxErrors = min (s.port.rxErrors + 1) 255 ∧
        t.port.lastError = some .stuck ∧ t.port.collisions = s.port.collisions) ∧
      (∀ span heard mark, how = .complete span heard mark → ¬ good span → collides) ∧
      (∀ span heard, how = .complete span heard false → good span → t.port.port = .waitIdle ∧
        (∀ u, u ≠ .winch → t.port.slots.at u = s.port.slots.at u) ∧
        (roleIs s .winch = false ∨ t.ctl.isolated = s.ctl.isolated → t.port.slots = s.port.slots) ∧
        t.port.unheard = (if heard then 0 else min 16 (s.port.unheard + 1)) ∧
        (s.ctl.station = .run → s.port.isolation = s.ctl.isolated →
          (heard = false → s.port.unheard = 15 → s.ctl.isolated = false → t.ctl.isolated = true ∧
            t.ctl.failsafe = true ∧ t.ctl.demandHold = false ∧
            t.log.entries.getLast? = some ⟨.isolated, s.log.clock, 0⟩) ∧
          (heard = true → t.ctl.isolated = false ∧ t.port.isolation = false ∧ t.log = s.log))) ∧
      (∀ span heard, how = .complete span heard true → good span → t.ctl.station = .halt ∧ t.port.slots = {} ∧
        t.port.port = .waitIdle ∧ gatesOff t = true ∧ lampsDark t = true ∧ servoQuiet t = true ∧ t.pack.closed = false))

/-! ### Rules of the whole station, kept by every step -/

/-- Every rule below holds in the reset state. -/
def Obligations.ResetIsSafe : Prop := stationSafe State.reset = true

/-- R33, R34: the main switch is closed only in RUN, in NORMAL, LIMIT or RESERVE or in CUTOFF while its grace runs. -/
def Obligations.SwitchRuleKept : Prop :=
  ∀ s t : State, switchSafe s = true → step s = .next t → switchSafe t = true

/-- R3, R8: outside RUN the outputs are the safe output set and the three conditions are clear, and FAILSAFE and
DEMAND-HOLD are never both set. -/
def Obligations.SafeOutputsKept : Prop :=
  ∀ s t : State, outputsSafe s = true → conditionsSafe s = true → step s = .next t →
    outputsSafe t = true ∧ conditionsSafe t = true

/-- R88, R98, R100, R112, R118: under FAILSAFE in RUN no bridge drives, the commanded duty of an axle is 0, the
steering mode is CENTRE and the winch is LOCKED. -/
def Obligations.FailsafeRuleKept : Prop :=
  ∀ s t : State, failsafeSafe s = true → lockSafe s = true → step s = .next t →
    failsafeSafe t = true ∧ lockSafe t = true

/-- R163: the Incident List holds at most eight entries, in order of their times, none after the incident clock. -/
def Obligations.IncidentRuleKept : Prop :=
  ∀ s t : State, incidentsSafe s = true → step s = .next t → incidentsSafe t = true

/-- R169, R90, R92: the settings in force always pass the checks of START, and in RUN every servo shadow and width
lies within ServoMin to ServoMax. -/
def Obligations.ServoRuleKept : Prop :=
  ∀ s t : State, settingsSafe s = true → servoSafe s = true → step s = .next t →
    settingsSafe t = true ∧ servoSafe t = true

/-- R56: no grant exceeds its want, and the grants together stay within the allowance used. -/
def Obligations.ShareRuleKept : Prop :=
  ∀ s t : State, shareSafe s = true → step s = .next t → shareSafe t = true

/-- R9, R155, R160: the shift buffer is full exactly while the port sends, an idle port has nothing queued, and the
isolation flag is the unheard count at 16. -/
def Obligations.PortRuleKept : Prop :=
  ∀ s t : State, portSafe s = true → step s = .next t → portSafe t = true
end

