-- ==== Sys2Proof/Laws/State.lean ====
section
/-! SUPPORT. One lemma per field per block update, so that no later proof unfolds a record update. -/

namespace Sys2Proof.Machine

/-! ### `setCtl` -/

@[simp] theorem State.setCtl_pending (s : State) (x : Controller) : (s.setCtl x).pending = s.pending := rfl
@[simp] theorem State.setCtl_ticks (s : State) (x : Controller) : (s.setCtl x).ticks = s.ticks := rfl
@[simp] theorem State.setCtl_pins (s : State) (x : Controller) : (s.setCtl x).pins = s.pins := rfl
@[simp] theorem State.setCtl_nvm (s : State) (x : Controller) : (s.setCtl x).nvm = s.nvm := rfl
@[simp] theorem State.setCtl_ctl (s : State) (x : Controller) : (s.setCtl x).ctl = x := rfl
@[simp] theorem State.setCtl_peers (s : State) (x : Controller) : (s.setCtl x).peers = s.peers := rfl
@[simp] theorem State.setCtl_latest (s : State) (x : Controller) : (s.setCtl x).latest = s.latest := rfl
@[simp] theorem State.setCtl_port (s : State) (x : Controller) : (s.setCtl x).port = s.port := rfl
@[simp] theorem State.setCtl_cap (s : State) (x : Controller) : (s.setCtl x).cap = s.cap := rfl
@[simp] theorem State.setCtl_dem (s : State) (x : Controller) : (s.setCtl x).dem = s.dem := rfl
@[simp] theorem State.setCtl_steer (s : State) (x : Controller) : (s.setCtl x).steer = s.steer := rfl
@[simp] theorem State.setCtl_bridge (s : State) (x : Controller) : (s.setCtl x).bridge = s.bridge := rfl
@[simp] theorem State.setCtl_winch (s : State) (x : Controller) : (s.setCtl x).winch = s.winch := rfl
@[simp] theorem State.setCtl_pack (s : State) (x : Controller) : (s.setCtl x).pack = s.pack := rfl
@[simp] theorem State.setCtl_share (s : State) (x : Controller) : (s.setCtl x).share = s.share := rfl
@[simp] theorem State.setCtl_lamp (s : State) (x : Controller) : (s.setCtl x).lamp = s.lamp := rfl
@[simp] theorem State.setCtl_log (s : State) (x : Controller) : (s.setCtl x).log = s.log := rfl
@[simp] theorem State.setCtl_setCtl (s : State) (x y : Controller) : (s.setCtl x).setCtl y = s.setCtl y := rfl
@[simp] theorem State.setCtl_self (s : State) : s.setCtl s.ctl = s := rfl

/-! ### `setPeers` -/

@[simp] theorem State.setPeers_pending (s : State) (x : Peers) : (s.setPeers x).pending = s.pending := rfl
@[simp] theorem State.setPeers_ticks (s : State) (x : Peers) : (s.setPeers x).ticks = s.ticks := rfl
@[simp] theorem State.setPeers_pins (s : State) (x : Peers) : (s.setPeers x).pins = s.pins := rfl
@[simp] theorem State.setPeers_nvm (s : State) (x : Peers) : (s.setPeers x).nvm = s.nvm := rfl
@[simp] theorem State.setPeers_ctl (s : State) (x : Peers) : (s.setPeers x).ctl = s.ctl := rfl
@[simp] theorem State.setPeers_peers (s : State) (x : Peers) : (s.setPeers x).peers = x := rfl
@[simp] theorem State.setPeers_latest (s : State) (x : Peers) : (s.setPeers x).latest = s.latest := rfl
@[simp] theorem State.setPeers_port (s : State) (x : Peers) : (s.setPeers x).port = s.port := rfl
@[simp] theorem State.setPeers_cap (s : State) (x : Peers) : (s.setPeers x).cap = s.cap := rfl
@[simp] theorem State.setPeers_dem (s : State) (x : Peers) : (s.setPeers x).dem = s.dem := rfl
@[simp] theorem State.setPeers_steer (s : State) (x : Peers) : (s.setPeers x).steer = s.steer := rfl
@[simp] theorem State.setPeers_bridge (s : State) (x : Peers) : (s.setPeers x).bridge = s.bridge := rfl
@[simp] theorem State.setPeers_winch (s : State) (x : Peers) : (s.setPeers x).winch = s.winch := rfl
@[simp] theorem State.setPeers_pack (s : State) (x : Peers) : (s.setPeers x).pack = s.pack := rfl
@[simp] theorem State.setPeers_share (s : State) (x : Peers) : (s.setPeers x).share = s.share := rfl
@[simp] theorem State.setPeers_lamp (s : State) (x : Peers) : (s.setPeers x).lamp = s.lamp := rfl
@[simp] theorem State.setPeers_log (s : State) (x : Peers) : (s.setPeers x).log = s.log := rfl
@[simp] theorem State.setPeers_setPeers (s : State) (x y : Peers) : (s.setPeers x).setPeers y = s.setPeers y := rfl
@[simp] theorem State.setPeers_self (s : State) : s.setPeers s.peers = s := rfl

/-! ### `setLatest` -/

@[simp] theorem State.setLatest_pending (s : State) (x : Latest) : (s.setLatest x).pending = s.pending := rfl
@[simp] theorem State.setLatest_ticks (s : State) (x : Latest) : (s.setLatest x).ticks = s.ticks := rfl
@[simp] theorem State.setLatest_pins (s : State) (x : Latest) : (s.setLatest x).pins = s.pins := rfl
@[simp] theorem State.setLatest_nvm (s : State) (x : Latest) : (s.setLatest x).nvm = s.nvm := rfl
@[simp] theorem State.setLatest_ctl (s : State) (x : Latest) : (s.setLatest x).ctl = s.ctl := rfl
@[simp] theorem State.setLatest_peers (s : State) (x : Latest) : (s.setLatest x).peers = s.peers := rfl
@[simp] theorem State.setLatest_latest (s : State) (x : Latest) : (s.setLatest x).latest = x := rfl
@[simp] theorem State.setLatest_port (s : State) (x : Latest) : (s.setLatest x).port = s.port := rfl
@[simp] theorem State.setLatest_cap (s : State) (x : Latest) : (s.setLatest x).cap = s.cap := rfl
@[simp] theorem State.setLatest_dem (s : State) (x : Latest) : (s.setLatest x).dem = s.dem := rfl
@[simp] theorem State.setLatest_steer (s : State) (x : Latest) : (s.setLatest x).steer = s.steer := rfl
@[simp] theorem State.setLatest_bridge (s : State) (x : Latest) : (s.setLatest x).bridge = s.bridge := rfl
@[simp] theorem State.setLatest_winch (s : State) (x : Latest) : (s.setLatest x).winch = s.winch := rfl
@[simp] theorem State.setLatest_pack (s : State) (x : Latest) : (s.setLatest x).pack = s.pack := rfl
@[simp] theorem State.setLatest_share (s : State) (x : Latest) : (s.setLatest x).share = s.share := rfl
@[simp] theorem State.setLatest_lamp (s : State) (x : Latest) : (s.setLatest x).lamp = s.lamp := rfl
@[simp] theorem State.setLatest_log (s : State) (x : Latest) : (s.setLatest x).log = s.log := rfl
@[simp] theorem State.setLatest_setLatest (s : State) (x y : Latest) : (s.setLatest x).setLatest y = s.setLatest y := rfl
@[simp] theorem State.setLatest_self (s : State) : s.setLatest s.latest = s := rfl

/-! ### `setPort` -/

@[simp] theorem State.setPort_pending (s : State) (x : BusPort) : (s.setPort x).pending = s.pending := rfl
@[simp] theorem State.setPort_ticks (s : State) (x : BusPort) : (s.setPort x).ticks = s.ticks := rfl
@[simp] theorem State.setPort_pins (s : State) (x : BusPort) : (s.setPort x).pins = s.pins := rfl
@[simp] theorem State.setPort_nvm (s : State) (x : BusPort) : (s.setPort x).nvm = s.nvm := rfl
@[simp] theorem State.setPort_ctl (s : State) (x : BusPort) : (s.setPort x).ctl = s.ctl := rfl
@[simp] theorem State.setPort_peers (s : State) (x : BusPort) : (s.setPort x).peers = s.peers := rfl
@[simp] theorem State.setPort_latest (s : State) (x : BusPort) : (s.setPort x).latest = s.latest := rfl
@[simp] theorem State.setPort_port (s : State) (x : BusPort) : (s.setPort x).port = x := rfl
@[simp] theorem State.setPort_cap (s : State) (x : BusPort) : (s.setPort x).cap = s.cap := rfl
@[simp] theorem State.setPort_dem (s : State) (x : BusPort) : (s.setPort x).dem = s.dem := rfl
@[simp] theorem State.setPort_steer (s : State) (x : BusPort) : (s.setPort x).steer = s.steer := rfl
@[simp] theorem State.setPort_bridge (s : State) (x : BusPort) : (s.setPort x).bridge = s.bridge := rfl
@[simp] theorem State.setPort_winch (s : State) (x : BusPort) : (s.setPort x).winch = s.winch := rfl
@[simp] theorem State.setPort_pack (s : State) (x : BusPort) : (s.setPort x).pack = s.pack := rfl
@[simp] theorem State.setPort_share (s : State) (x : BusPort) : (s.setPort x).share = s.share := rfl
@[simp] theorem State.setPort_lamp (s : State) (x : BusPort) : (s.setPort x).lamp = s.lamp := rfl
@[simp] theorem State.setPort_log (s : State) (x : BusPort) : (s.setPort x).log = s.log := rfl
@[simp] theorem State.setPort_setPort (s : State) (x y : BusPort) : (s.setPort x).setPort y = s.setPort y := rfl
@[simp] theorem State.setPort_self (s : State) : s.setPort s.port = s := rfl

/-! ### `setCap` -/

@[simp] theorem State.setCap_pending (s : State) (x : Capture) : (s.setCap x).pending = s.pending := rfl
@[simp] theorem State.setCap_ticks (s : State) (x : Capture) : (s.setCap x).ticks = s.ticks := rfl
@[simp] theorem State.setCap_pins (s : State) (x : Capture) : (s.setCap x).pins = s.pins := rfl
@[simp] theorem State.setCap_nvm (s : State) (x : Capture) : (s.setCap x).nvm = s.nvm := rfl
@[simp] theorem State.setCap_ctl (s : State) (x : Capture) : (s.setCap x).ctl = s.ctl := rfl
@[simp] theorem State.setCap_peers (s : State) (x : Capture) : (s.setCap x).peers = s.peers := rfl
@[simp] theorem State.setCap_latest (s : State) (x : Capture) : (s.setCap x).latest = s.latest := rfl
@[simp] theorem State.setCap_port (s : State) (x : Capture) : (s.setCap x).port = s.port := rfl
@[simp] theorem State.setCap_cap (s : State) (x : Capture) : (s.setCap x).cap = x := rfl
@[simp] theorem State.setCap_dem (s : State) (x : Capture) : (s.setCap x).dem = s.dem := rfl
@[simp] theorem State.setCap_steer (s : State) (x : Capture) : (s.setCap x).steer = s.steer := rfl
@[simp] theorem State.setCap_bridge (s : State) (x : Capture) : (s.setCap x).bridge = s.bridge := rfl
@[simp] theorem State.setCap_winch (s : State) (x : Capture) : (s.setCap x).winch = s.winch := rfl
@[simp] theorem State.setCap_pack (s : State) (x : Capture) : (s.setCap x).pack = s.pack := rfl
@[simp] theorem State.setCap_share (s : State) (x : Capture) : (s.setCap x).share = s.share := rfl
@[simp] theorem State.setCap_lamp (s : State) (x : Capture) : (s.setCap x).lamp = s.lamp := rfl
@[simp] theorem State.setCap_log (s : State) (x : Capture) : (s.setCap x).log = s.log := rfl
@[simp] theorem State.setCap_setCap (s : State) (x y : Capture) : (s.setCap x).setCap y = s.setCap y := rfl
@[simp] theorem State.setCap_self (s : State) : s.setCap s.cap = s := rfl

/-! ### `setDem` -/

@[simp] theorem State.setDem_pending (s : State) (x : DemandBuilder) : (s.setDem x).pending = s.pending := rfl
@[simp] theorem State.setDem_ticks (s : State) (x : DemandBuilder) : (s.setDem x).ticks = s.ticks := rfl
@[simp] theorem State.setDem_pins (s : State) (x : DemandBuilder) : (s.setDem x).pins = s.pins := rfl
@[simp] theorem State.setDem_nvm (s : State) (x : DemandBuilder) : (s.setDem x).nvm = s.nvm := rfl
@[simp] theorem State.setDem_ctl (s : State) (x : DemandBuilder) : (s.setDem x).ctl = s.ctl := rfl
@[simp] theorem State.setDem_peers (s : State) (x : DemandBuilder) : (s.setDem x).peers = s.peers := rfl
@[simp] theorem State.setDem_latest (s : State) (x : DemandBuilder) : (s.setDem x).latest = s.latest := rfl
@[simp] theorem State.setDem_port (s : State) (x : DemandBuilder) : (s.setDem x).port = s.port := rfl
@[simp] theorem State.setDem_cap (s : State) (x : DemandBuilder) : (s.setDem x).cap = s.cap := rfl
@[simp] theorem State.setDem_dem (s : State) (x : DemandBuilder) : (s.setDem x).dem = x := rfl
@[simp] theorem State.setDem_steer (s : State) (x : DemandBuilder) : (s.setDem x).steer = s.steer := rfl
@[simp] theorem State.setDem_bridge (s : State) (x : DemandBuilder) : (s.setDem x).bridge = s.bridge := rfl
@[simp] theorem State.setDem_winch (s : State) (x : DemandBuilder) : (s.setDem x).winch = s.winch := rfl
@[simp] theorem State.setDem_pack (s : State) (x : DemandBuilder) : (s.setDem x).pack = s.pack := rfl
@[simp] theorem State.setDem_share (s : State) (x : DemandBuilder) : (s.setDem x).share = s.share := rfl
@[simp] theorem State.setDem_lamp (s : State) (x : DemandBuilder) : (s.setDem x).lamp = s.lamp := rfl
@[simp] theorem State.setDem_log (s : State) (x : DemandBuilder) : (s.setDem x).log = s.log := rfl
@[simp] theorem State.setDem_setDem (s : State) (x y : DemandBuilder) : (s.setDem x).setDem y = s.setDem y := rfl
@[simp] theorem State.setDem_self (s : State) : s.setDem s.dem = s := rfl

/-! ### `setSteer` -/

@[simp] theorem State.setSteer_pending (s : State) (x : Steering) : (s.setSteer x).pending = s.pending := rfl
@[simp] theorem State.setSteer_ticks (s : State) (x : Steering) : (s.setSteer x).ticks = s.ticks := rfl
@[simp] theorem State.setSteer_pins (s : State) (x : Steering) : (s.setSteer x).pins = s.pins := rfl
@[simp] theorem State.setSteer_nvm (s : State) (x : Steering) : (s.setSteer x).nvm = s.nvm := rfl
@[simp] theorem State.setSteer_ctl (s : State) (x : Steering) : (s.setSteer x).ctl = s.ctl := rfl
@[simp] theorem State.setSteer_peers (s : State) (x : Steering) : (s.setSteer x).peers = s.peers := rfl
@[simp] theorem State.setSteer_latest (s : State) (x : Steering) : (s.setSteer x).latest = s.latest := rfl
@[simp] theorem State.setSteer_port (s : State) (x : Steering) : (s.setSteer x).port = s.port := rfl
@[simp] theorem State.setSteer_cap (s : State) (x : Steering) : (s.setSteer x).cap = s.cap := rfl
@[simp] theorem State.setSteer_dem (s : State) (x : Steering) : (s.setSteer x).dem = s.dem := rfl
@[simp] theorem State.setSteer_steer (s : State) (x : Steering) : (s.setSteer x).steer = x := rfl
@[simp] theorem State.setSteer_bridge (s : State) (x : Steering) : (s.setSteer x).bridge = s.bridge := rfl
@[simp] theorem State.setSteer_winch (s : State) (x : Steering) : (s.setSteer x).winch = s.winch := rfl
@[simp] theorem State.setSteer_pack (s : State) (x : Steering) : (s.setSteer x).pack = s.pack := rfl
@[simp] theorem State.setSteer_share (s : State) (x : Steering) : (s.setSteer x).share = s.share := rfl
@[simp] theorem State.setSteer_lamp (s : State) (x : Steering) : (s.setSteer x).lamp = s.lamp := rfl
@[simp] theorem State.setSteer_log (s : State) (x : Steering) : (s.setSteer x).log = s.log := rfl
@[simp] theorem State.setSteer_setSteer (s : State) (x y : Steering) : (s.setSteer x).setSteer y = s.setSteer y := rfl
@[simp] theorem State.setSteer_self (s : State) : s.setSteer s.steer = s := rfl

/-! ### `setBridge` -/

@[simp] theorem State.setBridge_pending (s : State) (x : Bridge) : (s.setBridge x).pending = s.pending := rfl
@[simp] theorem State.setBridge_ticks (s : State) (x : Bridge) : (s.setBridge x).ticks = s.ticks := rfl
@[simp] theorem State.setBridge_pins (s : State) (x : Bridge) : (s.setBridge x).pins = s.pins := rfl
@[simp] theorem State.setBridge_nvm (s : State) (x : Bridge) : (s.setBridge x).nvm = s.nvm := rfl
@[simp] theorem State.setBridge_ctl (s : State) (x : Bridge) : (s.setBridge x).ctl = s.ctl := rfl
@[simp] theorem State.setBridge_peers (s : State) (x : Bridge) : (s.setBridge x).peers = s.peers := rfl
@[simp] theorem State.setBridge_latest (s : State) (x : Bridge) : (s.setBridge x).latest = s.latest := rfl
@[simp] theorem State.setBridge_port (s : State) (x : Bridge) : (s.setBridge x).port = s.port := rfl
@[simp] theorem State.setBridge_cap (s : State) (x : Bridge) : (s.setBridge x).cap = s.cap := rfl
@[simp] theorem State.setBridge_dem (s : State) (x : Bridge) : (s.setBridge x).dem = s.dem := rfl
@[simp] theorem State.setBridge_steer (s : State) (x : Bridge) : (s.setBridge x).steer = s.steer := rfl
@[simp] theorem State.setBridge_bridge (s : State) (x : Bridge) : (s.setBridge x).bridge = x := rfl
@[simp] theorem State.setBridge_winch (s : State) (x : Bridge) : (s.setBridge x).winch = s.winch := rfl
@[simp] theorem State.setBridge_pack (s : State) (x : Bridge) : (s.setBridge x).pack = s.pack := rfl
@[simp] theorem State.setBridge_share (s : State) (x : Bridge) : (s.setBridge x).share = s.share := rfl
@[simp] theorem State.setBridge_lamp (s : State) (x : Bridge) : (s.setBridge x).lamp = s.lamp := rfl
@[simp] theorem State.setBridge_log (s : State) (x : Bridge) : (s.setBridge x).log = s.log := rfl
@[simp] theorem State.setBridge_setBridge (s : State) (x y : Bridge) : (s.setBridge x).setBridge y = s.setBridge y := rfl
@[simp] theorem State.setBridge_self (s : State) : s.setBridge s.bridge = s := rfl

/-! ### `setWinch` -/

@[simp] theorem State.setWinch_pending (s : State) (x : Winch) : (s.setWinch x).pending = s.pending := rfl
@[simp] theorem State.setWinch_ticks (s : State) (x : Winch) : (s.setWinch x).ticks = s.ticks := rfl
@[simp] theorem State.setWinch_pins (s : State) (x : Winch) : (s.setWinch x).pins = s.pins := rfl
@[simp] theorem State.setWinch_nvm (s : State) (x : Winch) : (s.setWinch x).nvm = s.nvm := rfl
@[simp] theorem State.setWinch_ctl (s : State) (x : Winch) : (s.setWinch x).ctl = s.ctl := rfl
@[simp] theorem State.setWinch_peers (s : State) (x : Winch) : (s.setWinch x).peers = s.peers := rfl
@[simp] theorem State.setWinch_latest (s : State) (x : Winch) : (s.setWinch x).latest = s.latest := rfl
@[simp] theorem State.setWinch_port (s : State) (x : Winch) : (s.setWinch x).port = s.port := rfl
@[simp] theorem State.setWinch_cap (s : State) (x : Winch) : (s.setWinch x).cap = s.cap := rfl
@[simp] theorem State.setWinch_dem (s : State) (x : Winch) : (s.setWinch x).dem = s.dem := rfl
@[simp] theorem State.setWinch_steer (s : State) (x : Winch) : (s.setWinch x).steer = s.steer := rfl
@[simp] theorem State.setWinch_bridge (s : State) (x : Winch) : (s.setWinch x).bridge = s.bridge := rfl
@[simp] theorem State.setWinch_winch (s : State) (x : Winch) : (s.setWinch x).winch = x := rfl
@[simp] theorem State.setWinch_pack (s : State) (x : Winch) : (s.setWinch x).pack = s.pack := rfl
@[simp] theorem State.setWinch_share (s : State) (x : Winch) : (s.setWinch x).share = s.share := rfl
@[simp] theorem State.setWinch_lamp (s : State) (x : Winch) : (s.setWinch x).lamp = s.lamp := rfl
@[simp] theorem State.setWinch_log (s : State) (x : Winch) : (s.setWinch x).log = s.log := rfl
@[simp] theorem State.setWinch_setWinch (s : State) (x y : Winch) : (s.setWinch x).setWinch y = s.setWinch y := rfl
@[simp] theorem State.setWinch_self (s : State) : s.setWinch s.winch = s := rfl

/-! ### `setPack` -/

@[simp] theorem State.setPack_pending (s : State) (x : Pack) : (s.setPack x).pending = s.pending := rfl
@[simp] theorem State.setPack_ticks (s : State) (x : Pack) : (s.setPack x).ticks = s.ticks := rfl
@[simp] theorem State.setPack_pins (s : State) (x : Pack) : (s.setPack x).pins = s.pins := rfl
@[simp] theorem State.setPack_nvm (s : State) (x : Pack) : (s.setPack x).nvm = s.nvm := rfl
@[simp] theorem State.setPack_ctl (s : State) (x : Pack) : (s.setPack x).ctl = s.ctl := rfl
@[simp] theorem State.setPack_peers (s : State) (x : Pack) : (s.setPack x).peers = s.peers := rfl
@[simp] theorem State.setPack_latest (s : State) (x : Pack) : (s.setPack x).latest = s.latest := rfl
@[simp] theorem State.setPack_port (s : State) (x : Pack) : (s.setPack x).port = s.port := rfl
@[simp] theorem State.setPack_cap (s : State) (x : Pack) : (s.setPack x).cap = s.cap := rfl
@[simp] theorem State.setPack_dem (s : State) (x : Pack) : (s.setPack x).dem = s.dem := rfl
@[simp] theorem State.setPack_steer (s : State) (x : Pack) : (s.setPack x).steer = s.steer := rfl
@[simp] theorem State.setPack_bridge (s : State) (x : Pack) : (s.setPack x).bridge = s.bridge := rfl
@[simp] theorem State.setPack_winch (s : State) (x : Pack) : (s.setPack x).winch = s.winch := rfl
@[simp] theorem State.setPack_pack (s : State) (x : Pack) : (s.setPack x).pack = x := rfl
@[simp] theorem State.setPack_share (s : State) (x : Pack) : (s.setPack x).share = s.share := rfl
@[simp] theorem State.setPack_lamp (s : State) (x : Pack) : (s.setPack x).lamp = s.lamp := rfl
@[simp] theorem State.setPack_log (s : State) (x : Pack) : (s.setPack x).log = s.log := rfl
@[simp] theorem State.setPack_setPack (s : State) (x y : Pack) : (s.setPack x).setPack y = s.setPack y := rfl
@[simp] theorem State.setPack_self (s : State) : s.setPack s.pack = s := rfl

/-! ### `setShare` -/

@[simp] theorem State.setShare_pending (s : State) (x : Share) : (s.setShare x).pending = s.pending := rfl
@[simp] theorem State.setShare_ticks (s : State) (x : Share) : (s.setShare x).ticks = s.ticks := rfl
@[simp] theorem State.setShare_pins (s : State) (x : Share) : (s.setShare x).pins = s.pins := rfl
@[simp] theorem State.setShare_nvm (s : State) (x : Share) : (s.setShare x).nvm = s.nvm := rfl
@[simp] theorem State.setShare_ctl (s : State) (x : Share) : (s.setShare x).ctl = s.ctl := rfl
@[simp] theorem State.setShare_peers (s : State) (x : Share) : (s.setShare x).peers = s.peers := rfl
@[simp] theorem State.setShare_latest (s : State) (x : Share) : (s.setShare x).latest = s.latest := rfl
@[simp] theorem State.setShare_port (s : State) (x : Share) : (s.setShare x).port = s.port := rfl
@[simp] theorem State.setShare_cap (s : State) (x : Share) : (s.setShare x).cap = s.cap := rfl
@[simp] theorem State.setShare_dem (s : State) (x : Share) : (s.setShare x).dem = s.dem := rfl
@[simp] theorem State.setShare_steer (s : State) (x : Share) : (s.setShare x).steer = s.steer := rfl
@[simp] theorem State.setShare_bridge (s : State) (x : Share) : (s.setShare x).bridge = s.bridge := rfl
@[simp] theorem State.setShare_winch (s : State) (x : Share) : (s.setShare x).winch = s.winch := rfl
@[simp] theorem State.setShare_pack (s : State) (x : Share) : (s.setShare x).pack = s.pack := rfl
@[simp] theorem State.setShare_share (s : State) (x : Share) : (s.setShare x).share = x := rfl
@[simp] theorem State.setShare_lamp (s : State) (x : Share) : (s.setShare x).lamp = s.lamp := rfl
@[simp] theorem State.setShare_log (s : State) (x : Share) : (s.setShare x).log = s.log := rfl
@[simp] theorem State.setShare_setShare (s : State) (x y : Share) : (s.setShare x).setShare y = s.setShare y := rfl
@[simp] theorem State.setShare_self (s : State) : s.setShare s.share = s := rfl

/-! ### `setLamp` -/

@[simp] theorem State.setLamp_pending (s : State) (x : LampUnit) : (s.setLamp x).pending = s.pending := rfl
@[simp] theorem State.setLamp_ticks (s : State) (x : LampUnit) : (s.setLamp x).ticks = s.ticks := rfl
@[simp] theorem State.setLamp_pins (s : State) (x : LampUnit) : (s.setLamp x).pins = s.pins := rfl
@[simp] theorem State.setLamp_nvm (s : State) (x : LampUnit) : (s.setLamp x).nvm = s.nvm := rfl
@[simp] theorem State.setLamp_ctl (s : State) (x : LampUnit) : (s.setLamp x).ctl = s.ctl := rfl
@[simp] theorem State.setLamp_peers (s : State) (x : LampUnit) : (s.setLamp x).peers = s.peers := rfl
@[simp] theorem State.setLamp_latest (s : State) (x : LampUnit) : (s.setLamp x).latest = s.latest := rfl
@[simp] theorem State.setLamp_port (s : State) (x : LampUnit) : (s.setLamp x).port = s.port := rfl
@[simp] theorem State.setLamp_cap (s : State) (x : LampUnit) : (s.setLamp x).cap = s.cap := rfl
@[simp] theorem State.setLamp_dem (s : State) (x : LampUnit) : (s.setLamp x).dem = s.dem := rfl
@[simp] theorem State.setLamp_steer (s : State) (x : LampUnit) : (s.setLamp x).steer = s.steer := rfl
@[simp] theorem State.setLamp_bridge (s : State) (x : LampUnit) : (s.setLamp x).bridge = s.bridge := rfl
@[simp] theorem State.setLamp_winch (s : State) (x : LampUnit) : (s.setLamp x).winch = s.winch := rfl
@[simp] theorem State.setLamp_pack (s : State) (x : LampUnit) : (s.setLamp x).pack = s.pack := rfl
@[simp] theorem State.setLamp_share (s : State) (x : LampUnit) : (s.setLamp x).share = s.share := rfl
@[simp] theorem State.setLamp_lamp (s : State) (x : LampUnit) : (s.setLamp x).lamp = x := rfl
@[simp] theorem State.setLamp_log (s : State) (x : LampUnit) : (s.setLamp x).log = s.log := rfl
@[simp] theorem State.setLamp_setLamp (s : State) (x y : LampUnit) : (s.setLamp x).setLamp y = s.setLamp y := rfl
@[simp] theorem State.setLamp_self (s : State) : s.setLamp s.lamp = s := rfl

/-! ### `setLog` -/

@[simp] theorem State.setLog_pending (s : State) (x : IncidentLog) : (s.setLog x).pending = s.pending := rfl
@[simp] theorem State.setLog_ticks (s : State) (x : IncidentLog) : (s.setLog x).ticks = s.ticks := rfl
@[simp] theorem State.setLog_pins (s : State) (x : IncidentLog) : (s.setLog x).pins = s.pins := rfl
@[simp] theorem State.setLog_nvm (s : State) (x : IncidentLog) : (s.setLog x).nvm = s.nvm := rfl
@[simp] theorem State.setLog_ctl (s : State) (x : IncidentLog) : (s.setLog x).ctl = s.ctl := rfl
@[simp] theorem State.setLog_peers (s : State) (x : IncidentLog) : (s.setLog x).peers = s.peers := rfl
@[simp] theorem State.setLog_latest (s : State) (x : IncidentLog) : (s.setLog x).latest = s.latest := rfl
@[simp] theorem State.setLog_port (s : State) (x : IncidentLog) : (s.setLog x).port = s.port := rfl
@[simp] theorem State.setLog_cap (s : State) (x : IncidentLog) : (s.setLog x).cap = s.cap := rfl
@[simp] theorem State.setLog_dem (s : State) (x : IncidentLog) : (s.setLog x).dem = s.dem := rfl
@[simp] theorem State.setLog_steer (s : State) (x : IncidentLog) : (s.setLog x).steer = s.steer := rfl
@[simp] theorem State.setLog_bridge (s : State) (x : IncidentLog) : (s.setLog x).bridge = s.bridge := rfl
@[simp] theorem State.setLog_winch (s : State) (x : IncidentLog) : (s.setLog x).winch = s.winch := rfl
@[simp] theorem State.setLog_pack (s : State) (x : IncidentLog) : (s.setLog x).pack = s.pack := rfl
@[simp] theorem State.setLog_share (s : State) (x : IncidentLog) : (s.setLog x).share = s.share := rfl
@[simp] theorem State.setLog_lamp (s : State) (x : IncidentLog) : (s.setLog x).lamp = s.lamp := rfl
@[simp] theorem State.setLog_log (s : State) (x : IncidentLog) : (s.setLog x).log = x := rfl
@[simp] theorem State.setLog_setLog (s : State) (x y : IncidentLog) : (s.setLog x).setLog y = s.setLog y := rfl
@[simp] theorem State.setLog_self (s : State) : s.setLog s.log = s := rfl

/-! ### `setPins` -/

@[simp] theorem State.setPins_pending (s : State) (x : Pins) : (s.setPins x).pending = s.pending := rfl
@[simp] theorem State.setPins_ticks (s : State) (x : Pins) : (s.setPins x).ticks = s.ticks := rfl
@[simp] theorem State.setPins_pins (s : State) (x : Pins) : (s.setPins x).pins = x := rfl
@[simp] theorem State.setPins_nvm (s : State) (x : Pins) : (s.setPins x).nvm = s.nvm := rfl
@[simp] theorem State.setPins_ctl (s : State) (x : Pins) : (s.setPins x).ctl = s.ctl := rfl
@[simp] theorem State.setPins_peers (s : State) (x : Pins) : (s.setPins x).peers = s.peers := rfl
@[simp] theorem State.setPins_latest (s : State) (x : Pins) : (s.setPins x).latest = s.latest := rfl
@[simp] theorem State.setPins_port (s : State) (x : Pins) : (s.setPins x).port = s.port := rfl
@[simp] theorem State.setPins_cap (s : State) (x : Pins) : (s.setPins x).cap = s.cap := rfl
@[simp] theorem State.setPins_dem (s : State) (x : Pins) : (s.setPins x).dem = s.dem := rfl
@[simp] theorem State.setPins_steer (s : State) (x : Pins) : (s.setPins x).steer = s.steer := rfl
@[simp] theorem State.setPins_bridge (s : State) (x : Pins) : (s.setPins x).bridge = s.bridge := rfl
@[simp] theorem State.setPins_winch (s : State) (x : Pins) : (s.setPins x).winch = s.winch := rfl
@[simp] theorem State.setPins_pack (s : State) (x : Pins) : (s.setPins x).pack = s.pack := rfl
@[simp] theorem State.setPins_share (s : State) (x : Pins) : (s.setPins x).share = s.share := rfl
@[simp] theorem State.setPins_lamp (s : State) (x : Pins) : (s.setPins x).lamp = s.lamp := rfl
@[simp] theorem State.setPins_log (s : State) (x : Pins) : (s.setPins x).log = s.log := rfl
@[simp] theorem State.setPins_setPins (s : State) (x y : Pins) : (s.setPins x).setPins y = s.setPins y := rfl
@[simp] theorem State.setPins_self (s : State) : s.setPins s.pins = s := rfl

/-! ### `setNvm` -/

@[simp] theorem State.setNvm_pending (s : State) (x : StoredTable) : (s.setNvm x).pending = s.pending := rfl
@[simp] theorem State.setNvm_ticks (s : State) (x : StoredTable) : (s.setNvm x).ticks = s.ticks := rfl
@[simp] theorem State.setNvm_pins (s : State) (x : StoredTable) : (s.setNvm x).pins = s.pins := rfl
@[simp] theorem State.setNvm_nvm (s : State) (x : StoredTable) : (s.setNvm x).nvm = x := rfl
@[simp] theorem State.setNvm_ctl (s : State) (x : StoredTable) : (s.setNvm x).ctl = s.ctl := rfl
@[simp] theorem State.setNvm_peers (s : State) (x : StoredTable) : (s.setNvm x).peers = s.peers := rfl
@[simp] theorem State.setNvm_latest (s : State) (x : StoredTable) : (s.setNvm x).latest = s.latest := rfl
@[simp] theorem State.setNvm_port (s : State) (x : StoredTable) : (s.setNvm x).port = s.port := rfl
@[simp] theorem State.setNvm_cap (s : State) (x : StoredTable) : (s.setNvm x).cap = s.cap := rfl
@[simp] theorem State.setNvm_dem (s : State) (x : StoredTable) : (s.setNvm x).dem = s.dem := rfl
@[simp] theorem State.setNvm_steer (s : State) (x : StoredTable) : (s.setNvm x).steer = s.steer := rfl
@[simp] theorem State.setNvm_bridge (s : State) (x : StoredTable) : (s.setNvm x).bridge = s.bridge := rfl
@[simp] theorem State.setNvm_winch (s : State) (x : StoredTable) : (s.setNvm x).winch = s.winch := rfl
@[simp] theorem State.setNvm_pack (s : State) (x : StoredTable) : (s.setNvm x).pack = s.pack := rfl
@[simp] theorem State.setNvm_share (s : State) (x : StoredTable) : (s.setNvm x).share = s.share := rfl
@[simp] theorem State.setNvm_lamp (s : State) (x : StoredTable) : (s.setNvm x).lamp = s.lamp := rfl
@[simp] theorem State.setNvm_log (s : State) (x : StoredTable) : (s.setNvm x).log = s.log := rfl
@[simp] theorem State.setNvm_setNvm (s : State) (x y : StoredTable) : (s.setNvm x).setNvm y = s.setNvm y := rfl
@[simp] theorem State.setNvm_self (s : State) : s.setNvm s.nvm = s := rfl

end Sys2Proof.Machine
end

