-- ==== Sys2Proof/Laws/Frames.lean ====
section
/-! SUPPORT. What each shared operation leaves unchanged: one frame lemma per operation, each a conjunction that `simp`
reads as one rewrite rule for every block named. -/

namespace Sys2Proof.Machine

/-! ### Ops -/

/-- What `record` leaves unchanged. -/
@[simp] theorem record_frame (c : IncidentCode) (d : Half) (s : State) :
    (record c d s).pending = s.pending ∧ (record c d s).ticks = s.ticks ∧ (record c d s).pins = s.pins ∧
    (record c d s).nvm = s.nvm ∧ (record c d s).ctl = s.ctl ∧ (record c d s).peers = s.peers ∧
    (record c d s).latest = s.latest ∧ (record c d s).port = s.port ∧ (record c d s).cap = s.cap ∧
    (record c d s).dem = s.dem ∧ (record c d s).steer = s.steer ∧ (record c d s).bridge = s.bridge ∧
    (record c d s).winch = s.winch ∧ (record c d s).pack = s.pack ∧ (record c d s).share = s.share ∧
    (record c d s).lamp = s.lamp := by
  unfold record
  try dsimp only
  repeat' first | apply And.intro | split
  all_goals simp

/-- What `setFaults` leaves unchanged. -/
@[simp] theorem setFaults_frame (f : FaultSet) (s : State) :
    (setFaults f s).pending = s.pending ∧ (setFaults f s).ticks = s.ticks ∧ (setFaults f s).pins = s.pins ∧
    (setFaults f s).nvm = s.nvm ∧ (setFaults f s).peers = s.peers ∧ (setFaults f s).latest = s.latest ∧
    (setFaults f s).port = s.port ∧ (setFaults f s).cap = s.cap ∧ (setFaults f s).dem = s.dem ∧
    (setFaults f s).steer = s.steer ∧ (setFaults f s).bridge = s.bridge ∧ (setFaults f s).winch = s.winch ∧
    (setFaults f s).pack = s.pack ∧ (setFaults f s).share = s.share ∧ (setFaults f s).lamp = s.lamp ∧
    (setFaults f s).log = s.log := by
  unfold setFaults
  try dsimp only
  repeat' first | apply And.intro | split
  all_goals simp

/-- What `startSend` leaves unchanged. -/
@[simp] theorem startSend_frame (s : State) :
    (startSend s).pending = s.pending ∧ (startSend s).ticks = s.ticks ∧ (startSend s).pins = s.pins ∧
    (startSend s).nvm = s.nvm ∧ (startSend s).ctl = s.ctl ∧ (startSend s).peers = s.peers ∧
    (startSend s).latest = s.latest ∧ (startSend s).cap = s.cap ∧ (startSend s).dem = s.dem ∧
    (startSend s).steer = s.steer ∧ (startSend s).bridge = s.bridge ∧ (startSend s).winch = s.winch ∧
    (startSend s).pack = s.pack ∧ (startSend s).share = s.share ∧ (startSend s).lamp = s.lamp ∧
    (startSend s).log = s.log := by
  unfold startSend
  try dsimp only
  repeat' first | apply And.intro | split
  all_goals simp

/-- What `queueFrame` leaves unchanged. -/
@[simp] theorem queueFrame_frame (t : TxTopic) (d : List Byte) (s : State) :
    (queueFrame t d s).pending = s.pending ∧ (queueFrame t d s).ticks = s.ticks ∧ (queueFrame t d s).pins = s.pins ∧
    (queueFrame t d s).nvm = s.nvm ∧ (queueFrame t d s).ctl = s.ctl ∧ (queueFrame t d s).peers = s.peers ∧
    (queueFrame t d s).latest = s.latest ∧ (queueFrame t d s).cap = s.cap ∧ (queueFrame t d s).dem = s.dem ∧
    (queueFrame t d s).steer = s.steer ∧ (queueFrame t d s).bridge = s.bridge ∧ (queueFrame t d s).winch = s.winch ∧
    (queueFrame t d s).pack = s.pack ∧ (queueFrame t d s).share = s.share ∧ (queueFrame t d s).lamp = s.lamp ∧
    (queueFrame t d s).log = s.log := by
  unfold queueFrame
  try dsimp only
  repeat' first | apply And.intro | split
  all_goals simp

/-- What `withdrawDemand` leaves unchanged. -/
@[simp] theorem withdrawDemand_frame (s : State) :
    (withdrawDemand s).pending = s.pending ∧ (withdrawDemand s).ticks = s.ticks ∧ (withdrawDemand s).pins = s.pins ∧
    (withdrawDemand s).nvm = s.nvm ∧ (withdrawDemand s).ctl = s.ctl ∧ (withdrawDemand s).peers = s.peers ∧
    (withdrawDemand s).latest = s.latest ∧ (withdrawDemand s).cap = s.cap ∧ (withdrawDemand s).dem = s.dem ∧
    (withdrawDemand s).steer = s.steer ∧ (withdrawDemand s).bridge = s.bridge ∧ (withdrawDemand s).winch = s.winch ∧
    (withdrawDemand s).pack = s.pack ∧ (withdrawDemand s).share = s.share ∧ (withdrawDemand s).lamp = s.lamp ∧
    (withdrawDemand s).log = s.log := by
  unfold withdrawDemand
  try dsimp only
  repeat' first | apply And.intro | split
  all_goals simp

/-- What `evalConditions` leaves unchanged. -/
@[simp] theorem evalConditions_frame (s : State) :
    (evalConditions s).pending = s.pending ∧ (evalConditions s).ticks = s.ticks ∧ (evalConditions s).pins = s.pins ∧
    (evalConditions s).nvm = s.nvm ∧ (evalConditions s).peers = s.peers ∧ (evalConditions s).latest = s.latest ∧
    (evalConditions s).port = s.port ∧ (evalConditions s).cap = s.cap ∧ (evalConditions s).dem = s.dem ∧
    (evalConditions s).steer = s.steer ∧ (evalConditions s).bridge = s.bridge ∧ (evalConditions s).winch = s.winch ∧
    (evalConditions s).pack = s.pack ∧ (evalConditions s).share = s.share ∧ (evalConditions s).lamp = s.lamp ∧
    (evalConditions s).log = s.log := by
  unfold evalConditions
  try dsimp only
  repeat' first | apply And.intro | split
  all_goals simp

/-! ### Lamps -/

/-- What `refreshEffective` leaves unchanged. -/
@[simp] theorem refreshEffective_frame (s : State) :
    (refreshEffective s).pending = s.pending ∧ (refreshEffective s).ticks = s.ticks ∧
    (refreshEffective s).pins = s.pins ∧ (refreshEffective s).nvm = s.nvm ∧ (refreshEffective s).ctl = s.ctl ∧
    (refreshEffective s).peers = s.peers ∧ (refreshEffective s).latest = s.latest ∧
    (refreshEffective s).port = s.port ∧ (refreshEffective s).cap = s.cap ∧ (refreshEffective s).dem = s.dem ∧
    (refreshEffective s).steer = s.steer ∧ (refreshEffective s).bridge = s.bridge ∧
    (refreshEffective s).winch = s.winch ∧ (refreshEffective s).pack = s.pack ∧
    (refreshEffective s).share = s.share ∧ (refreshEffective s).log = s.log := by
  unfold refreshEffective
  try dsimp only
  repeat' first | apply And.intro | split
  all_goals simp

/-- What `evalCues` leaves unchanged. -/
@[simp] theorem evalCues_frame (s : State) :
    (evalCues s).pending = s.pending ∧ (evalCues s).ticks = s.ticks ∧ (evalCues s).pins = s.pins ∧
    (evalCues s).nvm = s.nvm ∧ (evalCues s).ctl = s.ctl ∧ (evalCues s).peers = s.peers ∧
    (evalCues s).latest = s.latest ∧ (evalCues s).port = s.port ∧ (evalCues s).cap = s.cap ∧
    (evalCues s).dem = s.dem ∧ (evalCues s).steer = s.steer ∧ (evalCues s).bridge = s.bridge ∧
    (evalCues s).winch = s.winch ∧ (evalCues s).pack = s.pack ∧ (evalCues s).share = s.share ∧
    (evalCues s).log = s.log := by
  unfold evalCues
  try dsimp only
  repeat' first | apply And.intro | split
  all_goals simp

/-- What `lampHandOver` leaves unchanged. -/
@[simp] theorem lampHandOver_frame (g : Tiers) (s : State) :
    (lampHandOver g s).pending = s.pending ∧ (lampHandOver g s).ticks = s.ticks ∧ (lampHandOver g s).pins = s.pins ∧
    (lampHandOver g s).nvm = s.nvm ∧ (lampHandOver g s).ctl = s.ctl ∧ (lampHandOver g s).peers = s.peers ∧
    (lampHandOver g s).latest = s.latest ∧ (lampHandOver g s).port = s.port ∧ (lampHandOver g s).cap = s.cap ∧
    (lampHandOver g s).dem = s.dem ∧ (lampHandOver g s).steer = s.steer ∧ (lampHandOver g s).bridge = s.bridge ∧
    (lampHandOver g s).winch = s.winch ∧ (lampHandOver g s).pack = s.pack ∧ (lampHandOver g s).share = s.share ∧
    (lampHandOver g s).log = s.log := by
  unfold lampHandOver
  try dsimp only
  repeat' first | apply And.intro | split
  all_goals simp

/-- What `setPhase` leaves unchanged. -/
@[simp] theorem setPhase_frame (p : Nat) (s : State) :
    (setPhase p s).pending = s.pending ∧ (setPhase p s).ticks = s.ticks ∧ (setPhase p s).pins = s.pins ∧
    (setPhase p s).nvm = s.nvm ∧ (setPhase p s).ctl = s.ctl ∧ (setPhase p s).peers = s.peers ∧
    (setPhase p s).latest = s.latest ∧ (setPhase p s).port = s.port ∧ (setPhase p s).cap = s.cap ∧
    (setPhase p s).dem = s.dem ∧ (setPhase p s).steer = s.steer ∧ (setPhase p s).bridge = s.bridge ∧
    (setPhase p s).winch = s.winch ∧ (setPhase p s).pack = s.pack ∧ (setPhase p s).share = s.share ∧
    (setPhase p s).log = s.log := by
  unfold setPhase
  try dsimp only
  repeat' first | apply And.intro | split
  all_goals simp

/-- What `alignBlink` leaves unchanged. -/
@[simp] theorem alignBlink_frame (r : Role) (s : State) :
    (alignBlink r s).pending = s.pending ∧ (alignBlink r s).ticks = s.ticks ∧ (alignBlink r s).pins = s.pins ∧
    (alignBlink r s).nvm = s.nvm ∧ (alignBlink r s).ctl = s.ctl ∧ (alignBlink r s).peers = s.peers ∧
    (alignBlink r s).latest = s.latest ∧ (alignBlink r s).port = s.port ∧ (alignBlink r s).cap = s.cap ∧
    (alignBlink r s).dem = s.dem ∧ (alignBlink r s).steer = s.steer ∧ (alignBlink r s).bridge = s.bridge ∧
    (alignBlink r s).winch = s.winch ∧ (alignBlink r s).pack = s.pack ∧ (alignBlink r s).share = s.share ∧
    (alignBlink r s).log = s.log := by
  unfold alignBlink
  try dsimp only
  repeat' first | apply And.intro | split
  all_goals simp

/-- What `fadeAll` leaves unchanged. -/
@[simp] theorem fadeAll_frame (s : State) :
    (fadeAll s).pending = s.pending ∧ (fadeAll s).ticks = s.ticks ∧ (fadeAll s).pins = s.pins ∧
    (fadeAll s).nvm = s.nvm ∧ (fadeAll s).ctl = s.ctl ∧ (fadeAll s).peers = s.peers ∧ (fadeAll s).latest = s.latest ∧
    (fadeAll s).port = s.port ∧ (fadeAll s).cap = s.cap ∧ (fadeAll s).dem = s.dem ∧ (fadeAll s).steer = s.steer ∧
    (fadeAll s).bridge = s.bridge ∧ (fadeAll s).winch = s.winch ∧ (fadeAll s).pack = s.pack ∧
    (fadeAll s).share = s.share ∧ (fadeAll s).log = s.log := by
  unfold fadeAll
  try dsimp only
  repeat' first | apply And.intro | split
  all_goals simp

/-- What `darkenLamps` leaves unchanged. -/
@[simp] theorem darkenLamps_frame (s : State) :
    (darkenLamps s).pending = s.pending ∧ (darkenLamps s).ticks = s.ticks ∧ (darkenLamps s).pins = s.pins ∧
    (darkenLamps s).nvm = s.nvm ∧ (darkenLamps s).ctl = s.ctl ∧ (darkenLamps s).peers = s.peers ∧
    (darkenLamps s).latest = s.latest ∧ (darkenLamps s).port = s.port ∧ (darkenLamps s).cap = s.cap ∧
    (darkenLamps s).dem = s.dem ∧ (darkenLamps s).steer = s.steer ∧ (darkenLamps s).bridge = s.bridge ∧
    (darkenLamps s).winch = s.winch ∧ (darkenLamps s).pack = s.pack ∧ (darkenLamps s).share = s.share ∧
    (darkenLamps s).log = s.log := by
  unfold darkenLamps
  try dsimp only
  repeat' first | apply And.intro | split
  all_goals simp

/-- What `lampsEnterRun` leaves unchanged. -/
@[simp] theorem lampsEnterRun_frame (s : State) :
    (lampsEnterRun s).pending = s.pending ∧ (lampsEnterRun s).ticks = s.ticks ∧ (lampsEnterRun s).pins = s.pins ∧
    (lampsEnterRun s).nvm = s.nvm ∧ (lampsEnterRun s).ctl = s.ctl ∧ (lampsEnterRun s).peers = s.peers ∧
    (lampsEnterRun s).latest = s.latest ∧ (lampsEnterRun s).port = s.port ∧ (lampsEnterRun s).cap = s.cap ∧
    (lampsEnterRun s).dem = s.dem ∧ (lampsEnterRun s).steer = s.steer ∧ (lampsEnterRun s).bridge = s.bridge ∧
    (lampsEnterRun s).winch = s.winch ∧ (lampsEnterRun s).pack = s.pack ∧ (lampsEnterRun s).share = s.share ∧
    (lampsEnterRun s).log = s.log := by
  unfold lampsEnterRun
  try dsimp only
  repeat' first | apply And.intro | split
  all_goals simp

/-! ### Steering -/

/-- What `steerRefresh` leaves unchanged. -/
@[simp] theorem steerRefresh_frame (s : State) :
    (steerRefresh s).pending = s.pending ∧ (steerRefresh s).ticks = s.ticks ∧ (steerRefresh s).pins = s.pins ∧
    (steerRefresh s).nvm = s.nvm ∧ (steerRefresh s).ctl = s.ctl ∧ (steerRefresh s).peers = s.peers ∧
    (steerRefresh s).latest = s.latest ∧ (steerRefresh s).port = s.port ∧ (steerRefresh s).cap = s.cap ∧
    (steerRefresh s).dem = s.dem ∧ (steerRefresh s).bridge = s.bridge ∧ (steerRefresh s).winch = s.winch ∧
    (steerRefresh s).pack = s.pack ∧ (steerRefresh s).share = s.share ∧ (steerRefresh s).lamp = s.lamp ∧
    (steerRefresh s).log = s.log := by
  unfold steerRefresh
  try dsimp only
  repeat' first | apply And.intro | split
  all_goals simp

/-- What `splitEvaluate` leaves unchanged. -/
@[simp] theorem splitEvaluate_frame (s : State) :
    (splitEvaluate s).pending = s.pending ∧ (splitEvaluate s).ticks = s.ticks ∧ (splitEvaluate s).pins = s.pins ∧
    (splitEvaluate s).nvm = s.nvm ∧ (splitEvaluate s).ctl = s.ctl ∧ (splitEvaluate s).peers = s.peers ∧
    (splitEvaluate s).latest = s.latest ∧ (splitEvaluate s).port = s.port ∧ (splitEvaluate s).cap = s.cap ∧
    (splitEvaluate s).dem = s.dem ∧ (splitEvaluate s).bridge = s.bridge ∧ (splitEvaluate s).winch = s.winch ∧
    (splitEvaluate s).pack = s.pack ∧ (splitEvaluate s).share = s.share ∧ (splitEvaluate s).lamp = s.lamp ∧
    (splitEvaluate s).log = s.log := by
  unfold splitEvaluate
  try dsimp only
  repeat' first | apply And.intro | split
  all_goals simp

/-- What `splitCheck` leaves unchanged. -/
@[simp] theorem splitCheck_frame (s : State) :
    (splitCheck s).pending = s.pending ∧ (splitCheck s).ticks = s.ticks ∧ (splitCheck s).pins = s.pins ∧
    (splitCheck s).nvm = s.nvm ∧ (splitCheck s).ctl = s.ctl ∧ (splitCheck s).peers = s.peers ∧
    (splitCheck s).latest = s.latest ∧ (splitCheck s).port = s.port ∧ (splitCheck s).cap = s.cap ∧
    (splitCheck s).dem = s.dem ∧ (splitCheck s).bridge = s.bridge ∧ (splitCheck s).winch = s.winch ∧
    (splitCheck s).pack = s.pack ∧ (splitCheck s).share = s.share ∧ (splitCheck s).lamp = s.lamp ∧
    (splitCheck s).log = s.log := by
  unfold splitCheck
  try dsimp only
  repeat' first | apply And.intro | split
  all_goals simp

/-- What `noteSplit` leaves unchanged. -/
@[simp] theorem noteSplit_frame (s : State) :
    (noteSplit s).pending = s.pending ∧ (noteSplit s).ticks = s.ticks ∧ (noteSplit s).pins = s.pins ∧
    (noteSplit s).nvm = s.nvm ∧ (noteSplit s).peers = s.peers ∧ (noteSplit s).latest = s.latest ∧
    (noteSplit s).port = s.port ∧ (noteSplit s).cap = s.cap ∧ (noteSplit s).dem = s.dem ∧
    (noteSplit s).steer = s.steer ∧ (noteSplit s).bridge = s.bridge ∧ (noteSplit s).winch = s.winch ∧
    (noteSplit s).pack = s.pack ∧ (noteSplit s).share = s.share ∧ (noteSplit s).lamp = s.lamp := by
  unfold noteSplit
  try dsimp only
  repeat' first | apply And.intro | split
  all_goals simp

/-- What `stageBank` leaves unchanged. -/
@[simp] theorem stageBank_frame (s : State) :
    (stageBank s).pending = s.pending ∧ (stageBank s).ticks = s.ticks ∧ (stageBank s).pins = s.pins ∧
    (stageBank s).nvm = s.nvm ∧ (stageBank s).ctl = s.ctl ∧ (stageBank s).peers = s.peers ∧
    (stageBank s).latest = s.latest ∧ (stageBank s).port = s.port ∧ (stageBank s).cap = s.cap ∧
    (stageBank s).dem = s.dem ∧ (stageBank s).bridge = s.bridge ∧ (stageBank s).winch = s.winch ∧
    (stageBank s).pack = s.pack ∧ (stageBank s).share = s.share ∧ (stageBank s).lamp = s.lamp ∧
    (stageBank s).log = s.log := by
  unfold stageBank
  try dsimp only
  repeat' first | apply And.intro | split
  all_goals simp

/-- What `steerReact` leaves unchanged. -/
@[simp] theorem steerReact_frame (b : Bool) (s : State) :
    (steerReact b s).pending = s.pending ∧ (steerReact b s).ticks = s.ticks ∧ (steerReact b s).pins = s.pins ∧
    (steerReact b s).nvm = s.nvm ∧ (steerReact b s).ctl = s.ctl ∧ (steerReact b s).peers = s.peers ∧
    (steerReact b s).latest = s.latest ∧ (steerReact b s).port = s.port ∧ (steerReact b s).cap = s.cap ∧
    (steerReact b s).dem = s.dem ∧ (steerReact b s).bridge = s.bridge ∧ (steerReact b s).winch = s.winch ∧
    (steerReact b s).pack = s.pack ∧ (steerReact b s).share = s.share ∧ (steerReact b s).lamp = s.lamp ∧
    (steerReact b s).log = s.log := by
  unfold steerReact
  try dsimp only
  repeat' first | apply And.intro | split
  all_goals simp

/-- What `startFrame` leaves unchanged. -/
@[simp] theorem startFrame_frame (l : Int) (s : State) :
    (startFrame l s).pending = s.pending ∧ (startFrame l s).ticks = s.ticks ∧ (startFrame l s).pins = s.pins ∧
    (startFrame l s).nvm = s.nvm ∧ (startFrame l s).ctl = s.ctl ∧ (startFrame l s).peers = s.peers ∧
    (startFrame l s).latest = s.latest ∧ (startFrame l s).port = s.port ∧ (startFrame l s).cap = s.cap ∧
    (startFrame l s).dem = s.dem ∧ (startFrame l s).bridge = s.bridge ∧ (startFrame l s).winch = s.winch ∧
    (startFrame l s).pack = s.pack ∧ (startFrame l s).share = s.share ∧ (startFrame l s).lamp = s.lamp ∧
    (startFrame l s).log = s.log := by
  unfold startFrame
  try dsimp only
  repeat' first | apply And.intro | split
  all_goals simp

/-- What `steerEnterRun` leaves unchanged. -/
@[simp] theorem steerEnterRun_frame (s : State) :
    (steerEnterRun s).pending = s.pending ∧ (steerEnterRun s).ticks = s.ticks ∧ (steerEnterRun s).pins = s.pins ∧
    (steerEnterRun s).nvm = s.nvm ∧ (steerEnterRun s).ctl = s.ctl ∧ (steerEnterRun s).peers = s.peers ∧
    (steerEnterRun s).latest = s.latest ∧ (steerEnterRun s).port = s.port ∧ (steerEnterRun s).cap = s.cap ∧
    (steerEnterRun s).dem = s.dem ∧ (steerEnterRun s).bridge = s.bridge ∧ (steerEnterRun s).winch = s.winch ∧
    (steerEnterRun s).pack = s.pack ∧ (steerEnterRun s).share = s.share ∧ (steerEnterRun s).lamp = s.lamp ∧
    (steerEnterRun s).log = s.log := by
  unfold steerEnterRun
  try dsimp only
  repeat' first | apply And.intro | split
  all_goals simp

/-- What `steerStop` leaves unchanged. -/
@[simp] theorem steerStop_frame (s : State) :
    (steerStop s).pending = s.pending ∧ (steerStop s).ticks = s.ticks ∧ (steerStop s).pins = s.pins ∧
    (steerStop s).nvm = s.nvm ∧ (steerStop s).ctl = s.ctl ∧ (steerStop s).peers = s.peers ∧
    (steerStop s).latest = s.latest ∧ (steerStop s).port = s.port ∧ (steerStop s).cap = s.cap ∧
    (steerStop s).dem = s.dem ∧ (steerStop s).bridge = s.bridge ∧ (steerStop s).winch = s.winch ∧
    (steerStop s).pack = s.pack ∧ (steerStop s).share = s.share ∧ (steerStop s).lamp = s.lamp ∧
    (steerStop s).log = s.log := by
  unfold steerStop
  try dsimp only
  repeat' first | apply And.intro | split
  all_goals simp

/-! ### Traction -/

/-- What `cueEvent` leaves unchanged. -/
@[simp] theorem cueEvent_frame (s t : State) :
    (cueEvent s t).pending = t.pending ∧ (cueEvent s t).ticks = t.ticks ∧ (cueEvent s t).pins = t.pins ∧
    (cueEvent s t).nvm = t.nvm ∧ (cueEvent s t).ctl = t.ctl ∧ (cueEvent s t).peers = t.peers ∧
    (cueEvent s t).latest = t.latest ∧ (cueEvent s t).port = t.port ∧ (cueEvent s t).cap = t.cap ∧
    (cueEvent s t).dem = t.dem ∧ (cueEvent s t).steer = t.steer ∧ (cueEvent s t).bridge = t.bridge ∧
    (cueEvent s t).winch = t.winch ∧ (cueEvent s t).pack = t.pack ∧ (cueEvent s t).share = t.share ∧
    (cueEvent s t).log = t.log := by
  unfold cueEvent
  try dsimp only
  repeat' first | apply And.intro | split
  all_goals simp

/-- What `selectDrive` leaves unchanged. -/
@[simp] theorem selectDrive_frame (s : State) :
    (selectDrive s).pending = s.pending ∧ (selectDrive s).ticks = s.ticks ∧ (selectDrive s).pins = s.pins ∧
    (selectDrive s).nvm = s.nvm ∧ (selectDrive s).ctl = s.ctl ∧ (selectDrive s).peers = s.peers ∧
    (selectDrive s).latest = s.latest ∧ (selectDrive s).port = s.port ∧ (selectDrive s).cap = s.cap ∧
    (selectDrive s).dem = s.dem ∧ (selectDrive s).steer = s.steer ∧ (selectDrive s).winch = s.winch ∧
    (selectDrive s).pack = s.pack ∧ (selectDrive s).share = s.share ∧ (selectDrive s).log = s.log := by
  unfold selectDrive
  try dsimp only
  repeat' first | apply And.intro | split
  all_goals simp

/-- What `evalDuty` leaves unchanged. -/
@[simp] theorem evalDuty_frame (s : State) :
    (evalDuty s).pending = s.pending ∧ (evalDuty s).ticks = s.ticks ∧ (evalDuty s).pins = s.pins ∧
    (evalDuty s).nvm = s.nvm ∧ (evalDuty s).ctl = s.ctl ∧ (evalDuty s).peers = s.peers ∧
    (evalDuty s).latest = s.latest ∧ (evalDuty s).port = s.port ∧ (evalDuty s).cap = s.cap ∧
    (evalDuty s).dem = s.dem ∧ (evalDuty s).steer = s.steer ∧ (evalDuty s).winch = s.winch ∧
    (evalDuty s).pack = s.pack ∧ (evalDuty s).share = s.share ∧ (evalDuty s).log = s.log := by
  unfold evalDuty
  try dsimp only
  repeat' first | apply And.intro | split
  all_goals simp

/-- What `stageDig` leaves unchanged. -/
@[simp] theorem stageDig_frame (s : State) :
    (stageDig s).pending = s.pending ∧ (stageDig s).ticks = s.ticks ∧ (stageDig s).pins = s.pins ∧
    (stageDig s).nvm = s.nvm ∧ (stageDig s).ctl = s.ctl ∧ (stageDig s).peers = s.peers ∧
    (stageDig s).latest = s.latest ∧ (stageDig s).port = s.port ∧ (stageDig s).cap = s.cap ∧
    (stageDig s).dem = s.dem ∧ (stageDig s).steer = s.steer ∧ (stageDig s).winch = s.winch ∧
    (stageDig s).pack = s.pack ∧ (stageDig s).share = s.share ∧ (stageDig s).lamp = s.lamp ∧
    (stageDig s).log = s.log := by
  unfold stageDig
  try dsimp only
  repeat' first | apply And.intro | split
  all_goals simp

/-- What `bridgeReact` leaves unchanged. -/
@[simp] theorem bridgeReact_frame (b : Bool) (s : State) :
    (bridgeReact b s).pending = s.pending ∧ (bridgeReact b s).ticks = s.ticks ∧ (bridgeReact b s).pins = s.pins ∧
    (bridgeReact b s).nvm = s.nvm ∧ (bridgeReact b s).ctl = s.ctl ∧ (bridgeReact b s).peers = s.peers ∧
    (bridgeReact b s).latest = s.latest ∧ (bridgeReact b s).port = s.port ∧ (bridgeReact b s).cap = s.cap ∧
    (bridgeReact b s).dem = s.dem ∧ (bridgeReact b s).steer = s.steer ∧ (bridgeReact b s).winch = s.winch ∧
    (bridgeReact b s).pack = s.pack ∧ (bridgeReact b s).share = s.share ∧ (bridgeReact b s).log = s.log := by
  unfold bridgeReact
  try dsimp only
  repeat' first | apply And.intro | split
  all_goals simp

/-- What `evalAssist` leaves unchanged. -/
@[simp] theorem evalAssist_frame (s : State) :
    (evalAssist s).pending = s.pending ∧ (evalAssist s).ticks = s.ticks ∧ (evalAssist s).pins = s.pins ∧
    (evalAssist s).nvm = s.nvm ∧ (evalAssist s).ctl = s.ctl ∧ (evalAssist s).peers = s.peers ∧
    (evalAssist s).latest = s.latest ∧ (evalAssist s).port = s.port ∧ (evalAssist s).cap = s.cap ∧
    (evalAssist s).dem = s.dem ∧ (evalAssist s).steer = s.steer ∧ (evalAssist s).winch = s.winch ∧
    (evalAssist s).pack = s.pack ∧ (evalAssist s).share = s.share ∧ (evalAssist s).lamp = s.lamp ∧
    (evalAssist s).log = s.log := by
  unfold evalAssist
  try dsimp only
  repeat' first | apply And.intro | split
  all_goals simp

/-- What `bridgeEnterRun` leaves unchanged. -/
@[simp] theorem bridgeEnterRun_frame (s : State) :
    (bridgeEnterRun s).pending = s.pending ∧ (bridgeEnterRun s).ticks = s.ticks ∧ (bridgeEnterRun s).pins = s.pins ∧
    (bridgeEnterRun s).nvm = s.nvm ∧ (bridgeEnterRun s).ctl = s.ctl ∧ (bridgeEnterRun s).peers = s.peers ∧
    (bridgeEnterRun s).latest = s.latest ∧ (bridgeEnterRun s).port = s.port ∧ (bridgeEnterRun s).cap = s.cap ∧
    (bridgeEnterRun s).dem = s.dem ∧ (bridgeEnterRun s).steer = s.steer ∧ (bridgeEnterRun s).winch = s.winch ∧
    (bridgeEnterRun s).pack = s.pack ∧ (bridgeEnterRun s).share = s.share ∧ (bridgeEnterRun s).log = s.log := by
  unfold bridgeEnterRun
  try dsimp only
  repeat' first | apply And.intro | split
  all_goals simp

/-- What `bridgeStop` leaves unchanged. -/
@[simp] theorem bridgeStop_frame (s : State) :
    (bridgeStop s).pending = s.pending ∧ (bridgeStop s).ticks = s.ticks ∧ (bridgeStop s).pins = s.pins ∧
    (bridgeStop s).nvm = s.nvm ∧ (bridgeStop s).ctl = s.ctl ∧ (bridgeStop s).peers = s.peers ∧
    (bridgeStop s).latest = s.latest ∧ (bridgeStop s).port = s.port ∧ (bridgeStop s).cap = s.cap ∧
    (bridgeStop s).dem = s.dem ∧ (bridgeStop s).steer = s.steer ∧ (bridgeStop s).winch = s.winch ∧
    (bridgeStop s).pack = s.pack ∧ (bridgeStop s).share = s.share ∧ (bridgeStop s).lamp = s.lamp ∧
    (bridgeStop s).log = s.log := by
  unfold bridgeStop
  try dsimp only
  repeat' first | apply And.intro | split
  all_goals simp

/-! ### Winch -/

/-- What `publishWinch` leaves unchanged. -/
@[simp] theorem publishWinch_frame (s : State) :
    (publishWinch s).pending = s.pending ∧ (publishWinch s).ticks = s.ticks ∧ (publishWinch s).pins = s.pins ∧
    (publishWinch s).nvm = s.nvm ∧ (publishWinch s).ctl = s.ctl ∧ (publishWinch s).peers = s.peers ∧
    (publishWinch s).cap = s.cap ∧ (publishWinch s).dem = s.dem ∧ (publishWinch s).steer = s.steer ∧
    (publishWinch s).bridge = s.bridge ∧ (publishWinch s).pack = s.pack ∧ (publishWinch s).share = s.share ∧
    (publishWinch s).lamp = s.lamp ∧ (publishWinch s).log = s.log ∧
    (publishWinch s).latest.demand = s.latest.demand ∧ (publishWinch s).latest.allowance = s.latest.allowance ∧
    (publishWinch s).latest.ageFront = s.latest.ageFront ∧ (publishWinch s).latest.ageRear = s.latest.ageRear ∧
    (publishWinch s).latest.ageLamp = s.latest.ageLamp ∧ (publishWinch s).latest.source = s.latest.source := by
  unfold publishWinch
  try dsimp only
  repeat' first | apply And.intro | split
  all_goals simp

/-- What `brakeGates` leaves unchanged. -/
@[simp] theorem brakeGates_frame (s : State) :
    (brakeGates s).pending = s.pending ∧ (brakeGates s).ticks = s.ticks ∧ (brakeGates s).pins = s.pins ∧
    (brakeGates s).nvm = s.nvm ∧ (brakeGates s).ctl = s.ctl ∧ (brakeGates s).peers = s.peers ∧
    (brakeGates s).latest = s.latest ∧ (brakeGates s).port = s.port ∧ (brakeGates s).cap = s.cap ∧
    (brakeGates s).dem = s.dem ∧ (brakeGates s).steer = s.steer ∧ (brakeGates s).winch = s.winch ∧
    (brakeGates s).pack = s.pack ∧ (brakeGates s).share = s.share ∧ (brakeGates s).lamp = s.lamp ∧
    (brakeGates s).log = s.log := by
  exact ⟨rfl, rfl, rfl, rfl, rfl, rfl, rfl, rfl, rfl, rfl, rfl, rfl, rfl, rfl, rfl, rfl⟩

/-- What `brakeAtEnd` leaves unchanged. -/
@[simp] theorem brakeAtEnd_frame (s : State) :
    (brakeAtEnd s).pending = s.pending ∧ (brakeAtEnd s).ticks = s.ticks ∧ (brakeAtEnd s).pins = s.pins ∧
    (brakeAtEnd s).nvm = s.nvm ∧ (brakeAtEnd s).ctl = s.ctl ∧ (brakeAtEnd s).peers = s.peers ∧
    (brakeAtEnd s).latest = s.latest ∧ (brakeAtEnd s).port = s.port ∧ (brakeAtEnd s).cap = s.cap ∧
    (brakeAtEnd s).dem = s.dem ∧ (brakeAtEnd s).steer = s.steer ∧ (brakeAtEnd s).winch = s.winch ∧
    (brakeAtEnd s).pack = s.pack ∧ (brakeAtEnd s).share = s.share ∧ (brakeAtEnd s).lamp = s.lamp ∧
    (brakeAtEnd s).log = s.log := by
  unfold brakeAtEnd
  split <;> simp

/-- What `enterWinch` leaves unchanged. -/
@[simp] theorem enterWinch_frame (w : WinchState) (s : State) :
    (enterWinch w s).pending = s.pending ∧ (enterWinch w s).ticks = s.ticks ∧ (enterWinch w s).pins = s.pins ∧
    (enterWinch w s).nvm = s.nvm ∧ (enterWinch w s).ctl = s.ctl ∧ (enterWinch w s).peers = s.peers ∧
    (enterWinch w s).cap = s.cap ∧ (enterWinch w s).dem = s.dem ∧ (enterWinch w s).steer = s.steer ∧
    (enterWinch w s).pack = s.pack ∧ (enterWinch w s).share = s.share ∧ (enterWinch w s).log = s.log ∧
    (enterWinch w s).latest.demand = s.latest.demand ∧ (enterWinch w s).latest.allowance = s.latest.allowance ∧
    (enterWinch w s).latest.ageFront = s.latest.ageFront ∧ (enterWinch w s).latest.ageRear = s.latest.ageRear ∧
    (enterWinch w s).latest.ageLamp = s.latest.ageLamp ∧ (enterWinch w s).latest.source = s.latest.source := by
  unfold enterWinch
  try dsimp only
  repeat' first | apply And.intro | split
  all_goals simp

/-- What `endHoldOff` leaves unchanged. -/
@[simp] theorem endHoldOff_frame (s : State) :
    (endHoldOff s).pending = s.pending ∧ (endHoldOff s).ticks = s.ticks ∧ (endHoldOff s).pins = s.pins ∧
    (endHoldOff s).nvm = s.nvm ∧ (endHoldOff s).ctl = s.ctl ∧ (endHoldOff s).peers = s.peers ∧
    (endHoldOff s).latest = s.latest ∧ (endHoldOff s).port = s.port ∧ (endHoldOff s).cap = s.cap ∧
    (endHoldOff s).dem = s.dem ∧ (endHoldOff s).steer = s.steer ∧ (endHoldOff s).bridge = s.bridge ∧
    (endHoldOff s).pack = s.pack ∧ (endHoldOff s).share = s.share ∧ (endHoldOff s).lamp = s.lamp ∧
    (endHoldOff s).log = s.log := by
  unfold endHoldOff
  try dsimp only
  repeat' first | apply And.intro | split
  all_goals simp

/-- What `winchEvaluate` leaves unchanged. -/
@[simp] theorem winchEvaluate_frame (s : State) :
    (winchEvaluate s).pending = s.pending ∧ (winchEvaluate s).ticks = s.ticks ∧ (winchEvaluate s).pins = s.pins ∧
    (winchEvaluate s).nvm = s.nvm ∧ (winchEvaluate s).ctl = s.ctl ∧ (winchEvaluate s).peers = s.peers ∧
    (winchEvaluate s).cap = s.cap ∧ (winchEvaluate s).dem = s.dem ∧ (winchEvaluate s).steer = s.steer ∧
    (winchEvaluate s).pack = s.pack ∧ (winchEvaluate s).share = s.share ∧ (winchEvaluate s).log = s.log ∧
    (winchEvaluate s).latest.demand = s.latest.demand ∧ (winchEvaluate s).latest.allowance = s.latest.allowance ∧
    (winchEvaluate s).latest.ageFront = s.latest.ageFront ∧ (winchEvaluate s).latest.ageRear = s.latest.ageRear ∧
    (winchEvaluate s).latest.ageLamp = s.latest.ageLamp ∧ (winchEvaluate s).latest.source = s.latest.source := by
  unfold winchEvaluate
  try dsimp only
  repeat' first | apply And.intro | split
  all_goals simp

/-- What `winchReact` leaves unchanged. -/
@[simp] theorem winchReact_frame (b : Bool) (s : State) :
    (winchReact b s).pending = s.pending ∧ (winchReact b s).ticks = s.ticks ∧ (winchReact b s).pins = s.pins ∧
    (winchReact b s).nvm = s.nvm ∧ (winchReact b s).ctl = s.ctl ∧ (winchReact b s).peers = s.peers ∧
    (winchReact b s).cap = s.cap ∧ (winchReact b s).dem = s.dem ∧ (winchReact b s).steer = s.steer ∧
    (winchReact b s).pack = s.pack ∧ (winchReact b s).share = s.share ∧ (winchReact b s).log = s.log ∧
    (winchReact b s).latest.demand = s.latest.demand ∧ (winchReact b s).latest.allowance = s.latest.allowance ∧
    (winchReact b s).latest.ageFront = s.latest.ageFront ∧ (winchReact b s).latest.ageRear = s.latest.ageRear ∧
    (winchReact b s).latest.ageLamp = s.latest.ageLamp ∧ (winchReact b s).latest.source = s.latest.source := by
  unfold winchReact
  try dsimp only
  repeat' first | apply And.intro | split
  all_goals simp

/-- What `winchHandOver` leaves unchanged. -/
@[simp] theorem winchHandOver_frame (s : State) :
    (winchHandOver s).pending = s.pending ∧ (winchHandOver s).ticks = s.ticks ∧ (winchHandOver s).pins = s.pins ∧
    (winchHandOver s).nvm = s.nvm ∧ (winchHandOver s).ctl = s.ctl ∧ (winchHandOver s).peers = s.peers ∧
    (winchHandOver s).cap = s.cap ∧ (winchHandOver s).dem = s.dem ∧ (winchHandOver s).steer = s.steer ∧
    (winchHandOver s).pack = s.pack ∧ (winchHandOver s).share = s.share ∧ (winchHandOver s).log = s.log ∧
    (winchHandOver s).latest.demand = s.latest.demand ∧ (winchHandOver s).latest.allowance = s.latest.allowance ∧
    (winchHandOver s).latest.ageFront = s.latest.ageFront ∧ (winchHandOver s).latest.ageRear = s.latest.ageRear ∧
    (winchHandOver s).latest.ageLamp = s.latest.ageLamp ∧ (winchHandOver s).latest.source = s.latest.source := by
  unfold winchHandOver
  try dsimp only
  repeat' first | apply And.intro | split
  all_goals simp

/-- What `winchEnterRun` leaves unchanged. -/
@[simp] theorem winchEnterRun_frame (s : State) :
    (winchEnterRun s).pending = s.pending ∧ (winchEnterRun s).ticks = s.ticks ∧ (winchEnterRun s).pins = s.pins ∧
    (winchEnterRun s).nvm = s.nvm ∧ (winchEnterRun s).ctl = s.ctl ∧ (winchEnterRun s).peers = s.peers ∧
    (winchEnterRun s).cap = s.cap ∧ (winchEnterRun s).dem = s.dem ∧ (winchEnterRun s).steer = s.steer ∧
    (winchEnterRun s).bridge = s.bridge ∧ (winchEnterRun s).pack = s.pack ∧ (winchEnterRun s).share = s.share ∧
    (winchEnterRun s).lamp = s.lamp ∧ (winchEnterRun s).log = s.log ∧
    (winchEnterRun s).latest.demand = s.latest.demand ∧ (winchEnterRun s).latest.allowance = s.latest.allowance ∧
    (winchEnterRun s).latest.ageFront = s.latest.ageFront ∧ (winchEnterRun s).latest.ageRear = s.latest.ageRear ∧
    (winchEnterRun s).latest.ageLamp = s.latest.ageLamp ∧ (winchEnterRun s).latest.source = s.latest.source := by
  unfold winchEnterRun
  try dsimp only
  repeat' first | apply And.intro | split
  all_goals simp

/-- What `winchStop` leaves unchanged. -/
@[simp] theorem winchStop_frame (s : State) :
    (winchStop s).pending = s.pending ∧ (winchStop s).ticks = s.ticks ∧ (winchStop s).pins = s.pins ∧
    (winchStop s).nvm = s.nvm ∧ (winchStop s).ctl = s.ctl ∧ (winchStop s).peers = s.peers ∧
    (winchStop s).latest = s.latest ∧ (winchStop s).port = s.port ∧ (winchStop s).cap = s.cap ∧
    (winchStop s).dem = s.dem ∧ (winchStop s).steer = s.steer ∧ (winchStop s).bridge = s.bridge ∧
    (winchStop s).pack = s.pack ∧ (winchStop s).share = s.share ∧ (winchStop s).lamp = s.lamp ∧
    (winchStop s).log = s.log := by
  unfold winchStop
  try dsimp only
  repeat' first | apply And.intro | split
  all_goals simp

/-! ### Shares -/

/-- What `shareCompute` leaves unchanged. -/
@[simp] theorem shareCompute_frame (c : ShareCause) (s : State) :
    (shareCompute c s).pending = s.pending ∧ (shareCompute c s).ticks = s.ticks ∧ (shareCompute c s).pins = s.pins ∧
    (shareCompute c s).nvm = s.nvm ∧ (shareCompute c s).ctl = s.ctl ∧ (shareCompute c s).peers = s.peers ∧
    (shareCompute c s).cap = s.cap ∧ (shareCompute c s).dem = s.dem ∧ (shareCompute c s).steer = s.steer ∧
    (shareCompute c s).pack = s.pack ∧ (shareCompute c s).log = s.log ∧
    (shareCompute c s).latest.demand = s.latest.demand ∧ (shareCompute c s).latest.allowance = s.latest.allowance ∧
    (shareCompute c s).latest.ageFront = s.latest.ageFront ∧ (shareCompute c s).latest.ageRear = s.latest.ageRear ∧
    (shareCompute c s).latest.ageLamp = s.latest.ageLamp ∧ (shareCompute c s).latest.source = s.latest.source := by
  unfold shareCompute
  try dsimp only
  repeat' first | apply And.intro | split
  all_goals simp

/-- What `acceptAllowance` leaves unchanged. -/
@[simp] theorem acceptAllowance_frame (d : List Byte) (s : State) :
    (acceptAllowance d s).pending = s.pending ∧ (acceptAllowance d s).ticks = s.ticks ∧
    (acceptAllowance d s).pins = s.pins ∧ (acceptAllowance d s).nvm = s.nvm ∧ (acceptAllowance d s).ctl = s.ctl ∧
    (acceptAllowance d s).peers = s.peers ∧ (acceptAllowance d s).cap = s.cap ∧ (acceptAllowance d s).dem = s.dem ∧
    (acceptAllowance d s).steer = s.steer ∧ (acceptAllowance d s).pack = s.pack ∧ (acceptAllowance d s).log = s.log ∧
    (acceptAllowance d s).latest.demand = s.latest.demand ∧
    (acceptAllowance d s).latest.ageFront = s.latest.ageFront ∧
    (acceptAllowance d s).latest.ageRear = s.latest.ageRear ∧
    (acceptAllowance d s).latest.ageLamp = s.latest.ageLamp ∧
    (acceptAllowance d s).latest.source = s.latest.source := by
  unfold acceptAllowance
  try dsimp only
  repeat' first | apply And.intro | split
  all_goals simp

/-- What `takeTrip` leaves unchanged. -/
@[simp] theorem takeTrip_frame (s : State) :
    (takeTrip s).pending = s.pending ∧ (takeTrip s).ticks = s.ticks ∧ (takeTrip s).pins = s.pins ∧
    (takeTrip s).nvm = s.nvm ∧ (takeTrip s).ctl = s.ctl ∧ (takeTrip s).peers = s.peers ∧ (takeTrip s).cap = s.cap ∧
    (takeTrip s).dem = s.dem ∧ (takeTrip s).steer = s.steer ∧ (takeTrip s).pack = s.pack ∧ (takeTrip s).log = s.log ∧
    (takeTrip s).latest.demand = s.latest.demand ∧ (takeTrip s).latest.allowance = s.latest.allowance ∧
    (takeTrip s).latest.ageFront = s.latest.ageFront ∧ (takeTrip s).latest.ageRear = s.latest.ageRear ∧
    (takeTrip s).latest.ageLamp = s.latest.ageLamp ∧ (takeTrip s).latest.source = s.latest.source := by
  unfold takeTrip
  try dsimp only
  repeat' first | apply And.intro | split
  all_goals simp

/-- What `shareEnterRun` leaves unchanged. -/
@[simp] theorem shareEnterRun_frame (s : State) :
    (shareEnterRun s).pending = s.pending ∧ (shareEnterRun s).ticks = s.ticks ∧ (shareEnterRun s).pins = s.pins ∧
    (shareEnterRun s).nvm = s.nvm ∧ (shareEnterRun s).ctl = s.ctl ∧ (shareEnterRun s).peers = s.peers ∧
    (shareEnterRun s).cap = s.cap ∧ (shareEnterRun s).dem = s.dem ∧ (shareEnterRun s).steer = s.steer ∧
    (shareEnterRun s).pack = s.pack ∧ (shareEnterRun s).log = s.log ∧
    (shareEnterRun s).latest.demand = s.latest.demand ∧ (shareEnterRun s).latest.allowance = s.latest.allowance ∧
    (shareEnterRun s).latest.ageFront = s.latest.ageFront ∧ (shareEnterRun s).latest.ageRear = s.latest.ageRear ∧
    (shareEnterRun s).latest.ageLamp = s.latest.ageLamp ∧ (shareEnterRun s).latest.source = s.latest.source := by
  unfold shareEnterRun
  try dsimp only
  repeat' first | apply And.intro | split
  all_goals simp

/-! ### Pack -/

/-- What `queueTrip` leaves unchanged. -/
@[simp] theorem queueTrip_frame (p : PackState) (c : TripCause) (s : State) :
    (queueTrip p c s).pending = s.pending ∧ (queueTrip p c s).ticks = s.ticks ∧ (queueTrip p c s).pins = s.pins ∧
    (queueTrip p c s).nvm = s.nvm ∧ (queueTrip p c s).ctl = s.ctl ∧ (queueTrip p c s).peers = s.peers ∧
    (queueTrip p c s).cap = s.cap ∧ (queueTrip p c s).dem = s.dem ∧ (queueTrip p c s).steer = s.steer ∧
    (queueTrip p c s).pack = s.pack ∧ (queueTrip p c s).log = s.log ∧
    (queueTrip p c s).latest.demand = s.latest.demand ∧ (queueTrip p c s).latest.allowance = s.latest.allowance ∧
    (queueTrip p c s).latest.ageFront = s.latest.ageFront ∧ (queueTrip p c s).latest.ageRear = s.latest.ageRear ∧
    (queueTrip p c s).latest.ageLamp = s.latest.ageLamp ∧ (queueTrip p c s).latest.source = s.latest.source := by
  unfold queueTrip
  try dsimp only
  repeat' first | apply And.intro | split
  all_goals simp

/-- What `enterCutoff` leaves unchanged. -/
@[simp] theorem enterCutoff_frame (s : State) :
    (enterCutoff s).pending = s.pending ∧ (enterCutoff s).ticks = s.ticks ∧ (enterCutoff s).pins = s.pins ∧
    (enterCutoff s).nvm = s.nvm ∧ (enterCutoff s).ctl = s.ctl ∧ (enterCutoff s).peers = s.peers ∧
    (enterCutoff s).cap = s.cap ∧ (enterCutoff s).dem = s.dem ∧ (enterCutoff s).steer = s.steer ∧
    (enterCutoff s).latest.demand = s.latest.demand ∧ (enterCutoff s).latest.allowance = s.latest.allowance ∧
    (enterCutoff s).latest.ageFront = s.latest.ageFront ∧ (enterCutoff s).latest.ageRear = s.latest.ageRear ∧
    (enterCutoff s).latest.ageLamp = s.latest.ageLamp ∧ (enterCutoff s).latest.source = s.latest.source := by
  unfold enterCutoff
  try dsimp only
  repeat' first | apply And.intro | split
  all_goals simp

/-- What `packRules` leaves unchanged. -/
@[simp] theorem packRules_frame (s : State) :
    (packRules s).pending = s.pending ∧ (packRules s).ticks = s.ticks ∧ (packRules s).pins = s.pins ∧
    (packRules s).nvm = s.nvm ∧ (packRules s).ctl = s.ctl ∧ (packRules s).peers = s.peers ∧
    (packRules s).cap = s.cap ∧ (packRules s).dem = s.dem ∧ (packRules s).steer = s.steer ∧
    (packRules s).latest.demand = s.latest.demand ∧ (packRules s).latest.allowance = s.latest.allowance ∧
    (packRules s).latest.ageFront = s.latest.ageFront ∧ (packRules s).latest.ageRear = s.latest.ageRear ∧
    (packRules s).latest.ageLamp = s.latest.ageLamp ∧ (packRules s).latest.source = s.latest.source := by
  unfold packRules
  try dsimp only
  repeat' first | apply And.intro | split
  all_goals simp

/-- What `publishAllowance` leaves unchanged. -/
@[simp] theorem publishAllowance_frame (s : State) :
    (publishAllowance s).pending = s.pending ∧ (publishAllowance s).ticks = s.ticks ∧
    (publishAllowance s).pins = s.pins ∧ (publishAllowance s).nvm = s.nvm ∧ (publishAllowance s).ctl = s.ctl ∧
    (publishAllowance s).peers = s.peers ∧ (publishAllowance s).cap = s.cap ∧ (publishAllowance s).dem = s.dem ∧
    (publishAllowance s).steer = s.steer ∧ (publishAllowance s).log = s.log ∧
    (publishAllowance s).latest.demand = s.latest.demand ∧ (publishAllowance s).latest.ageFront = s.latest.ageFront ∧
    (publishAllowance s).latest.ageRear = s.latest.ageRear ∧ (publishAllowance s).latest.ageLamp = s.latest.ageLamp ∧
    (publishAllowance s).latest.source = s.latest.source := by
  unfold publishAllowance
  try dsimp only
  repeat' first | apply And.intro | split
  all_goals simp

/-- What `noteSensor` leaves unchanged. -/
@[simp] theorem noteSensor_frame (s : State) :
    (noteSensor s).pending = s.pending ∧ (noteSensor s).ticks = s.ticks ∧ (noteSensor s).pins = s.pins ∧
    (noteSensor s).nvm = s.nvm ∧ (noteSensor s).peers = s.peers ∧ (noteSensor s).latest = s.latest ∧
    (noteSensor s).port = s.port ∧ (noteSensor s).cap = s.cap ∧ (noteSensor s).dem = s.dem ∧
    (noteSensor s).steer = s.steer ∧ (noteSensor s).bridge = s.bridge ∧ (noteSensor s).winch = s.winch ∧
    (noteSensor s).pack = s.pack ∧ (noteSensor s).share = s.share ∧ (noteSensor s).lamp = s.lamp := by
  unfold noteSensor
  try dsimp only
  repeat' first | apply And.intro | split
  all_goals simp

/-- What `packQuiet` leaves unchanged. -/
@[simp] theorem packQuiet_frame (s : State) :
    (packQuiet s).pending = s.pending ∧ (packQuiet s).ticks = s.ticks ∧ (packQuiet s).pins = s.pins ∧
    (packQuiet s).nvm = s.nvm ∧ (packQuiet s).ctl = s.ctl ∧ (packQuiet s).peers = s.peers ∧
    (packQuiet s).latest = s.latest ∧ (packQuiet s).port = s.port ∧ (packQuiet s).cap = s.cap ∧
    (packQuiet s).dem = s.dem ∧ (packQuiet s).steer = s.steer ∧ (packQuiet s).bridge = s.bridge ∧
    (packQuiet s).winch = s.winch ∧ (packQuiet s).share = s.share ∧ (packQuiet s).lamp = s.lamp ∧
    (packQuiet s).log = s.log := by
  unfold packQuiet
  try dsimp only
  repeat' first | apply And.intro | split
  all_goals simp

/-! ### Records -/

/-- What `demandReact` leaves unchanged. -/
@[simp] theorem demandReact_frame (b : Bool) (s : State) :
    (demandReact b s).pending = s.pending ∧ (demandReact b s).ticks = s.ticks ∧ (demandReact b s).pins = s.pins ∧
    (demandReact b s).nvm = s.nvm ∧ (demandReact b s).peers = s.peers ∧ (demandReact b s).cap = s.cap ∧
    (demandReact b s).dem = s.dem ∧ (demandReact b s).share = s.share ∧ (demandReact b s).log = s.log ∧
    (demandReact b s).latest.demand = s.latest.demand ∧ (demandReact b s).latest.allowance = s.latest.allowance ∧
    (demandReact b s).latest.ageFront = s.latest.ageFront ∧ (demandReact b s).latest.ageRear = s.latest.ageRear ∧
    (demandReact b s).latest.ageLamp = s.latest.ageLamp ∧ (demandReact b s).latest.source = s.latest.source := by
  unfold demandReact
  try dsimp only
  repeat' first | apply And.intro | split
  all_goals simp

/-- What `noteDemandLost` leaves unchanged. -/
@[simp] theorem noteDemandLost_frame (a b : Band) (s : State) :
    (noteDemandLost a b s).pending = s.pending ∧ (noteDemandLost a b s).ticks = s.ticks ∧
    (noteDemandLost a b s).pins = s.pins ∧ (noteDemandLost a b s).nvm = s.nvm ∧ (noteDemandLost a b s).ctl = s.ctl ∧
    (noteDemandLost a b s).peers = s.peers ∧ (noteDemandLost a b s).latest = s.latest ∧
    (noteDemandLost a b s).port = s.port ∧ (noteDemandLost a b s).cap = s.cap ∧ (noteDemandLost a b s).dem = s.dem ∧
    (noteDemandLost a b s).steer = s.steer ∧ (noteDemandLost a b s).bridge = s.bridge ∧
    (noteDemandLost a b s).winch = s.winch ∧ (noteDemandLost a b s).pack = s.pack ∧
    (noteDemandLost a b s).share = s.share ∧ (noteDemandLost a b s).lamp = s.lamp := by
  unfold noteDemandLost
  try dsimp only
  repeat' first | apply And.intro | split
  all_goals simp

/-- What `noteConflict` leaves unchanged. -/
@[simp] theorem noteConflict_frame (p : Publisher) (s : State) :
    (noteConflict p s).pending = s.pending ∧ (noteConflict p s).ticks = s.ticks ∧ (noteConflict p s).pins = s.pins ∧
    (noteConflict p s).nvm = s.nvm ∧ (noteConflict p s).peers = s.peers ∧ (noteConflict p s).latest = s.latest ∧
    (noteConflict p s).cap = s.cap ∧ (noteConflict p s).dem = s.dem ∧ (noteConflict p s).steer = s.steer ∧
    (noteConflict p s).bridge = s.bridge ∧ (noteConflict p s).winch = s.winch ∧ (noteConflict p s).pack = s.pack ∧
    (noteConflict p s).share = s.share ∧ (noteConflict p s).lamp = s.lamp := by
  unfold noteConflict
  try dsimp only
  repeat' first | apply And.intro | split
  all_goals simp

/-! ### Capture -/

/-- What `evalLink` leaves unchanged. -/
@[simp] theorem evalLink_frame (s : State) :
    (evalLink s).pending = s.pending ∧ (evalLink s).ticks = s.ticks ∧ (evalLink s).pins = s.pins ∧
    (evalLink s).nvm = s.nvm ∧ (evalLink s).ctl = s.ctl ∧ (evalLink s).peers = s.peers ∧
    (evalLink s).latest = s.latest ∧ (evalLink s).port = s.port ∧ (evalLink s).cap = s.cap ∧
    (evalLink s).steer = s.steer ∧ (evalLink s).bridge = s.bridge ∧ (evalLink s).winch = s.winch ∧
    (evalLink s).pack = s.pack ∧ (evalLink s).share = s.share ∧ (evalLink s).lamp = s.lamp ∧
    (evalLink s).log = s.log := by
  unfold evalLink
  try dsimp only
  repeat' first | apply And.intro | split
  all_goals simp

/-- What `armingRule` leaves unchanged. -/
@[simp] theorem armingRule_frame (s : State) :
    (armingRule s).pending = s.pending ∧ (armingRule s).ticks = s.ticks ∧ (armingRule s).pins = s.pins ∧
    (armingRule s).nvm = s.nvm ∧ (armingRule s).ctl = s.ctl ∧ (armingRule s).peers = s.peers ∧
    (armingRule s).latest = s.latest ∧ (armingRule s).port = s.port ∧ (armingRule s).cap = s.cap ∧
    (armingRule s).steer = s.steer ∧ (armingRule s).bridge = s.bridge ∧ (armingRule s).winch = s.winch ∧
    (armingRule s).pack = s.pack ∧ (armingRule s).share = s.share ∧ (armingRule s).lamp = s.lamp ∧
    (armingRule s).log = s.log := by
  unfold armingRule
  try dsimp only
  repeat' first | apply And.intro | split
  all_goals simp

/-- What `channelEvent` leaves unchanged. -/
@[simp] theorem channelEvent_frame (c : Nat) (s : State) :
    (channelEvent c s).pending = s.pending ∧ (channelEvent c s).ticks = s.ticks ∧ (channelEvent c s).pins = s.pins ∧
    (channelEvent c s).nvm = s.nvm ∧ (channelEvent c s).ctl = s.ctl ∧ (channelEvent c s).peers = s.peers ∧
    (channelEvent c s).latest = s.latest ∧ (channelEvent c s).port = s.port ∧ (channelEvent c s).cap = s.cap ∧
    (channelEvent c s).steer = s.steer ∧ (channelEvent c s).bridge = s.bridge ∧ (channelEvent c s).winch = s.winch ∧
    (channelEvent c s).pack = s.pack ∧ (channelEvent c s).share = s.share ∧ (channelEvent c s).lamp = s.lamp ∧
    (channelEvent c s).log = s.log := by
  unfold channelEvent
  try dsimp only
  repeat' first | apply And.intro | split
  all_goals simp

/-- What `putChannel` leaves unchanged. -/
@[simp] theorem putChannel_frame (c : Nat) (r : Channel) (s : State) :
    (putChannel c r s).pending = s.pending ∧ (putChannel c r s).ticks = s.ticks ∧ (putChannel c r s).pins = s.pins ∧
    (putChannel c r s).nvm = s.nvm ∧ (putChannel c r s).ctl = s.ctl ∧ (putChannel c r s).peers = s.peers ∧
    (putChannel c r s).latest = s.latest ∧ (putChannel c r s).port = s.port ∧ (putChannel c r s).dem = s.dem ∧
    (putChannel c r s).steer = s.steer ∧ (putChannel c r s).bridge = s.bridge ∧ (putChannel c r s).winch = s.winch ∧
    (putChannel c r s).pack = s.pack ∧ (putChannel c r s).share = s.share ∧ (putChannel c r s).lamp = s.lamp ∧
    (putChannel c r s).log = s.log := by
  unfold putChannel
  try dsimp only
  repeat' first | apply And.intro | split
  all_goals simp

/-- What `rejectWidth` leaves unchanged. -/
@[simp] theorem rejectWidth_frame (s : State) :
    (rejectWidth s).pending = s.pending ∧ (rejectWidth s).ticks = s.ticks ∧ (rejectWidth s).pins = s.pins ∧
    (rejectWidth s).nvm = s.nvm ∧ (rejectWidth s).ctl = s.ctl ∧ (rejectWidth s).peers = s.peers ∧
    (rejectWidth s).latest = s.latest ∧ (rejectWidth s).port = s.port ∧ (rejectWidth s).dem = s.dem ∧
    (rejectWidth s).steer = s.steer ∧ (rejectWidth s).bridge = s.bridge ∧ (rejectWidth s).winch = s.winch ∧
    (rejectWidth s).pack = s.pack ∧ (rejectWidth s).share = s.share ∧ (rejectWidth s).lamp = s.lamp ∧
    (rejectWidth s).log = s.log := by
  unfold rejectWidth
  try dsimp only
  repeat' first | apply And.intro | split
  all_goals simp

/-- What `judgeWidth` leaves unchanged. -/
@[simp] theorem judgeWidth_frame (c w : Nat) (l : Bool) (s : State) :
    (judgeWidth c w l s).pending = s.pending ∧ (judgeWidth c w l s).ticks = s.ticks ∧
    (judgeWidth c w l s).pins = s.pins ∧ (judgeWidth c w l s).nvm = s.nvm ∧ (judgeWidth c w l s).ctl = s.ctl ∧
    (judgeWidth c w l s).peers = s.peers ∧ (judgeWidth c w l s).latest = s.latest ∧
    (judgeWidth c w l s).port = s.port ∧ (judgeWidth c w l s).steer = s.steer ∧
    (judgeWidth c w l s).bridge = s.bridge ∧ (judgeWidth c w l s).winch = s.winch ∧
    (judgeWidth c w l s).pack = s.pack ∧ (judgeWidth c w l s).share = s.share ∧ (judgeWidth c w l s).lamp = s.lamp ∧
    (judgeWidth c w l s).log = s.log := by
  unfold judgeWidth
  try dsimp only
  repeat' first | apply And.intro | split
  all_goals simp

/-- What `advanceHistory` leaves unchanged. -/
@[simp] theorem advanceHistory_frame (s : State) :
    (advanceHistory s).pending = s.pending ∧ (advanceHistory s).ticks = s.ticks ∧ (advanceHistory s).pins = s.pins ∧
    (advanceHistory s).nvm = s.nvm ∧ (advanceHistory s).ctl = s.ctl ∧ (advanceHistory s).peers = s.peers ∧
    (advanceHistory s).latest = s.latest ∧ (advanceHistory s).port = s.port ∧ (advanceHistory s).cap = s.cap ∧
    (advanceHistory s).steer = s.steer ∧ (advanceHistory s).bridge = s.bridge ∧ (advanceHistory s).winch = s.winch ∧
    (advanceHistory s).pack = s.pack ∧ (advanceHistory s).share = s.share ∧ (advanceHistory s).lamp = s.lamp ∧
    (advanceHistory s).log = s.log := by
  unfold advanceHistory
  try dsimp only
  repeat' first | apply And.intro | split
  all_goals simp

/-! ### Station -/

/-- What `queueStation` leaves unchanged. -/
@[simp] theorem queueStation_frame (s : State) :
    (queueStation s).pending = s.pending ∧ (queueStation s).ticks = s.ticks ∧ (queueStation s).pins = s.pins ∧
    (queueStation s).nvm = s.nvm ∧ (queueStation s).peers = s.peers ∧ (queueStation s).latest = s.latest ∧
    (queueStation s).cap = s.cap ∧ (queueStation s).dem = s.dem ∧ (queueStation s).steer = s.steer ∧
    (queueStation s).bridge = s.bridge ∧ (queueStation s).winch = s.winch ∧ (queueStation s).pack = s.pack ∧
    (queueStation s).share = s.share ∧ (queueStation s).lamp = s.lamp ∧ (queueStation s).log = s.log := by
  unfold queueStation
  try dsimp only
  repeat' first | apply And.intro | split
  all_goals simp

end Sys2Proof.Machine
end

