-- ==== Sys2Proof/Laws/Settings.lean ====
section
/-! SUPPORT. The settings table: reading after writing, what a revert leaves alone, and the defaults (R166, R169). -/

namespace Sys2Proof.Machine

@[simp] theorem settingAt_set_self (t : Settings) (v : Int) {id : Nat} (h : id < t.length) :
    settingAt (t.set id v) id = v := by
  simp [settingAt, h]

theorem settingAt_set_of_ne (t : Settings) (v : Int) {id k : Nat} (h : k ≠ id) :
    settingAt (t.set id v) k = settingAt t k := by
  simp [settingAt, Ne.symm h]

@[simp] theorem revertRows_length (rows : List SettingRow) (t : Settings) : (revertRows rows t).length = t.length := by
  induction rows generalizing t with
  | nil => rfl
  | cons r rest ih => simpa [revertRows] using ih (t.set r.id r.dflt)

/-- An item that no reverted row names keeps its value. -/
theorem settingAt_revertRows_of_not_mem (rows : List SettingRow) (t : Settings) {k : Nat}
    (h : ∀ r ∈ rows, r.id ≠ k) : settingAt (revertRows rows t) k = settingAt t k := by
  induction rows generalizing t with
  | nil => rfl
  | cons r rest ih =>
    have hr : k ≠ r.id := Ne.symm (h r (by simp))
    have := ih (t.set r.id r.dflt) fun q hq => h q (by simp [hq])
    simpa [revertRows, settingAt_set_of_ne t r.dflt hr] using this

@[simp] theorem defaultSettings_length : defaultSettings.length = settingPlaces := by simp [defaultSettings]

@[simp] theorem storedItems_length (t : Settings) : (storedItems t).length = settingPlaces := by simp [storedItems]

/-- A row found by its id has that id. -/
theorem settingRow_id {id : Nat} {r : SettingRow} (h : settingRow id = some r) : r.id = id := by
  simpa using List.find?_some h

/-- No row of section 10.6 lies beyond the places of a table. -/
theorem settingRow_lt {id : Nat} {r : SettingRow} (h : settingRow id = some r) : id < settingPlaces := by
  have hr := settingRow_id h
  have hm : r ∈ settingRows := List.mem_of_find?_eq_some h
  have hall : ∀ q ∈ settingRows, q.id < settingPlaces := by decide
  exact hr ▸ hall r hm

set_option maxRecDepth 20000 in
/-- The defaults lie in their ranges and pass every cross-item check (section 10.6). -/
theorem settingsValid_default : settingsValid defaultSettings = true := by decide

end Sys2Proof.Machine
end

