-- ==== Sys2Proof/Laws/Specs.lean ====
section
/-! SUPPORT. What each shared operation does, said once: arithmetic, the tables kept by address, the transmit queue,
the Incident List, the conditions, the allocation of one tier, staging, fading, reception of a clean frame, the
capture timer, sensed currents, the recessive count, a split that begins, the brake at an end of the line, the events of a
tick, and what a step keeps. -/

namespace Sys2Proof.Machine

/-! ### Arithmetic -/

theorem satSucc_le (top n : Nat) : satSucc top n ≤ top := Nat.min_le_right _ _

theorem le_satSucc {top n : Nat} (h : n ≤ top) : n ≤ satSucc top n := by
  simp only [satSucc]; omega

theorem limitTo_mem {lo hi : Int} (h : lo ≤ hi) (x : Int) : lo ≤ limitTo lo hi x ∧ limitTo lo hi x ≤ hi := by
  simp only [limitTo]; omega

theorem limitTo_of_mem {lo hi x : Int} (h : lo ≤ x) (h' : x ≤ hi) : limitTo lo hi x = x := by
  simp only [limitTo]; omega

/-- One step toward a target moves by at most the step and never past the target. -/
theorem moveToward_spec {step : Int} (hs : 0 ≤ step) (x target : Int) :
    (moveToward step x target - x).natAbs ≤ step.toNat ∧
      (moveToward step x target = target ∨
        (moveToward step x target - target).natAbs + step.toNat = (x - target).natAbs) := by
  simp only [moveToward]
  split
  · exact ⟨by assumption, .inl rfl⟩
  · split
    · exact ⟨by omega, .inr (by omega)⟩
    · exact ⟨by omega, .inr (by omega)⟩

/-! ### Tables kept by address -/

@[simp] theorem Peers.at_put_self (p : Peers) (r : Role) (e : Peer) : (p.put r e).at r = e := by cases r <;> rfl

theorem Peers.at_put_of_ne (p : Peers) {r q : Role} (e : Peer) (h : q ≠ r) : (p.put r e).at q = p.at q := by
  cases r <;> cases q <;> first | rfl | exact absurd rfl h

@[simp] theorem Peers.at_map (p : Peers) (f : Peer → Peer) (r : Role) : (p.map f).at r = f (p.at r) := by
  cases r <;> rfl

@[simp] theorem Latest.ageOf_putAge_self (l : Latest) (p : Publisher) (a : Option Nat) : (l.putAge p a).ageOf p = a := by
  cases p <;> rfl

theorem Latest.ageOf_putAge_of_ne (l : Latest) {p q : Publisher} (a : Option Nat) (h : q ≠ p) :
    (l.putAge p a).ageOf q = l.ageOf q := by
  cases p <;> cases q <;> first | rfl | exact absurd rfl h

@[simp] theorem Latest.putAge_frame (l : Latest) (p : Publisher) (a : Option Nat) :
    (l.putAge p a).demand = l.demand ∧ (l.putAge p a).allowance = l.allowance ∧ (l.putAge p a).winch = l.winch ∧
      (l.putAge p a).source = l.source := by
  cases p <;> exact ⟨rfl, rfl, rfl, rfl⟩

@[simp] theorem Slots.at_put_self (q : Slots) (t : TxTopic) (f : Option (List Byte)) : (q.put t f).at t = f := by
  cases t <;> rfl

theorem Slots.at_put_of_ne (q : Slots) {t u : TxTopic} (f : Option (List Byte)) (h : u ≠ t) :
    (q.put t f).at u = q.at u := by
  cases t <;> cases u <;> first | rfl | exact absurd rfl h

/-! ### The transmit queue (R160, R161) -/

/-- Queuing on a port that is not idle fills the topic's slot and changes nothing else (R160). -/
theorem queueFrame_of_busy (t : TxTopic) (d : List Byte) (s : State) (h : s.port.port ≠ .idle) :
    queueFrame t d s = s.setPort { s.port with slots := s.port.slots.put t (some d) } := by
  simp [queueFrame, h]

/-- A port with an empty queue starts no Lead (R155). -/
theorem startSend_none (s : State) (h : s.port.slots.first = none) : startSend s = s := by
  simp [startSend, h]

/-- A frame that leaves the shift buffer unsent fills its slot unless a newer one stands there or it was withdrawn
(R161). -/
theorem handBack_slots (p : BusPort) (b : Shift) (h : p.shift = some b) :
    (handBack p).shift = none ∧
      (handBack p).slots =
        if (p.slots.at b.topic).isSome || b.withdrawn then p.slots else p.slots.put b.topic (some b.data) := by
  simp only [handBack, h]
  split <;> simp

/-! ### The Incident List (R163) -/

theorem IncidentLog.append_length {l : IncidentLog} (h : l.entries.length ≤ 8) (c : IncidentCode) (d : Half) :
    (l.append c d).entries.length ≤ 8 := by
  simp only [IncidentLog.append, List.length_append, List.length_cons, List.length_nil]
  split
  · omega
  · simp only [List.length_drop]; omega

@[simp] theorem IncidentLog.append_clock (l : IncidentLog) (c : IncidentCode) (d : Half) :
    (l.append c d).clock = l.clock := rfl

theorem IncidentLog.append_last (l : IncidentLog) (c : IncidentCode) (d : Half) :
    (l.append c d).entries.getLast? = some ⟨c, l.clock, d⟩ := by
  simp [IncidentLog.append]

/-- An entry after an append was there before, or is the one just made. -/
theorem IncidentLog.mem_append {l : IncidentLog} {c : IncidentCode} {d : Half} {e : Incident}
    (h : e ∈ (l.append c d).entries) : e ∈ l.entries ∨ e = ⟨c, l.clock, d⟩ := by
  simp only [IncidentLog.append, List.mem_append, List.mem_singleton] at h
  rcases h with h | h
  · split at h
    · exact .inl h
    · exact .inl (List.mem_of_mem_drop h)
  · exact .inr h

/-! ### Roles and states read through the controller alone -/

theorem roleIs_congr {s t : State} (h : t.ctl.role = s.ctl.role) (r : Role) : roleIs t r = roleIs s r := by
  simp [roleIs, h]

theorem inRun_congr {s t : State} (h : t.ctl.station = s.ctl.station) : inRun t = inRun s := by simp [inRun, h]

/-! ### FAILSAFE and DEMAND-HOLD (R8, R10) -/

/-- The evaluation writes the two conditions in RUN and nothing else. -/
theorem evalConditions_ctl (s : State) :
    (evalConditions s).ctl =
      if inRun s then { s.ctl with failsafe := failsafeCause s, demandHold := holdCause s } else s.ctl := by
  simp only [evalConditions]; split <;> rfl

theorem hold_not_failsafe (s : State) : (failsafeCause s && holdCause s) = false := by
  simp only [holdCause]
  cases failsafeCause s <;> simp

@[simp] theorem evalConditions_kept (s : State) :
    (evalConditions s).ctl.station = s.ctl.station ∧ (evalConditions s).ctl.role = s.ctl.role ∧
      (evalConditions s).ctl.radio = s.ctl.radio ∧ (evalConditions s).ctl.isolated = s.ctl.isolated ∧
      (evalConditions s).ctl.faults = s.ctl.faults ∧ (evalConditions s).ctl.held = s.ctl.held ∧
      (evalConditions s).ctl.working = s.ctl.working ∧ (evalConditions s).ctl.commit = s.ctl.commit := by
  rw [evalConditions_ctl]; split <;> simp

/-- After the hand-on of a DEMAND the controller is what the evaluation of the conditions gives (R10, R16). -/
theorem demandReact_ctl (b : Bool) (s : State) : (demandReact b s).ctl = (evalConditions s).ctl := by
  simp [demandReact]

/-- Quietness moves the quiet timer alone (R36). -/
theorem packQuiet_pack (s : State) : ∃ q, (packQuiet s).pack = { s.pack with quietTimer := q } := by
  simp only [packQuiet]
  split
  · exact ⟨_, rfl⟩
  · exact ⟨s.pack.quietTimer, rfl⟩

/-- A DEMAND's hand-on moves the pack monitor's quiet timer alone (R36). -/
theorem demandReact_pack (b : Bool) (s : State) : ∃ q, (demandReact b s).pack = { s.pack with quietTimer := q } := by
  obtain ⟨q, h⟩ := packQuiet_pack (winchReact b (bridgeReact b (steerReact b (evalConditions s))))
  exact ⟨q, by simpa [demandReact] using h⟩

/-! ### The allocation of one tier (R55) -/

/-- A tier's grant with the remainder after it never exceeds the remainder before it. -/
theorem allocateTier_le {r own sum : Nat} (h : own ≤ sum) :
    (allocateTier r own sum).1 ≤ own ∧ (allocateTier r own sum).1 + (allocateTier r own sum).2 ≤ r := by
  simp only [allocateTier]
  split
  · exact ⟨Nat.le_refl _, by simp only; omega⟩
  · rename_i hs
    have h1 : own * r / sum ≤ own := Nat.div_le_of_le_mul (by
      rw [Nat.mul_comm sum own]; exact Nat.mul_le_mul_left own (by omega))
    have h2 : own * r / sum ≤ r := Nat.div_le_of_le_mul (Nat.mul_le_mul_right r h)
    exact ⟨h1, by simpa using h2⟩

/-! ### Staging, fading, alignment (R84, R138, R140) -/

/-- What staging gives: the request becomes active, or pending, or is dropped (R84, R99). -/
theorem stage_cases (request active : Nat) (pending : Option Nat) (magnitude band : Nat) :
    (2 < request ∧ stage request active pending magnitude band = (active, pending)) ∨
      (request ≤ 2 ∧ request = active ∧ stage request active pending magnitude band = (active, none)) ∨
      (request ≤ 2 ∧ request ≠ active ∧ magnitude ≤ band ∧
        stage request active pending magnitude band = (request, none)) ∨
      (request ≤ 2 ∧ request ≠ active ∧ band < magnitude ∧
        stage request active pending magnitude band = (active, some request)) := by
  by_cases h1 : 2 < request
  · exact .inl ⟨h1, by simp [stage, h1]⟩
  by_cases h2 : request = active
  · exact .inr (.inl ⟨by omega, h2, by subst h2; simp [stage, h1]⟩)
  by_cases h3 : magnitude ≤ band
  · exact .inr (.inr (.inl ⟨by omega, h2, h3, by simp [stage, h1, h2, h3]⟩))
  · exact .inr (.inr (.inr ⟨by omega, h2, by omega, by simp [stage, h1, h2, h3]⟩))

theorem fadeLevel_self (step x : Nat) : fadeLevel step x x = x := by simp [fadeLevel]

/-! ### Reception (R150, R151) -/

/-- A frame of at most eight data bytes that comes in as it was sent is intact. -/
theorem receive_cleanRx (first : Byte) (source : BitVec 4) (data : List Byte) (h : data.length ≤ 8) :
    receive first (cleanRx first source data) data = .intact data := by
  have hn : (BitVec.ofNat 4 data.length).toNat = data.length := by
    rw [BitVec.toNat_ofNat]; exact Nat.mod_eq_of_lt (by omega)
  have hf : ∀ m, m ≤ 3 + data.length →
      framed m (List.replicate (3 + data.length) (CharBits.mk Level.dominant Level.recessive)) = true := by
    intro m hm
    simp [framed, hm, charAccepted]
  have h8 : ¬ 8 < data.length := by omega
  simp [receive, cleanRx, hn, hf 2 (by omega), hf (3 + data.length) (by omega), paceGood, h8]

/-! ### The capture timer (R65) -/

/-- What a move of the timer leaves: it adds the distance, and touches nothing else but the long flags. -/
@[simp] theorem moveTimer_frame (d : Nat) (c : Capture) :
    (moveTimer d c).timer = c.timer + BitVec.ofNat 16 d ∧ (moveTimer d c).channels = c.channels ∧
      (moveTimer d c).rejected = c.rejected ∧ (moveTimer d c).ahead = c.ahead ∧
      (moveTimer d c).opened.length = c.opened.length := by
  simp [moveTimer]

/-- An open measurement after a move of the timer keeps its start; its long flag is set where the timer passed it. -/
theorem moveTimer_opened (d : Nat) (c : Capture) (k : Nat) :
    (moveTimer d c).opened.getD k none = (c.opened.getD k none).map (passMeasure c.timer d) := by
  simp only [moveTimer, List.getD_eq_getElem?_getD, List.getElem?_map]
  cases c.opened[k]? <;> rfl

/-- At an edge the timer is its stamp. -/
@[simp] theorem stampTimer_timer (stamp : Half) (s : State) : (stampTimer stamp s).cap.timer = stamp := by
  simp only [stampTimer, stampCapture, moveTimer, State.setCap_cap, BitVec.ofNat_toNat, BitVec.setWidth_eq]
  exact (BitVec.add_comm _ _).trans (BitVec.sub_add_cancel _ _)

/-- A stamp touches the capture unit alone. -/
theorem stampTimer_eq (stamp : Half) (s : State) : stampTimer stamp s = s.setCap (stampTimer stamp s).cap := rfl

/-! ### Sensed currents, the recessive count (R34, R105, R106, R155) -/

theorem exceeds_iff (i : Current) (limit : Nat) :
    exceeds i limit = true ↔ limit < i.whole ∨ (i.whole = limit ∧ i.above = true) := by
  simp [exceeds]

theorem countQuiet_le (steps : Nat) (p : BusPort) : (countQuiet steps p).recessive ≤ 10 := Nat.min_le_left _ _

/-- What a ms does to the port: the recessive count alone moves, and in WAIT-IDLE it comes to 10 from any value above 0,
and to 1 or more from 0. -/
theorem tickPort_spec (t : Nat) (p : BusPort) :
    tickPort t p = { p with recessive := (tickPort t p).recessive } ∧
      (p.port ≠ .waitIdle ∨ p.stuckCounted = true → tickPort t p = p) ∧
      (p.port = .waitIdle → p.stuckCounted = false →
        (0 < p.recessive → (tickPort t p).recessive = 10) ∧
          (p.recessive = 0 → 1 ≤ (tickPort t p).recessive ∧ (tickPort t p).recessive ≤ 10)) := by
  unfold tickPort
  refine ⟨by split <;> rfl, ?_, ?_⟩
  · rintro (h | h) <;> simp [h]
  · intro h h'
    simp only [h, h', countQuiet, beq_self_eq_true, Bool.not_false, Bool.and_self, if_true]
    exact ⟨fun hr => by simp only [Nat.ne_of_gt hr, if_false]; omega, fun hr => by simp only [hr, if_true]; omega⟩

/-! ### The beginning of a split (R86, R172) -/

/-- A split that begins sets BANK-SPLIT and records it, or, on a FRONT bank out of range alone, does neither. -/
theorem noteSplit_cases (s : State) :
    (2 < frontBank s ∧ noteSplit s = s) ∨
      noteSplit s = record .bankSplit 0 (setFaults { s.ctl.faults with bankSplit := true } s) := by
  unfold noteSplit
  split
  · rename_i h
    simp only [Bool.and_eq_true, decide_eq_true_eq] at h
    exact .inl ⟨h.1, rfl⟩
  · exact .inr rfl

/-! ### The brake at an end of the line (R96, R125) -/

/-- Where the gates drive past an end of the line the output takes the shadow at once; elsewhere nothing changes. -/
theorem brakeAtEnd_cases (s : State) :
    (drivesPastEnd s = true ∧
        brakeAtEnd s = s.setBridge { s.bridge with applied := s.bridge.shadow, cut := false }) ∨
      (drivesPastEnd s = false ∧ brakeAtEnd s = s) := by
  cases h : drivesPastEnd s
  · exact .inr ⟨rfl, by simp [brakeAtEnd, h]⟩
  · exact .inl ⟨rfl, by simp [brakeAtEnd, h, brakeGates]⟩

/-- After it the gates drive past no end of the line, if the shadow does not. -/
theorem brakeAtEnd_safe {s : State} (hin : homeActive s = true → s.bridge.shadow.state ≠ .driveFwd)
    (hout : atLineEnd s = true → s.bridge.shadow.state ≠ .driveRev) : drivesPastEnd (brakeAtEnd s) = false := by
  rcases brakeAtEnd_cases s with ⟨-, h⟩ | ⟨hs, h⟩
  · rw [h]
    have e1 : homeActive (s.setBridge { s.bridge with applied := s.bridge.shadow, cut := false }) = homeActive s := rfl
    have e2 : atLineEnd (s.setBridge { s.bridge with applied := s.bridge.shadow, cut := false }) = atLineEnd s := rfl
    simp only [drivesPastEnd, e1, e2, State.setBridge_bridge, Bool.or_eq_false_iff, Bool.and_eq_false_iff, beq_eq_false_iff_ne]
    refine ⟨?_, ?_⟩
    · cases hh : homeActive s
      · exact .inl rfl
      · exact .inr (hin hh)
    · cases hh : atLineEnd s
      · exact .inl rfl
      · exact .inr (hout hh)
  · rw [h]; exact hs

/-! ### A pulse ends within its own frame (R91) -/

/-- An event of a tick comes alone, but for a frame start, which comes right after the pulse end. -/
theorem pulseFirst_cases (e : Nat × Instr) :
    (e.2 = .servoFrameTimerExpiry ∧ pulseFirst e = [(e.1, .servoPulseEnd), e]) ∨
      (e.2 ≠ .servoFrameTimerExpiry ∧ pulseFirst e = [e]) := by
  obtain ⟨k, c⟩ := e
  cases c <;> first | exact .inl ⟨rfl, rfl⟩ | exact .inr ⟨by simp, rfl⟩

/-! ### What a step keeps -/

theorem thenRun_next {o : Host.Outcome State Fault Refusal} {f : State → Host.Outcome State Fault Refusal} {t : State}
    (h : thenRun o f = .next t) : ∃ u, o = .next u ∧ f u = .next t := by
  cases o with
  | next u => exact ⟨u, rfl, h⟩
  | fault e => cases h
  | refused r => cases h

/-- A rule that every command keeps is kept by every list of events. -/
theorem runDue_keeps {inv : State → Prop} (hexec : ∀ c s t, inv s → exec c s = .next t → inv t) :
    ∀ (events : List (Nat × Instr)) (s t : State), inv s → runDue events s = .next t → inv t
  | [], s, t, hs, h => by cases h; exact hs
  | e :: rest, s, t, hs, h => by
    simp only [runDue] at h
    split at h
    · obtain ⟨u, hu, ht⟩ := thenRun_next h
      exact runDue_keeps hexec rest u t (hexec _ _ _ hs hu) ht
    · exact runDue_keeps hexec rest s t hs h

/-- A rule that every command and both advances of time keep is kept by the tick. -/
theorem tick_keeps {inv : State → Prop} (hexec : ∀ c s t, inv s → exec c s = .next t → inv t)
    (htimers : ∀ s, inv s → inv (advanceTimers s)) (hages : ∀ s, inv s → inv (advanceAges s)) {s t : State}
    (hs : inv s) (h : tick s = .next t) : inv t := by
  simp only [tick] at h
  split at h
  · cases h; exact hs
  · obtain ⟨u, hu, h⟩ := thenRun_next h
    obtain ⟨v, hv, h⟩ := thenRun_next h
    have hi := runDue_keeps hexec _ _ _ (htimers s hs) hu
    exact runDue_keeps hexec _ _ _ (runDue_keeps hexec _ _ _ (hages u hi) hv) h

/-- A rule that every command, both advances of time and the taking of a command from the queue keep is kept by every
step. -/
theorem step_keeps {inv : State → Prop} (hexec : ∀ c s t, inv s → exec c s = .next t → inv t)
    (htimers : ∀ s, inv s → inv (advanceTimers s)) (hages : ∀ s, inv s → inv (advanceAges s))
    (hqueue : ∀ s rest, inv s → inv { s with pending := rest }) {s t : State} (hs : inv s) (h : step s = .next t) :
    inv t := by
  simp only [step] at h
  split at h
  · exact hexec _ _ _ (hqueue _ _ hs) h
  · exact tick_keeps hexec htimers hages hs h

end Sys2Proof.Machine
end

