-- ==== Sys2Proof/WellFormed.lean ====
section
/-! DEFINITION. The checks on a command's operands. A well-formed command is one whose operands have the shape the
event's row gives them; `exec` is total and gives every other command a meaning too (log 5). -/

namespace Sys2Proof

/-- The first identifier bytes of the topics of chapter 11.1. -/
def knownFirstBytes : List Byte :=
  [0x01, 0x02, 0x21, 0x41, 0x61, 0x81, 0x82, 0x83, 0x84, 0x85, 0x86]

/-- The data bytes are as many as the length field says, and at most 8 (R146). -/
def Rx.carries (rx : Rx) (n : Nat) : Bool := rx.length.toNat == n && decide (n ≤ 8)

/-- A frame whose length field is above 8 is abandoned at the end of identifier byte 2 (R150): it has no data bytes. -/
def Rx.shaped (rx : Rx) (data : List Byte) : Bool :=
  if rx.length.toNat ≤ 8 then rx.carries data.length else data.isEmpty

/-- One byte stands in each place but the last; a frame that ends earlier leaves the places from there on empty. -/
def inPlaces : List (List Byte) → Bool
  | [] | [_] => true
  | place :: rest => (place.length == 1 || (place.isEmpty && rest.all List.isEmpty)) && inPlaces rest

/-- An item kind that no row of the table of R165 names. -/
def kindUnknown (kind : Byte) : Bool := kind == 0 || decide (10 < kind.toNat)

/-- The operands have the shape the row of the command gives them. -/
def Instr.wellFormed : Instr → Bool
  | .stationFrame rx d | .demandFrame rx d | .allowanceFrame rx d | .winchFrame rx d | .tripFrame rx d
  | .answerFrame rx d => rx.shaped d
  | .unknownTopicFrame b rx d => rx.shaped d && !knownFirstBytes.contains b
  | .hold rx d | .release rx d | .restart rx d _ => rx.shaped d
  | .setting rx target id value => rx.shaped (target ++ id ++ value) && inPlaces [target, id, value]
  | .fetchSummary rx target index => rx.shaped (target :: 1 :: index)
  | .fetchPeer rx target index => rx.shaped (target :: 2 :: index)
  | .fetchIncident rx target index => rx.shaped (target :: 3 :: index)
  | .fetchSetting rx target index => rx.shaped (target :: 4 :: index)
  | .fetchShare rx target index => rx.shaped (target :: 5 :: index)
  | .fetchCells rx target index => rx.shaped (target :: 6 :: index)
  | .fetchCapture rx target index => rx.shaped (target :: 7 :: index)
  | .fetchWinch rx target index => rx.shaped (target :: 8 :: index)
  | .fetchBridge rx target index => rx.shaped (target :: 9 :: index)
  | .fetchScan rx target index => rx.shaped (target :: 10 :: index)
  | .fetchUnknownKind rx target kind index =>
    rx.shaped (target ++ kind ++ index) && inPlaces [target, kind, index] && kind.all kindUnknown
  | .scanCompletion scan => scan.samples.length == 10 && scan.taps.length == 4
  | .dutyStep samples => !samples.isEmpty
  | .commitEnd stored _ => stored.items.length == 138
  | .powerOnReset _ | .pinReset _ | .startTimerExpiry | .stationTimerExpiry | .demandSourceExpiry _
  | .demandRecordStale | .demandRecordLost | .allowanceRecordLost | .winchRecordLost | .peerPresenceChange _
  | .checkTimerExpiry | .cutgraceExpiry | .packTrip _ | .holdTimerExpiry | .quietTimerExpiry | .shareTimerExpiry
  | .captureEdge _ _ _ | .trainEdge _ | .longFlag _ | .channelBandChange _ | .armingTimerExpiry | .demandTimerExpiry
  | .splitTimerExpiry | .servoFrameTimerExpiry | .servoPulseEnd | .periodStart | .cycleLimit _ | .oneShotTrip _
  | .dwellTimerExpiry | .rearmTimerExpiry | .windowTimerExpiry | .drivenTimerExpiry | .hallEdge _ | .homeActivation
  | .homeRelease | .stallTimerExpiry | .starveTimerExpiry | .winchTimerExpiry | .blinkStep | .fadeTimerExpiry
  | .busIdle | .joinWindow _ | .lineStuck | .frameSendEnd _ | .shortDominantRun => true

end Sys2Proof
end

