-- ==== Sys2Proof/Tests/Slice0.lean ====
section
/-! SUPPORT. The model's own tests: operands the checks of WellFormed refuse, single commands with figures worked out in
the manual, and for each statement a state and operands that meet its hypotheses. -/

namespace Sys2Proof.Tests

set_option Elab.async false

open Sys2Proof.Machine

/-! ### Small states -/

/-- The state a command answers; the state after reset where it stops. -/
def after (o : Host.Outcome State Fault Refusal) : State :=
  match o with
  | .next s => s
  | .fault _ | .refused _ => State.reset

/-- A station in RUN with a role. -/
def running (role : BitVec 3) : State := { State.reset with ctl := { role := role, station := .run } }

/-- A station in SETUP with a role. -/
def inSetup (role : BitVec 3) : State := { State.reset with ctl := { role := role, station := .setup } }

/-- The RADIO station of a role, in RUN. -/
def radioRunning (role : BitVec 3) : State := { State.reset with ctl := { role := role, radio := true, station := .run } }

/-- The settings a block holds, with one item changed. -/
def withSetting (id : Nat) (v : Int) (s : State) : State :=
  { s with ctl := { s.ctl with held := s.ctl.held.set id v } }

/-- Eight data bytes of a DEMAND: throttle 1000, steer −500, bank 1, dig 2, command OUT, scene FULL, HOLD, armed. -/
def demandBytes : List Byte := [0x03, 0xE8, 0xFE, 0x0C, 1, 2, 0x22, 0x70]

/-- Eight data bytes of a STATION in RUN. -/
def stationBytes : List Byte := [0x80, 0, 0, 9, 1, 40, 0, 0]

/-- Six data bytes of an ALLOWANCE of 75 in LIMIT. -/
def allowanceBytes : List Byte := [75, 2, 0x0D, 0x98, 94, 68]

/-- Six data bytes of a WINCH in HAUL at tension 255. -/
def winchBytes : List Byte := [2, 255, 0, 0, 0, 0]

/-- A scan of three cells with a current and a temperature. -/
def scanOf (a b c current temp : Int) : Scan := ⟨List.replicate 10 current, [a, a + b, a + b + c, 0], temp⟩

/-! ### WellFormed refuses an ill-formed operand of every kind -/

theorem test_frame_length_refused : Instr.wellFormed (.stationFrame { cleanRx 0x61 1 stationBytes with length := 7 } stationBytes) = false := by
  decide

theorem test_long_frame_refused : Instr.wellFormed (.demandFrame { cleanRx 0x21 1 demandBytes with length := 9 } demandBytes) = false := by
  decide

theorem test_known_topic_refused : Instr.wellFormed (.unknownTopicFrame 0x61 (cleanRx 0x61 1 []) []) = false := by decide

theorem test_hold_length_refused : Instr.wellFormed (.hold (cleanRx 0x84 15 [15, 0]) [15]) = false := by decide

theorem test_setting_length_refused : Instr.wellFormed (.setting (cleanRx 0x83 15 [0]) [0] [45] [0, 20]) = false := by decide

theorem test_restart_length_refused : Instr.wellFormed (.restart (cleanRx 0x86 15 [0]) [] ⟨0, false, 0⟩) = false := by decide

theorem test_fetch_length_refused : Instr.wellFormed (.fetchShare (cleanRx 0x81 15 [0]) 0 [1]) = false := by decide

theorem test_fetch_kind_refused : Instr.wellFormed (.fetchUnknownKind (cleanRx 0x81 15 [0, 9, 0]) [0] [9] [0]) = false := by decide

theorem test_fetch_places_refused : Instr.wellFormed (.fetchUnknownKind (cleanRx 0x81 15 [0, 11, 1]) [] [0] [11, 1]) = false := by decide

/-- R153: a service frame of a length its layout does not allow is a frame like any other. -/
theorem test_wrong_length_wellFormed : Instr.wellFormed (.hold (cleanRx 0x84 15 [15, 0]) [15, 0]) = true := by decide

theorem test_scan_shape_refused : Instr.wellFormed (.scanCompletion ⟨[1, 2], [], 20⟩) = false := by decide

theorem test_duty_step_refused : Instr.wellFormed (.dutyStep []) = false := by decide

theorem test_commit_table_refused : Instr.wellFormed (.commitEnd ⟨[1], true⟩ ⟨0, false, 0⟩) = false := by decide

theorem test_frame_wellFormed : Instr.wellFormed (.stationFrame (cleanRx 0x61 1 stationBytes) stationBytes) = true := by decide

/-! ### Figures of the manual -/

/-- R151: the CRC of that polynomial and start over the ASCII digits 1 to 9 is the complement of the published DF. -/
theorem test_crc8 : crc8 [0x31, 0x32, 0x33, 0x34, 0x35, 0x36, 0x37, 0x38, 0x39] = 0x20 := by decide +kernel

/-- R146: fourteen dominant bits of Lead, six of Pace, ten for each of eleven bytes, the slot after them. -/
theorem test_lineLevels_length : (lineLevels (wireBytes 0x61 1 stationBytes)).length = 14 + 6 + 10 * 11 + 1 := by decide +kernel

/-- Section 3.5: FRONT's grants at 75 and at 50. -/
theorem test_shares_front :
    allocate 75 ⟨1, 40, 0, 0⟩ ⟨3, 96, 0, 12⟩ = ⟨1, 30, 0, 0⟩ ∧ allocate 50 ⟨1, 40, 0, 0⟩ ⟨3, 96, 0, 12⟩ = ⟨1, 19, 0, 0⟩ := by
  decide

/-- Section 3.5: LAMP's grant at 75. -/
theorem test_shares_lamp : allocate 75 ⟨0, 0, 0, 12⟩ ⟨3, 96, 0, 12⟩ = ⟨0, 0, 0, 0⟩ := by decide

/-- Section 2.7: the caps in LIMIT and the allowance of 75, then 76. -/
def limitPack : State :=
  { running 3 with pack := { state := .limit, closed := true, rampCap := 160, trim := 3, aPrev := 77 } }

theorem test_allowance_75 :
    (after (exec (.scanCompletion (scanOf 3620 3480 3510 94 68)) limitPack)).latest.allowance.allowance = 75 := by
  decide +kernel

theorem test_allowance_trim_falls :
    nextTrim { limitPack with pack := { limitPack.pack with
      trim := 5, aPrev := 75, table := { cells := [3620, 3480, 3510, 0], current := 70 } } } = 4 := by decide +kernel

/-- R34: 243 qA in NORMAL trips the pack and queues a TRIP of cause OVERCURRENT (section 2.9). -/
theorem test_packTrip :
    (after (exec (.packTrip ⟨243, false⟩) { running 3 with pack := { state := .normal, closed := true } })).port.slots.trip =
      some [5, 1] := by decide +kernel

/-- R34: a current between 240 and 241 qA is above a PackTrip of 240, and its detail is 240. -/
theorem test_packTrip_rounds :
    exceeds ⟨240, false⟩ 240 = false ∧
      (after (exec (.packTrip ⟨240, true⟩) { running 3 with pack := { state := .normal, closed := true } })).log.entries =
        [⟨.packTrip, 0, 240⟩] := by decide +kernel

/-- R72: the table of section 4.5. -/
theorem test_channelValue :
    channelValue State.reset 0 1873 = 746 ∧ channelValue State.reset 0 1488 = 0 ∧
      channelValue (withSetting 3 300 (withSetting 2 1400 State.reset)) 0 2250 = 1000 ∧
      channelValue (withSetting 5 1 State.reset) 0 1873 = -746 := by decide +kernel

/-- R73: the bank switch of section 4.5. -/
theorem test_zones :
    [nextZone .none 0, nextZone .mid 350, nextZone .mid 390, nextZone .high 300, nextZone .high 280, nextZone .mid (-340),
      nextZone .mid (-400), nextZone .low (-290), nextZone .low (-250)] =
      [.mid, .mid, .high, .high, .mid, .mid, .low, .low, .mid] := by decide

/-- R67: a rising edge at 65500 and a falling one at 1064 make 1100 us. -/
theorem test_captureEdge_wraps :
    (channelAt (after (exec (.captureEdge 2 false 1064)
      { radioRunning 0 with cap := { timer := 65500, opened := [none, none, some ⟨65500, false⟩, none, none, none] } })) 2).width =
        1100 := by decide +kernel

/-- R65, R67: an edge on CAP1 at 1000 passes the count 500 of CAP0's measurement, opened more than a turn before; the
width of 66.5 ms that CAP0 then closes is rejected, though its difference reads 1000. -/
theorem test_captureEdge_long :
    let s := after (exec (.captureEdge 1 true 1000)
      { radioRunning 0 with cap := { timer := 400, opened := [some ⟨500, false⟩, none, none, none, none, none] } })
    let t := after (exec (.captureEdge 0 false 1500) s)
    s.cap.opened.getD 0 none = some ⟨500, true⟩ ∧ t.cap.rejected = 1 ∧ (channelAt t 0).band = .none := by decide +kernel

/-- R70: an interval of 2610 us makes the frame incomplete (section 4.3). -/
theorem test_trainEdge_incomplete :
    (after (exec (.trainEdge ⟨true, 2610⟩) (withSetting 0 1
      { radioRunning 0 with cap := { train := ⟨some ⟨0, false⟩, true, 2, false⟩ } }))).cap.train =
        ⟨some ⟨2610, false⟩, true, 3, true⟩ := by decide +kernel

/-- R66: with PulsePolarity 1 a rising edge of the train is inactive, and a falling one is taken. -/
theorem test_trainEdge_polarity :
    let s := withSetting 1 1 (withSetting 0 1 { radioRunning 0 with cap := { train := ⟨some ⟨0, false⟩, true, 2, false⟩ } })
    (after (exec (.trainEdge ⟨true, 900⟩) s)).cap.train = ⟨some ⟨0, false⟩, true, 2, false⟩ ∧
      (after (exec (.trainEdge ⟨false, 900⟩) s)).cap.train = ⟨some ⟨900, false⟩, true, 3, false⟩ := by decide +kernel

/-- R65: a long flag on channel 1 leaves channel 0's measurement alone. -/
theorem test_longFlag :
    (after (exec (.longFlag 1)
      { radioRunning 0 with cap := { opened := [some ⟨1, false⟩, some ⟨2, false⟩] } })).cap.opened =
        [some ⟨1, false⟩, some ⟨2, true⟩, none, none, none, none] := by decide +kernel

/-- R90: the widths of section 5.5. -/
theorem test_servoWidths :
    servoWidth (running 0) (axleTarget 500 1000) = 1700 ∧ servoWidth (running 1) (axleTarget 500 (-800)) = 1340 ∧
      servoWidth (withSetting 43 1 (running 1)) (axleTarget 500 (-800)) = 1660 ∧
      servoWidth (running 1) (axleTarget (-333) 800) = 1394 ∧
      servoWidth (withSetting 40 700 (running 0)) (axleTarget 1000 1000) = 1900 := by decide +kernel

/-- R84: a change within CentreBand is taken at once, one outside it waits. -/
theorem test_stage : stage 2 0 none 40 60 = (2, none) ∧ stage 2 0 none 300 60 = (0, some 2) ∧ stage 3 0 (some 1) 0 60 = (0, some 1) := by
  decide

/-- R141: the LAMP station's wants of section 8.6 in scenes RUN and FULL. -/
def lampStation : State :=
  { running 4 with ctl := { (running 4).ctl with
      held := defaultSettings.take 112 ++ [1, 1, 1500, 1, 1, 1500, 9, 5, 1200, 9, 5, 1200, 3, 2, 500] ++
        defaultSettings.drop 127 } }

theorem test_lampWants :
    lampWantC lampStation (fun n => baseTarget { scene := .run } (functionOf lampStation n)) = 12 ∧
      lampWantC lampStation (fun n => baseTarget { scene := .full } (functionOf lampStation n)) = 21 := by decide +kernel

/-- R142: the shed set of section 8.7 at a grant of 6. -/
theorem test_shedSet :
    shedSet { lampStation with lamp := { lampStation.lamp with
      lamps := [{ base := 160 }, { base := 160 }, { base := 96 }, { base := 96 }, { base := 64 }], wantC := 12 } } 6 =
        [1, 4, 2, 3] := by decide +kernel

/-- R138: phases 3 apart align, phases 2 apart do not. -/
theorem test_phaseDistance : phaseDistance 101 104 = 3 ∧ phaseDistance 255 1 = 2 := by decide

/-- R140: a lamp reaches 255 from 224 with FadeStep 32. -/
theorem test_fadeLevel : fadeLevel 32 224 255 = 255 ∧ fadeLevel 32 0 255 = 32 ∧ fadeLevel 32 40 0 = 8 := by decide

/-- R105: the mean of the magnitudes, limited to 255. -/
theorem test_meanCurrent : meanCurrent [-30, 31] = 30 ∧ meanCurrent [300, 400] = 255 := by decide

/-- R127: the tension index between FreeRun 6 and StallLevel 56. -/
theorem test_tensionIndex : tensionIndex 56 6 31 = 127 ∧ tensionIndex 56 6 5 = 0 ∧ tensionIndex 56 6 56 = 255 := by decide

/-- R97: inward drive pulses the BRA high gate with BRB low on. -/
theorem test_gatePattern :
    gatePattern ⟨.driveFwd, 400, 0⟩ false = ⟨400, 0, 0, 1000⟩ ∧ gatePattern ⟨.brake, 0, 30⟩ false = ⟨0, 300, 0, 300⟩ ∧
      gatePattern ⟨.driveRev, 400, 0⟩ true = ⟨0, 1000, 0, 0⟩ := by decide

/-- R114: inward drive takes one from P, anything else adds one. -/
theorem test_hallEdge :
    (after (exec (.hallEdge 0) { running 2 with bridge := { driveState := .driveFwd } })).winch.position = -1 ∧
      (after (exec (.hallEdge 0) (running 2))).winch.position = 1 := by decide +kernel

/-- R166: a ServoRate of 5 is OUT-OF-RANGE, id 46 is UNKNOWN (section 10.8). -/
theorem test_setting_results :
    (after (exec (.setting (cleanRx 0x83 15 [0, 44, 0, 5]) [0] [44] [0, 5]) (inSetup 0))).port.slots.answer = some [15, 0x53, 44] ∧
      (after (exec (.setting (cleanRx 0x83 15 [0, 46, 0, 5]) [0] [46] [0, 5]) (inSetup 0))).port.slots.answer = some [15, 0x33, 46] := by
  decide +kernel

/-- Section 11.4: SHARE index 2 answers the four grants. -/
theorem test_fetchShare :
    (after (exec (.fetchShare (cleanRx 0x81 9 [0, 5, 2]) 0 [2])
      { running 0 with share := { grants := ⟨1, 30, 0, 0⟩ } })).port.slots.answer = some [9, 5, 2, 1, 30, 0, 0] := by
  decide +kernel

/-- R160: the frame of lowest identifier goes first. -/
theorem test_reservation :
    (after (exec .busIdle { running 3 with port := { slots := { station := some stationBytes, trip := some [5, 1] } } })).port.shift.map
      Shift.topic = some .trip := by decide +kernel

/-- R161: a newer frame in the slot wins over the copy handed back. -/
theorem test_handBack :
    (handBack { slots := { station := some [1] }, shift := some ⟨.station, [2], [], false⟩ }).slots.station = some [1] := by
  decide

/-- R9: the sixteenth unheard frame isolates. -/
theorem test_isolation :
    (after (exec (.frameSendEnd (.complete 4000 false false)) { running 0 with port :=
      { port := .send, shift := some ⟨.station, [], [], false⟩, unheard := 15 } })).ctl.isolated = true := by decide +kernel

/-- R135, R159: a STATION of the station's own address is a clash, and the hazard cue ends with RUN. -/
theorem test_clash :
    let t := after (exec (.stationFrame (cleanRx 0x61 1 stationBytes) stationBytes) (running 1))
    t.ctl.station = .halt ∧ (evalCues (running 1)).lamp.cues.hazard = true ∧ t.lamp.cues.hazard = false := by
  decide +kernel

/-! ### A state and operands that meet the hypotheses of each statement -/

/-- A frame as a sender with the nominal bit time drives it. -/
def framed (first : Byte) (source : BitVec 4) (data : List Byte) : Rx := cleanRx first source data

/-- A station whose recessive count stands at a value in WAIT-IDLE. -/
def counting (n : Nat) : State := { State.reset with port := { State.reset.port with recessive := n } }

/-- The reset state with an idle port. -/
def idling : State := { State.reset with port := { port := .idle, recessive := 10 } }

theorem test_witness_step :
    idling.pending = [] ∧ idling.ctl.station ≠ .halt ∧
      (timedEvents (advance idling)).all (fun c => !isDue (advance idling) c) = true ∧
      ({ State.reset with pending := [.busIdle] } : State).pending = .busIdle :: [] := by decide +kernel

/-- A station in HALT. -/
def halted : State := { State.reset with ctl := { role := 0, station := .halt } }

theorem test_witness_halt : halted.ctl.station = .halt ∧ halted.pending = [] := by decide +kernel

theorem test_witness_resets :
    strapFault ⟨4, true, 0⟩ = false ∧ strapFault ⟨5, false, 0⟩ = true ∧ strapFault ⟨2, true, 0⟩ = true ∧
      (loadSettings (abandonedNvm State.reset)).2 = [] := by decide +kernel

/-- FRONT in SETUP while a commit runs. -/
def committing : State := { inSetup 0 with ctl := { (inSetup 0).ctl with commit := some ⟨9, 3⟩ } }

theorem test_witness_restart :
    takesFrame committing 0x86 (framed 0x86 9 [0]) [0] = true ∧ targeted committing 0 = true ∧
      committing.ctl.commit.isSome = true ∧ takesFrame (running 0) 0x86 (framed 0x86 9 [15]) [15] = true ∧
      targeted (running 0) 15 = true ∧ (running 0).ctl.commit = none ∧ strapFault ⟨0, true, 0⟩ = false ∧
      strapFault ⟨7, false, 0⟩ = true := by decide +kernel

theorem test_witness_commit :
    committing.ctl.station ≠ .halt ∧ committing.ctl.commit = some ⟨9, 3⟩ ∧
      storedItems defaultSettings = storedItems committing.ctl.working ∧
      storedItems [] ≠ storedItems committing.ctl.working ∧ portReady committing = true := by decide +kernel

theorem test_witness_runEntry :
    State.reset.ctl.station = .start ∧ State.reset.ctl.startTimer.isSome = true ∧ State.reset.ctl.radio = false ∧
      isAxle State.reset = true ∧ bridgeInUse State.reset = true ∧ State.reset.bridge.tripped = false ∧
      State.reset.bridge.latched = false ∧
      ({ State.reset with port := { isolation := true, unheard := 16 } } : State).port.isolation = true ∧
      ({ State.reset with ctl := { State.reset.ctl with radio := true } } : State).ctl.radio = true := by decide +kernel

theorem test_witness_stationPublished :
    State.reset.ctl.station ≠ .halt ∧ State.reset.ctl.stationTimer.isSome = true ∧ portReady State.reset = true ∧
      portReady { State.reset with port := { port := .idle } } = true := by decide +kernel

theorem test_witness_stationFrame :
    takesFrame (running 1) 0x61 (framed 0x61 0 stationBytes) stationBytes = true ∧ stationBytes.length = 8 ∧
      sourceRole 0 = some .front ∧ sourceRole 4 = some .lamp ∧ sourceRole 5 = none ∧
      takesFrame (running 1) 0x61 (framed 0x61 5 stationBytes) stationBytes = true := by decide +kernel

/-- REAR with LAMP LIVE and phase 0: FRONT is its blink leader, LAMP is not; phase 9 is 1 step from the 10 expected. -/
theorem test_witness_stationCues :
    let s : State := { running 1 with peers := { lamp := { presence := .live } } }
    takesFrame s 0x61 (framed 0x61 4 stationBytes) stationBytes = true ∧ roleAddress .front < ownAddress s ∧
      ¬ roleAddress .lamp < ownAddress s ∧ phaseDistance 10 s.lamp.phase = 10 ∧ phaseDistance 10 9 = 1 ∧
      (after (exec (.stationFrame (framed 0x61 0 stationBytes) stationBytes) s)).lamp.phase = 10 ∧
      s.ctl.station = .run ∧ s.latest.allowance.band = .none ∧ functionOf (withSetting 112 4 s) 0 = 4 := by decide +kernel

/-- A station in RUN whose demand source is an address. -/
def withSource (p : Publisher) : State := { running 2 with latest := { source := some p, ageRear := some 9 } }

theorem test_witness_demandFrame :
    takesFrame (withSource .rear) 0x21 (framed 0x21 4 demandBytes) demandBytes = true ∧ demandBytes.length = 8 ∧
      sourcePublisher 4 = some .lamp ∧ sourcePublisher 3 = none ∧
      publisherAddress .rear < publisherAddress .lamp ∧
      takesFrame (withSource .rear) 0x21 (framed 0x21 1 demandBytes) demandBytes = true ∧
      sourcePublisher 1 = some .rear := by decide +kernel

/-- The data bytes of a DEMAND with one byte of throttle and of steer, a bank, a dig selection and a link state. -/
def demandOf (throttle steer bank dig : Byte) (link : BitVec 2) : List Byte :=
  [0, throttle, 0, steer, bank, dig, 0x11, link ++ 0#6]

/-- FRONT in RUN in bank 1 with dig selection 1. -/
def staged : State := { running 0 with steer := { active := 1 }, bridge := { activeDig := 1 } }

theorem test_witness_demandStaging :
    isAxle staged = true ∧ staged.ctl.station = .run ∧ staged.ctl.isolated = false ∧ centreBand staged = 60 ∧
      [demandOf 100 60 2 2 0, demandOf 101 61 2 2 1, demandOf 0 0 1 1 0, demandOf 0 0 3 3 0, demandOf 0 0 2 2 2].all
        (fun d => takesFrame staged 0x21 (framed 0x21 4 d) d && d.length == 8) = true ∧
      (after (exec (.demandFrame (framed 0x21 4 (demandOf 100 60 2 2 0)) (demandOf 100 60 2 2 0)) staged)).steer.active = 2 ∧
      (after (exec (.demandFrame (framed 0x21 4 (demandOf 101 61 2 2 1)) (demandOf 101 61 2 2 1)) staged)).bridge.pendingDig =
        some 2 ∧
      (after (exec (.demandFrame (framed 0x21 4 (demandOf 0 0 2 2 2)) (demandOf 0 0 2 2 2)) staged)).ctl.failsafe = true ∧
      (after (exec (.demandFrame (framed 0x21 4 (demandOf 0 0 1 1 0)) (demandOf 0 0 1 1 0))
        { running 1 with steer := { active := 1, split := true } })).steer.mode = .split := by decide +kernel

/-- R98, R117: a DEMAND of throttle 100 gives an axle its d, and one that commands IN its effective command to a winch. -/
theorem test_witness_demandDrives :
    (after (exec (.demandFrame (framed 0x21 4 (demandOf 100 0 0 0 0)) (demandOf 100 0 0 0 0))
      (withSetting 48 600 (running 0)))).bridge.d = 60 ∧
      (after (exec (.demandFrame (framed 0x21 4 (demandOf 100 0 0 0 0)) (demandOf 100 0 0 0 0)) (running 2))).winch.command =
        .inward ∧
      (after (exec (.demandFrame (framed 0x21 4 (demandOf 100 0 0 0 2)) (demandOf 100 0 0 0 2)) (running 2))).winch.command =
        .hold ∧ roleIs (running 2) .winch = true ∧ (running 2).ctl.station = .run := by decide +kernel

theorem test_witness_demandConflict :
    takesFrame (radioRunning 1) 0x21 (framed 0x21 0 demandBytes) demandBytes = true ∧
      (radioRunning 1).ctl.radio = true ∧ publisherAddress .front < ownAddress (radioRunning 1) ∧
      ¬ publisherAddress .lamp < ownAddress (radioRunning 1) ∧
      (radioRunning 1).ctl.faults.demandConflict = false := by decide +kernel

/-- A station in RUN that uses an allowance of 80. -/
def using80 : State := { running 0 with share := { value := 80, basis := .record } }

theorem test_witness_allowanceFrame :
    takesFrame using80 0x01 (framed 0x01 3 allowanceBytes) allowanceBytes = true ∧ allowanceBytes.length = 6 ∧
      (byteAt allowanceBytes 0).toNat < using80.share.value ∧ using80.ctl.station = .run ∧
      takesFrame using80 0x01 (framed 0x01 4 allowanceBytes) allowanceBytes = true ∧
      ¬ ((running 0).ctl.station = .run ∧ (byteAt allowanceBytes 0).toNat < (running 0).share.value) := by decide +kernel

/-- An axle station that drives forward at 700 ‰. -/
def drivingAxle : State :=
  { running 0 with bridge :=
    { driveState := .driveFwd, d := 700, outDuty := 700, tripLevel := 100, periodTimer := true
      applied := ⟨.driveFwd, 700, 0⟩ } }

theorem test_witness_winchFrame :
    takesFrame drivingAxle 0x41 (framed 0x41 2 winchBytes) winchBytes = true ∧ winchBytes.length = 6 ∧
      isAxle drivingAxle = true ∧ byteAt winchBytes 0 = 2 ∧ drivingAxle.bridge.driveState = .driveFwd ∧
      takesFrame drivingAxle 0x41 (framed 0x41 2 [1, 0, 0, 0, 0, 0]) [1, 0, 0, 0, 0, 0] = true := by decide +kernel

theorem test_witness_tripFrame :
    takesFrame (running 4) 0x02 (framed 0x02 3 [5, 1]) [5, 1] = true ∧ (roleOf (running 4).ctl.role).isSome = true ∧
      takesFrame (running 4) 0x02 (framed 0x02 9 [5, 1]) [5, 1] = true ∧ (inSetup 4).ctl.station ≠ .run := by decide +kernel

theorem test_witness_echoes :
    listening (running 0) = true ∧
      receive 0x61 { framed 0x61 1 stationBytes with span := 3399 } stationBytes = .error .pace ∧
      receive 0x61 { framed 0x61 1 stationBytes with length := 9 } [] = .error .format ∧
      takesFrame (running 0) 0x82 (framed 0x82 1 [15, 1, 0]) [15, 1, 0] = true ∧
      takesFrame (running 0) 0x30 (framed 0x30 9 []) [] = true ∧
      takesFrame (running 0) 0x61 (framed 0x61 1 [1]) [1] = true ∧ lengthAllowed 0x61 1 = false ∧
      receive 0x84 { framed 0x84 15 [15] with check := 0 } [15] = .error .check ∧
      takesFrame (running 0) 0x84 (framed 0x84 15 [15, 0]) [15, 0] = true ∧ lengthAllowed 0x84 2 = false ∧
      takesFrame (running 0) 0x81 (framed 0x81 15 [0, 1]) [0, 1] = true ∧ lengthAllowed 0x81 2 = false ∧
      ((0x81, [0, 1], .fetchSummary (framed 0x81 15 [0, 1]) 0 []) : Byte × List Byte × Instr) ∈
        frameCommands 0x81 0 [] [] (framed 0x81 15 [0, 1]) ⟨0, false, 0⟩ ∧
      ((0x84, [15, 0], .hold (framed 0x84 15 [15, 0]) [15, 0]) : Byte × List Byte × Instr) ∈
        frameCommands 0x84 0 [] [15, 0] (framed 0x84 15 [15, 0]) ⟨0, false, 0⟩ := by decide +kernel

theorem test_witness_clash :
    listening (running 1) = true ∧
      receive 0x61 (framed 0x61 1 stationBytes) stationBytes = .intact stationBytes ∧
      (framed 0x61 1 stationBytes).source.toNat = ownAddress (running 1) ∧
      receive 0x86 (framed 0x86 1 [15]) [15] = .intact [15] := by decide +kernel

theorem test_witness_hold :
    takesFrame State.reset 0x84 (framed 0x84 15 [15]) [15] = true ∧ targeted State.reset 15 = true ∧
      State.reset.ctl.station = .start ∧ targeted State.reset 1 = false ∧
      takesFrame State.reset 0x84 (framed 0x84 15 [1]) [1] = true ∧
      takesFrame (running 0) 0x84 (framed 0x84 15 [0]) [0] = true ∧ (running 0).ctl.station ≠ .start := by decide +kernel

theorem test_witness_setting :
    takesFrame (inSetup 0) 0x83 (framed 0x83 15 [0, 45, 0, 200]) (0 :: 45 :: bytes2 200) = true ∧
      targeted (inSetup 0) 0 = true ∧ (inSetup 0).ctl.commit = none ∧ settingRow 45 = some ⟨45, 0, 200, 0⟩ ∧
      settingRow 46 = none ∧ takesFrame (inSetup 0) 0x83 (framed 0x83 15 [0, 45, 0, 201]) (0 :: 45 :: bytes2 201) = true ∧
      takesFrame committing 0x83 (framed 0x83 15 [0, 45, 0, 1]) (0 :: 45 :: bytes2 1) = true ∧
      takesFrame (running 0) 0x83 (framed 0x83 15 [0, 45, 0, 1]) (0 :: 45 :: bytes2 1) = true := by decide +kernel

theorem test_witness_settingReadsBack :
    (inSetup 0).ctl.working.length = settingPlaces ∧ (inSetup 0).ctl.station = .setup ∧ (inSetup 0).ctl.commit = none ∧
      settingRow (35 : Byte).toNat = some ⟨35, -1000, 1000, -800⟩ ∧
      SettingRow.admits ⟨35, -1000, 1000, -800⟩ (settingValue 35 0xFC18) = true := by decide +kernel

theorem test_witness_release :
    takesFrame (inSetup 0) 0x85 (framed 0x85 15 [0]) [0] = true ∧ targeted (inSetup 0) 0 = true ∧
      takesFrame committing 0x85 (framed 0x85 15 [0]) [0] = true ∧
      takesFrame (running 0) 0x85 (framed 0x85 15 [0]) [0] = true := by decide +kernel

theorem test_witness_fetch :
    takesFrame (running 0) 0x81 (framed 0x81 9 [0, 1, 2]) [0, 1, 2] = true ∧ targeted (running 0) 0 = true ∧
      takesFrame (running 0) 0x81 (framed 0x81 9 [0, 11, 0]) [0, 11, 0] = true ∧
      takesFrame (running 0) 0x81 (framed 0x81 9 [4, 1, 2]) [4, 1, 2] = true ∧ targeted (running 0) 4 = false ∧
      fetchPayload (running 0) 1 2 = some [0, 0, 0, 0] ∧ fetchPayload (running 0) 6 0 = none := by decide +kernel

theorem test_witness_fetchPayloads :
    roleIs (running 3) .pack = true ∧ roleIs (running 2) .winch = true ∧ bridgeInUse (running 2) = true ∧
      isAxle (running 2) = false ∧ bridgeInUse (running 3) = false ∧ (radioRunning 0).ctl.radio = true ∧
      (State.reset.log.append .sensor 0).entries[0]? = some ⟨.sensor, 0, 0⟩ := by decide +kernel

/-- R131, section 11.4: WINCH 0 with HOMED, HOME active, the hold-off and starved-from PAYOUT; BRIDGE 4 of REAR in bank 2
with bank 1 pending, in SPLIT. -/
theorem test_fetchFlags :
    fetchPayload { running 2 with winch :=
      { state := .starved, starvedFrom := some .payout, homed := true, holdOff := true } } 8 0 = some [5, 0, 0, 0xB2] ∧
    fetchPayload { running 1 with steer := { active := 2, pending := some 1, mode := .split, split := true } } 9 4 =
      some [0x9A, 0x03, 0x20, 0, 0] := by decide +kernel

theorem test_witness_loadSettings :
    (⟨[], false⟩ : StoredTable).good = false ∧ settingsValid (storedItems defaultSettings) = true := by decide +kernel

/-- FRONT is the source; REAR is current at 250 ms, LAMP is not. -/
def sourceFront : State :=
  { running 2 with latest := { source := some .front, ageFront := some 250, ageRear := some 250, ageLamp := some 251 } }

theorem test_witness_sourceExpiry :
    sourceFront.ctl.station ≠ .halt ∧ sourceFront.latest.ageOf .front = some 250 ∧ sourceFront.latest.source = some .front ∧
      (after (exec (.demandSourceExpiry .front) sourceFront)).latest.source = some .rear ∧
      (after (exec (.demandSourceExpiry .rear)
        { sourceFront with latest := { source := some .rear, ageRear := some 250 } })).latest.source = none := by
  decide +kernel

/-- A station in RUN that holds the three records FRESH. -/
def withRecords (role : BitVec 3) : State :=
  { running role with latest := {
      demand := { held := true, source := some .lamp, age := 60, band := .fresh, throttle := 500 }
      allowance := { held := true, source := some .pack, age := 100, band := .fresh, allowance := 75 }
      winch := { held := true, source := some .winch, age := 100, band := .fresh } } }

theorem test_witness_recordAges :
    (withRecords 0).ctl.station = .run ∧ (withRecords 0).latest.demand.held = true ∧
      (withRecords 0).latest.demand.band = .fresh ∧ isAxle (withRecords 0) = true ∧
      (withRecords 0).latest.allowance.held = true ∧ (withRecords 0).latest.allowance.band = .fresh ∧
      (withRecords 0).latest.winch.held = true ∧ (withRecords 0).latest.winch.band = .fresh := by decide +kernel

/-- REAR with FRONT LIVE in bank 1 and WINCH STALE. -/
def withPeers : State :=
  { running 1 with
    peers := { front := { presence := .live, age := 60, stateByte := 0x80, cues := 1 }, winch := { presence := .stale } }
    steer := { splitTimer := some 0, active := 0 } }

theorem test_witness_peerAges :
    withPeers.ctl.station ≠ .halt ∧ roleIs withPeers .front = false ∧ (withPeers.peers.at .front).presence = .live ∧
      (withPeers.peers.at .winch).presence = .stale ∧ withPeers.ctl.station = .run := by decide +kernel

theorem test_witness_scan :
    roleIs (inSetup 3) .pack = true ∧ (inSetup 3).ctl.station = .setup ∧ 0 < cellCount (inSetup 3) ∧
      cellCount (inSetup 3) ≤ 4 ∧ roleIs (running 3) .pack = true ∧ (running 3).ctl.station = .run ∧
      sensorFaulty 125 = false ∧ sensorFaulty 126 = true ∧ sensorFaulty (-40) = false ∧ sensorFaulty (-41) = true := by
  decide +kernel

theorem test_witness_packStates :
    packMax limitPack = 160 ∧ reserveCap limitPack = 40 ∧ limitPack.pack.state = .limit ∧
      limitPack.ctl.station = .run := by decide +kernel

/-- PACK with the switch closed in a state, one scan before its counters are full, CutGrace as set. -/
def countedPack (state : PackState) (grace : Int) : State :=
  withSetting 95 grace { running 3 with pack :=
    { state := state, closed := true, counters := List.replicate 4 ⟨4, 4, 4⟩, recovery := 4, returnState := some .limit } }

theorem test_witness_transitions :
    [3700, 3350, 3150, 2900].map (fun mv => (after (exec (.scanCompletion (scanOf 3800 mv 3800 10 20))
      (countedPack .normal 0))).pack.state) = [.normal, .limit, .reserve, .cutoff] ∧
    [3700, 3350].map (fun mv => (after (exec (.scanCompletion (scanOf 3800 mv 3800 10 20))
      (countedPack .limit 0))).pack.state) = [.normal, .limit] ∧
    (after (exec (.scanCompletion (scanOf 3800 2900 3800 10 20)) (countedPack .tripped 0))).pack.closed = false ∧
    (after (exec (.scanCompletion (scanOf 3800 2900 3800 10 20)) (countedPack .reserve 70))).pack.cutGrace = some 70 ∧
    (after (exec (.scanCompletion (scanOf 3800 3150 3800 10 20)) (countedPack .tripped 0))).pack.returnState =
      some .reserve ∧ portReady (countedPack .normal 0) = true ∧
    [3700, 3350].map (fun mv => (after (exec (.scanCompletion (scanOf 3800 mv 3800 10 20))
      (countedPack .tripped 0))).pack.returnState) = [some .limit, some .limit] := by decide +kernel

/-- R42, R43: the bounds of the Trim test, A_prev 77 and TrimBand 8, with Trim 3 before and the switch closed. -/
theorem test_witness_trim :
    [86, 85, 77, 76].map (fun i => (after (exec (.scanCompletion (scanOf 3620 3480 3510 i 68)) limitPack)).pack.trim) =
      [4, 3, 3, 2] ∧ trimBand limitPack = 8 ∧ limitPack.pack.closed = true ∧ limitPack.pack.aPrev = 77 := by decide +kernel

/-- PACK in CHECK whose cells have been plausible long enough. -/
def checking : State :=
  { running 3 with pack := { state := .check, checkTimer := some 0, plausibility := 5, cutGrace := some 0 } }

theorem test_witness_check :
    roleIs checking .pack = true ∧ checking.ctl.station = .run ∧ checking.pack.state = .check ∧
      checking.pack.checkTimer.isSome = true ∧ checking.pack.plausibility = faultCount checking ∧
      ({ checking with pack := { checking.pack with plausibility := 4 } } : State).pack.plausibility ≠ faultCount checking ∧
      checking.pack.cutGrace.isSome = true := by decide +kernel

/-- PACK with the switch closed in a pack state. -/
def closedPack (state : PackState) (trips : Nat) : State :=
  { running 3 with pack := { state := state, closed := true, tripCount := trips } }

theorem test_witness_packTrip :
    roleIs (closedPack .normal 1) .pack = true ∧ (closedPack .normal 1).ctl.station = .run ∧
      (closedPack .normal 1).pack.closed = true ∧ packTripLevel (closedPack .normal 1) < 241 ∧
      240 ≤ packTripLevel (closedPack .normal 1) ∧ (closedPack .cutoff 0).pack.state = .cutoff ∧
      (closedPack .reserve 2).pack.state.graded = true ∧ (closedPack .reserve 2).pack.tripCount = 2 ∧
      (closedPack .limit 3).pack.tripCount ≠ 2 ∧ packTripLevel (closedPack .normal 1) = 240 := by decide +kernel

/-- PACK in TRIPPED with its hold timer, or with its quiet timer. -/
def trippedPackState (hold quiet : Option Nat) : State :=
  { running 3 with pack :=
    { state := .tripped, returnState := some .limit, holdTimer := hold, quietTimer := quiet, quietPhase := quiet.isSome } }

theorem test_witness_rearm :
    (trippedPackState (some 0) none).pack.state = .tripped ∧ (trippedPackState (some 0) none).pack.holdTimer.isSome = true ∧
      (trippedPackState (some 0) none).pack.quietTimer = none ∧ roleIs (trippedPackState none none) .pack = true ∧
      (trippedPackState none (some 0)).pack.quietTimer.isSome = true ∧
      (trippedPackState none (some 0)).pack.returnState = some .limit := by decide +kernel

/-- A station in RUN whose share timer runs. -/
def sharing (role : BitVec 3) : State := { withRecords role with share := { timer := some 0 } }

theorem test_witness_share :
    (sharing 2).ctl.station = .run ∧ (sharing 2).share.timer.isSome = true ∧
      (roleOf (sharing 2).ctl.role).isSome = true ∧ (sharing 2).share.tripHold = false ∧
      (sharing 2).latest.allowance.band = .fresh ∧ roleIs (sharing 2) .winch = true ∧ isAxle (sharing 0) = true ∧
      (running 0).latest.allowance.band ≠ .fresh ∧
      (after (exec .shareTimerExpiry { sharing 0 with
        lamp := { wantK := 30, wantC := 9 }, peers := { rear := { presence := .live, stateByte := 0x80, wantK := 70 } } })).share.grants =
          ⟨22, 0, 0, 0⟩ := by decide +kernel

/-- R109: the manual's figures of want A at MotorLimit 120, with trip level 0; 0 in the dwell. -/
theorem test_witness_wantA :
    let want := fun b : Bridge => (after (exec .shareTimerExpiry { sharing 0 with bridge := b })).share.wants.a
    motorLimit (sharing 0) = 120 ∧ want { d := 450 } = 54 ∧ want { d := -233 } = 28 ∧ want { d := 1000 } = 120 ∧
      want { d := 450, dwellTimer := some 5 } = 0 ∧ want { d := 450, lastSign := some .minus } = 0 ∧
      want { d := 450, activeDig := 2 } = 54 ∧ want { d := 450, activeDig := 1 } = 0 ∧
      0 < reverseDwell (sharing 0) ∧ isAxle (sharing 0) = true := by decide +kernel

/-- The RADIO station of FRONT with measurements open from 65500 on channels 0 and 1, channel 0 FRESH and 1 STALE. -/
def measuring : State :=
  { radioRunning 0 with
    cap := {
      opened := [some ⟨65500, false⟩, some ⟨65500, true⟩, none, none, none, none]
      train := ⟨some ⟨65500, false⟩, true, 5, false⟩
      channels := [{ band := .fresh }, { band := .stale }, {}, {}, {}, {}] }
    dem := { armingTimer := some 0, demandTimer := some 0, link := .hold } }

theorem test_witness_captureEdge :
    measuring.ctl.station ≠ .halt ∧ measuring.ctl.radio = true ∧ captureMode measuring = 0 ∧
      (true = decide (pulsePolarity measuring = 0)) ∧ (false ≠ decide (pulsePolarity measuring = 0)) ∧
      measuring.cap.opened.getD (0 : Fin 6) none = some ⟨65500, false⟩ ∧ (714 - 65500 : Half).toNat = 750 ∧
      (2214 - 65500 : Half).toNat = 2250 ∧ (2215 - 65500 : Half).toNat = 2251 ∧
      measuring.cap.opened.getD (1 : Fin 6) none = some ⟨65500, true⟩ ∧
      measuring.cap.opened.getD (2 : Fin 6) none = none ∧ (65500 - measuring.cap.timer : Half).toNat = 65500 ∧
      ¬ (65500 : Nat) ≤ (714 - measuring.cap.timer : Half).toNat ∧ (65500 : Nat) ≤ (65501 - measuring.cap.timer : Half).toNat := by
  decide +kernel

theorem test_witness_trainEdge :
    captureMode (withSetting 0 1 measuring) = 1 ∧ (withSetting 0 1 measuring).cap.train.prev = some ⟨65500, false⟩ ∧
      (2964 - 65500 : Half).toNat = 3000 ∧ (2963 - 65500 : Half).toNat = 2999 ∧
      measuring.cap.train.inFrame = true ∧ measuring.cap.train.slot ≤ 5 ∧ measuring.cap.train.incomplete = false := by
  decide +kernel

theorem test_witness_channels :
    measuring.cap.channels.length = 6 ∧ (measuring.cap.channels.getD (0 : Fin 6) {}).band = .fresh ∧
      (measuring.cap.channels.getD (1 : Fin 6) {}).band = .stale ∧ measuring.ctl.station = .run ∧
      measuring.dem.armingTimer.isSome = true ∧ measuring.dem.link ≠ .lost := by decide +kernel

theorem test_witness_demandPublished :
    measuring.dem.demandTimer.isSome = true ∧ publisherAddress .front = ownAddress measuring ∧ portReady measuring = true ∧
      silenced measuring = false ∧ takesSource .front measuring.latest.source = true ∧
      silenced { radioRunning 1 with latest := { ageFront := some 250 } } = true := by decide +kernel

/-- R172: the link state 3 is LOST with FAILSAFE and records nothing, the link state 2 records DEMAND-LOST. -/
theorem test_link3_records_nothing :
    let lost := fun link : BitVec 2 => after (exec (.demandFrame (framed 0x21 4 (demandOf 0 0 0 0 link))
      (demandOf 0 0 0 0 link)) (withRecords 0))
    (lost 3).ctl.failsafe = true ∧ (lost 3).log.entries = [] ∧ (lost 2).log.entries = [⟨.demandLost, 0, 0⟩] := by
  decide +kernel

/-- FRONT's STATION in RUN with a bank. -/
def bankBytes (bank : Byte) : List Byte := [0x80, 0, bank, 9, 0, 0, 0, 0]

/-- What REAR in bank 1 makes of its split timer and condition at such a STATION. -/
def splitSeen (bank : Byte) (timer : Option Nat) (split : Bool) : Option Nat × Bool × SteerMode :=
  let t := after (exec (.stationFrame (framed 0x61 0 (bankBytes bank)) (bankBytes bank))
    { running 1 with steer := { active := 1, splitTimer := timer, split := split } })
  (t.steer.splitTimer, t.steer.split, t.steer.mode)

/-- R86: every line of the table, at the STATIONs of FRONT; the bank 3 differs (R172). -/
theorem test_witness_splitTable :
    splitSeen 2 none false = (some 200, false, .follow) ∧ splitSeen 3 none false = (some 200, false, .follow) ∧
      splitSeen 2 (some 7) false = (some 7, false, .follow) ∧ splitSeen 2 none true = (none, true, .split) ∧
      splitSeen 1 (some 7) false = (none, false, .follow) ∧ splitSeen 1 none true = (none, false, .follow) ∧
      takesFrame (running 1) 0x61 (framed 0x61 0 (bankBytes 2)) (bankBytes 2) = true ∧ sourceRole 0 = some .front := by
  decide +kernel

/-- R85, R86: a DEMAND that brings REAR from bank 1 to FRONT's bank 2 ends the split condition, one that takes it to bank 0
leaves it; a FRONT that becomes LOST ends it. -/
theorem test_witness_splitEnds :
    let s : State := { running 1 with
      peers := { front := { presence := .stale, age := 200, stateByte := 0x80, cues := 2 } }
      steer := { active := 1, split := true } }
    let go := fun d => after (exec (.demandFrame (framed 0x21 4 d) d) s)
    (go (demandOf 0 0 2 0 0)).steer.split = false ∧ (go (demandOf 0 0 0 0 0)).steer.split = true ∧
      (go (demandOf 0 0 0 0 0)).steer.active = 0 ∧ banksDiffer s.peers.front 2 = false ∧
      banksDiffer s.peers.front 0 = true ∧
      (after (exec (.peerPresenceChange .front) s)).steer.split = false ∧
      (s.peers.at .front).presence = .stale ∧ roleIs s .rear = true := by decide +kernel

theorem test_witness_split :
    roleIs withPeers .rear = true ∧ withPeers.ctl.station = .run ∧ withPeers.steer.splitTimer.isSome = true ∧
      splitDiffers withPeers = true ∧
      splitDiffers { withPeers with peers := { front := { presence := .live, stateByte := 0x80, cues := 3 } } } = true ∧
      (withPeers.peers.front.cues.extractLsb' 0 2).toNat ≤ 2 ∧
      splitDiffers { withPeers with steer := { splitTimer := some 0, active := 1 } } = false := by decide +kernel

theorem test_witness_servo :
    isAxle { running 0 with steer := { frameTimer := some 0, shadow := 1700, output := 1500 } } = true ∧
      slewStep (running 0) = 0 ∧ slewStep (withSetting 45 20 (running 0)) = 20 ∧
      servoMin (running 0) ≤ servoMax (running 0) ∧ servoReverse (running 0) = 0 ∧
      servoReverse (withSetting 43 1 (running 0)) = 1 ∧
      (after (exec .servoFrameTimerExpiry (withSetting 45 20
        { running 0 with steer := { frameTimer := some 0, shadow := 1700, output := 1500 } }))).steer.output = 1520 ∧
      (after (exec .servoFrameTimerExpiry (withSetting 45 20
        { running 0 with steer := { frameTimer := some 0, shadow := 1300, output := 1500 } }))).steer.output = 1480 := by
  decide +kernel

theorem test_witness_tripLevel :
    drivingAxle.ctl.station = .run ∧ bridgeInUse drivingAxle = true ∧ drivingAxle.bridge.periodTimer = true ∧
      tierGrant drivingAxle = 0 ∧ drivingAxle.bridge.cut = false ∧ exceeds ⟨100, true⟩ drivingAxle.bridge.tripLevel = true ∧
      exceeds ⟨100, false⟩ drivingAxle.bridge.tripLevel = false ∧ drivingAxle.bridge.applied = ⟨.driveFwd, 700, 0⟩ ∧
      (after (exec (.cycleLimit ⟨100, true⟩) drivingAxle)).bridge.limited = 1 ∧
      (after (exec (.cycleLimit ⟨200, true⟩) (after (exec (.cycleLimit ⟨100, true⟩) drivingAxle)))).bridge.limited = 1 ∧
      (after (exec (.cycleLimit ⟨200, true⟩) { drivingAxle with bridge :=
        { drivingAxle.bridge with applied := ⟨.brake, 0, 30⟩ } })).bridge.limited = 0 := by decide +kernel

theorem test_witness_dutyStep :
    (after (exec (.dutyStep [30])
      { drivingAxle with latest := (withRecords 0).latest })).bridge.driveState = .driveFwd ∧
      0 ≤ rampStep drivingAxle ∧ bridgeInUse (running 2) = true ∧
      (after (exec (.dutyStep [30]) (withSetting 51 50
        { withRecords 0 with bridge := { d := 700, tripLevel := 100 } }))).bridge.outDuty = 50 ∧
      (after (exec (.dutyStep [30]) (withSetting 51 50
        { drivingAxle with bridge := { drivingAxle.bridge with assist := some 600 } }))).bridge.outDuty = 650 ∧
      ({ running 2 with winch := { state := .haul } } : State).winch.state = .haul := by decide +kernel

theorem test_witness_oneShot :
    bridgeInUse drivingAxle = true ∧ gatesOf drivingAxle.bridge ≠ {} ∧
      exceeds ⟨motorTrip drivingAxle, true⟩ (motorTrip drivingAxle) = true ∧ drivingAxle.bridge.windowTimer = none ∧
      gatesOf { drivingAxle.bridge with applied := {} } = {} ∧
      ({ drivingAxle with bridge := { drivingAxle.bridge with windowTimer := some 1 } } : State).bridge.windowTimer.isSome =
        true ∧
      roleIs { drivingAxle with ctl := { role := 2, station := .run }, winch := { state := .starved } } .winch = true ∧
      WinchState.starved.working = true := by decide +kernel

theorem test_witness_bridgeTimers :
    isAxle { running 1 with bridge := { driveState := .dwell, dwellTimer := some 0 } } = true ∧
      dwellSafe { running 1 with bridge := { driveState := .dwell, dwellTimer := some 0, pendingSign := some .minus, d := -5 } } =
        true ∧ signOf (-5) = some .minus ∧
      bridgeInUse { running 2 with bridge := { tripped := true, rearmTimer := some 0 } } = true := by decide +kernel

/-- FRONT in RUN with a taken DEMAND of throttle 500, a trip level above 0 and no condition set. -/
def selecting : State := { withRecords 0 with bridge := { tripLevel := 60 } }

theorem test_witness_driveSelection :
    isAxle selecting = true ∧ selecting.ctl.station = .run ∧ selecting.ctl.failsafe = false ∧
      selecting.ctl.demandHold = false ∧ (bridgeReact true selecting).bridge.driveState = .driveFwd ∧
      (bridgeReact true { selecting with bridge := { tripLevel := 60, lastSign := some .minus } }).bridge.driveState = .dwell ∧
      (bridgeReact true (withSetting 49 0 { selecting with bridge := {} })).bridge.driveState = .off ∧
      (bridgeReact true { selecting with bridge := { tripLevel := 60, dwellTimer := some 7, pendingSign := some .plus } }).bridge.dwellTimer =
        some 7 ∧
      (bridgeReact true { selecting with bridge := { tripLevel := 60, dwellTimer := some 7, pendingSign := some .minus } }).bridge.dwellTimer =
        some (reverseDwell selecting) ∧
      (bridgeReact false { selecting with bridge := { tripLevel := 60, activeDig := 1 } }).bridge.brakeLevel = 100 ∧
      0 < dragBrake selecting ∧ 0 < reverseDwell selecting ∧ reverseDwell (withSetting 50 0 selecting) = 0 := by
  decide +kernel

/-- WINCH in HAUL or PAYOUT with every winch timer running and the line at an end. -/
def winching (state : WinchState) (position : Int) : State :=
  { running 2 with winch :=
    { state := state, position := position, homed := true, stallTimer := some 0, starveTimer := some 0
      recordTimer := some 0 } }

theorem test_witness_winch :
    roleIs (winching .haul 0) .winch = true ∧ (winching .haul 0).ctl.station = .run ∧
      (winching .haul 0).winch.stallTimer.isSome = true ∧ (winching .haul 0).winch.starveTimer.isSome = true ∧
      (winching .haul 0).winch.recordTimer.isSome = true ∧ portReady (winching .haul 0) = true ∧
      (after (exec (.hallEdge 7) (winching .payout 3999))).winch.position = 4000 ∧
      lineMax (winching .payout 3999) ≤ 4000 := by decide +kernel

/-- WINCH in HOLD, taken there within the period: the gates still drive as `applied` says, the shadow brakes; HOME is not
active and the drum is homed at P. -/
def coasting (applied : DriveState) (position : Int) : State :=
  { running 2 with
    pins := ⟨2, false, 0x3F⟩, winch := { state := .hold, position := position, homed := true }
    bridge := { driveState := .brake, brakeLevel := 100, shadow := ⟨.brake, 0, 100⟩, applied := ⟨applied, 500, 0⟩ } }

/-- R125: at an activation of HOME, and at the edge that brings P to LineMax, the brake is on the gates in the same event;
an edge short of LineMax leaves them. -/
theorem test_end_brakes_gates :
    (after (exec .homeActivation (coasting .driveFwd 50))).bridge.applied = ⟨.brake, 0, 100⟩ ∧
      (after (exec (.hallEdge 7) (coasting .driveRev 3999))).bridge.applied = ⟨.brake, 0, 100⟩ ∧
      (after (exec (.hallEdge 7) (coasting .driveRev 3998))).bridge.applied = ⟨.driveRev, 500, 0⟩ ∧
      lineMax (coasting .driveRev 3999) = 4000 := by decide +kernel

theorem test_witness_lineEnds :
    lineEndSafe (coasting .driveFwd 50) = true ∧ lineEndSafe (coasting .driveRev 3999) = true ∧
      lineEndSafe (coasting .driveRev 4000) = false ∧ homeActive (coasting .driveRev 3998) = false ∧
      (winching .payout 3999).winch.homed = true ∧ 0 < lineMax (winching .payout 0) ∧
      lineMax (withSetting 64 0 (winching .payout 0)) ≤ 0 ∧
      (after (exec .homeActivation (winching .haul 9))).winch.state = .endIn ∧
      (after (exec .homeActivation (winching .payout 9))).bridge.d = -(payoutDuty (winching .payout 9) : Int) ∧
      (after (exec (.hallEdge 7) { running 2 with winch := { position := 32767 } })).winch.position = 32767 ∧
      (after (exec (.hallEdge 7) { running 2 with
        winch := { position := -32768 }, bridge := { driveState := .driveFwd } })).winch.position = -32768 := by decide +kernel

/-- WINCH in a state with a FRESH DEMAND that commands IN (1), OUT (2) or HOLD, HOME not active. -/
def commanded (command : BitVec 4) (w : Winch) : State :=
  { running 2 with
    pins := ⟨2, false, 0x3F⟩, winch := w
    latest := { demand := { held := true, source := some .lamp, age := 0, band := .fresh, winchCommand := command } } }

theorem test_witness_winchEvaluation :
    [(1, WinchState.locked), (0, .locked), (1, .hold), (2, .hold), (0, .hold), (1, .haul), (2, .haul), (2, .payout), (0, .payout),
      (0, .stalled), (1, .stalled), (2, .endIn), (0, .endIn), (1, .endOut), (2, .endOut)].map
        (fun x => (winchReact true (commanded x.1 { state := x.2 })).winch.state) =
      [.locked, .hold, .haul, .payout, .hold, .haul, .hold, .payout, .hold, .hold, .stalled, .payout, .hold, .haul, .endOut] ∧
    (winchReact true { commanded 1 { state := .hold } with pins := ⟨2, false, 0⟩ }).winch.state = .endIn ∧
    (winchReact true (commanded 2 { state := .hold, homed := true, position := 4000 })).winch.state = .endOut ∧
    (winchReact true (commanded 1 { state := .starved, starvedFrom := some .haul })).winch.state = .starved ∧
    (winchReact true (commanded 2 { state := .starved, starvedFrom := some .haul })).winch.state = .hold ∧
    (winchReact true { commanded 1 { state := .haul } with
      ctl := { (commanded 1 {}).ctl with failsafe := true } }).winch.state = .locked ∧
    (winchReact true { commanded 1 { state := .hold, holdOff := true } with bridge := { tripped := true } }).winch.state =
      .hold := by decide +kernel

theorem test_witness_winchHandOver :
    let s := commanded 1 { state := .starved, starvedFrom := some .haul, command := .inward }
    winchMinimum s * 5 / 4 ≤ 200 ∧ 0 < winchMinimum s ∧
      (winchHandOver { s with share := { grants := { a := 200 } } }).winch.state = .haul ∧
      (winchHandOver { commanded 2 { state := .starved, starvedFrom := some .payout, command := .outward } with
        share := { grants := { b := 200 } } }).winch.state = .payout ∧
      (winchHandOver (commanded 1 { state := .haul })).winch.starveTimer = some 100 := by decide +kernel

theorem test_witness_lamps :
    lampStation.ctl.station ≠ .halt ∧ lampStation.lamp.phase < 256 ∧
      ({ lampStation with lamp := { phase := 127, fadeTimer := some 0 } } : State).lamp.fadeTimer.isSome = true ∧
      blinkFunction (functionOf (withSetting 112 7 lampStation) 0) = true ∧
      fadeLevel (fadeStep lampStation) 0 255 = fadeStep lampStation ∧ fadeStep lampStation < 255 := by decide +kernel

/-- R132: a Rank-0 lamp of Nominal 0 is not scaled; one with a Nominal is. -/
theorem test_rank0_nominal0 :
    effectiveTarget (withSetting 113 0 { lampStation with lamp := { scale := some (1, 2) } }) 0 200 false = 100 ∧
      effectiveTarget (withSetting 114 0 (withSetting 113 0 { lampStation with lamp := { scale := some (1, 2) } })) 0 200
        false = 200 := by decide +kernel

theorem test_witness_lampLoads :
    settingsSafe (evalCues lampStation) = true ∧
      (evalCues lampStation).lamp.wantC = lampWantC (evalCues lampStation) (fun n => (lampAt (evalCues lampStation) n).base) ∧
      (evalCues lampStation).lamp.wantK =
        lampWantK (evalCues lampStation) (fun n => (lampAt (evalCues lampStation) n).base) := by decide +kernel

/-- A port that sends, with a frame in the shift buffer. -/
def sending : State :=
  { running 0 with port := { port := .send, shift := some ⟨.station, stationBytes, [], false⟩, unheard := 15 } }

theorem test_witness_bus :
    State.reset.ctl.station ≠ .halt ∧ State.reset.port.port = .waitIdle ∧
      State.reset.port.slots.first = some (.station, [0x00, 0x00, 0x04, 0x00, 0x00, 0x00, 0x00, 0x00]) ∧
      ({} : Slots).first = none ∧ sending.port.port = .send ∧
      sending.port.shift = some ⟨.station, stationBytes, [], false⟩ ∧ sending.ctl.station = .run ∧
      sending.port.isolation = sending.ctl.isolated ∧ sending.port.unheard = 15 := by decide +kernel

theorem test_witness_join :
    (after (exec (.joinWindow 7) State.reset)).port.port = .lead ∧ (after (exec (.joinWindow 8) State.reset)).port.port = .send ∧
      (after (exec (.joinWindow 0) { running 0 with port := { port := .idle, recessive := 10 } })).port.port = .lead ∧
      (after (exec (.joinWindow 5) (counting 3))).port.port = .send := by decide +kernel

/-- R155: a quiet line of one ms brings the count to 10, at which bus idle is due; R152: a Stuck run holds it at 0. -/
theorem test_witness_quiet :
    (advance (counting 4)).port.recessive = 10 ∧ isDue (advance (counting 4)) .busIdle = true ∧
      (counting 0).port.recessive = 0 ∧ (counting 0).port.port = .waitIdle ∧ (counting 0).port.stuckCounted = false ∧
      (advance (after (exec .lineStuck (counting 4)))).port.recessive = 0 := by decide +kernel

theorem test_witness_sendEnds :
    (after (exec (.frameSendEnd (.complete 3399 true false)) sending)).port.collisions = 1 ∧
      (after (exec (.frameSendEnd (.complete 3400 true false)) sending)).port.paceSpan = 3400 ∧
      (after (exec (.frameSendEnd (.lostArbitration 4601)) sending)).port.port = .waitIdle ∧
      (after (exec (.frameSendEnd (.lostArbitration 4600)) sending)).port.port = .receive ∧
      (after (exec (.frameSendEnd (.bitCollision none)) sending)).port.collisions = 1 ∧
      (after (exec (.frameSendEnd .stuck) sending)).port.lastError = some .stuck ∧ roleIs sending .winch = false ∧
      (after (exec (.frameSendEnd (.complete 4000 true true)) sending)).ctl.station = .halt := by decide +kernel

/-- RUN of PACK with everything as a boot leaves it: the premises of the rules that every step keeps hold in it too. -/
theorem test_witness_kept :
    switchSafe (closedPack .normal 0) = true ∧ outputsSafe State.reset = true ∧ conditionsSafe State.reset = true ∧
      failsafeSafe drivingAxle = true ∧ lineEndSafe State.reset = true ∧ lockSafe drivingAxle = true ∧ incidentsSafe State.reset = true ∧
      shareSafe using80 = true ∧ portSafe State.reset = true ∧ dwellSafe drivingAxle = true := by decide +kernel

theorem test_witness_settingsKept : settingsSafe State.reset = true ∧ servoSafe State.reset = true := by decide +kernel

theorem test_witness_stepNext :
    ∃ t, step { State.reset with pending := [.busIdle] } = .next t := ⟨_, rfl⟩

end Sys2Proof.Tests
end

section
/-! Proofs about the pack monitor's allowance (chapter 2, R40 to R45): what one scan completion of a PACK station in RUN
publishes. The layers: reactions that are empty off the WINCH station, the settings read through the held table, the
transmit queue of a ready port, the state rules, the publication; then the two obligations. -/

namespace Sys2Proof.Machine

/-! ### Off the WINCH station the winch controller does nothing (R1) -/

theorem not_winch_of_pack {s : State} (h : roleIs s .pack = true) : roleIs s .winch = false := by
  simp only [roleIs, beq_iff_eq] at h
  simp [roleIs, h]

theorem winchReact_of_not_winch (b : Bool) {s : State} (h : roleIs s .winch = false) : winchReact b s = s := by
  simp [winchReact, h]

theorem winchHandOver_of_not_winch {s : State} (h : roleIs s .winch = false) : winchHandOver s = s := by
  simp [winchHandOver, h]

/-- Off WINCH a share computation hands grants to the lamp unit alone (R59, R60). -/
theorem shareCompute_of_not_winch (c : ShareCause) {s : State} (h : roleIs s .winch = false) :
    shareCompute c s = lampHandOver (computedShare c s).grants (s.setShare (computedShare c s)) :=
  winchHandOver_of_not_winch ((roleIs_congr (by simp) .winch).trans h)

/-- Off WINCH a TRIP touches the share unit and the lamp unit alone (R18, R50). -/
theorem takeTrip_of_not_winch {s : State} (h : roleIs s .winch = false) :
    (takeTrip s).bridge = s.bridge ∧ (takeTrip s).winch = s.winch ∧ (takeTrip s).port = s.port ∧
      (takeTrip s).latest = s.latest := by
  have h' : roleIs (s.setShare { s.share with tripHold := true }) .winch = false := h
  unfold takeTrip
  dsimp only
  split
  · simp [shareCompute_of_not_winch .trip h']
  · simp

/-- Off WINCH an accepted ALLOWANCE ends the TRIP hold and leaves of the Latest Records the others as they are
(R16, R51). -/
theorem acceptAllowance_of_not_winch (d : List Byte) {s : State} (h : roleIs s .winch = false) :
    (acceptAllowance d s).bridge = s.bridge ∧ (acceptAllowance d s).winch = s.winch ∧
      (acceptAllowance d s).port = s.port ∧ (acceptAllowance d s).share.tripHold = false ∧
      (acceptAllowance d s).latest = { s.latest with allowance := readAllowance d } := by
  let a := (s.setLatest { s.latest with allowance := readAllowance d }).setShare { s.share with tripHold := false }
  have ha : roleIs a .winch = false := h
  have hc : roleIs (shareCompute .lower a) .winch = false := (roleIs_congr (by simp) .winch).trans ha
  have he (b : State) (hb : roleIs b .winch = false) : winchReact false (evalCues b) = evalCues b :=
    winchReact_of_not_winch false ((roleIs_congr (by simp) .winch).trans hb)
  unfold acceptAllowance
  dsimp only
  split
  · rw [he _ hc, shareCompute_of_not_winch .lower ha]
    simp [a, computedShare]
  · rw [he _ ha]
    simp [a]

/-! ### Settings are read through the held table -/

/-- Two stations that hold the same table read every setting alike. -/
theorem cfg_congr {s t : State} (h : t.ctl.held = s.ctl.held) : cfg t = cfg s := by
  funext id
  simp [cfg, h]

/-- The settings the allowance is computed from (R40 to R43). -/
theorem packSettings_congr {s t : State} (h : t.ctl.held = s.ctl.held) :
    packMax t = packMax s ∧ reserveCap t = reserveCap s ∧ kneeMv t = kneeMv s ∧ floorMv t = floorMv s ∧
      heatKnee t = heatKnee s ∧ heatStop t = heatStop s ∧ trimBand t = trimBand s ∧ softStep t = softStep s := by
  simp [packMax, reserveCap, kneeMv, floorMv, heatKnee, heatStop, trimBand, softStep, cfgN, cfg_congr h]

theorem stateCap_congr {s t : State} (h : t.ctl.held = s.ctl.held) (hs : t.pack.state = s.pack.state) :
    stateCap t = stateCap s := by
  obtain ⟨hmax, hreserve, -⟩ := packSettings_congr h
  simp only [stateCap, hmax, hreserve, hs]

/-! ### Queuing on a port that is ready (R155, R160) -/

theorem Slots.first_put_empty (t : TxTopic) (d : List Byte) : (({} : Slots).put t (some d)).first = some (t, d) := by
  cases t <;> rfl

theorem Slots.put_put_empty (t : TxTopic) (f : Option (List Byte)) : (({} : Slots).put t f).put t none = {} := by
  cases t <;> rfl

theorem portReady_iff (s : State) : portReady s = true ↔ (s.port.port = .idle → s.port.slots = {}) := by
  simp only [portReady, Bool.or_eq_true, bne_iff_ne, beq_iff_eq]
  tauto

/-- On a ready port a frame goes to the shift buffer where the port is idle, else to its slot. -/
theorem queueFrame_port {s : State} (h : portReady s = true) (t : TxTopic) (d : List Byte) :
    (queueFrame t d s).port = afterQueue t d (ownAddress s) s.port := by
  by_cases hi : s.port.port = .idle
  · have he := (portReady_iff s).1 h hi
    simp [queueFrame, hi, he, startSend, Slots.first_put_empty, Slots.put_put_empty, afterQueue, ownAddress]
  · simp [queueFrame_of_busy t d s hi, afterQueue, hi]

/-- A port that is ready is ready for the next frame too. -/
theorem portReady_queueFrame {s : State} (h : portReady s = true) (t : TxTopic) (d : List Byte) :
    portReady (queueFrame t d s) = true := by
  rw [portReady_iff, queueFrame_port h]
  intro hidle
  by_cases hi : s.port.port = .idle <;> simp [afterQueue, hi] at hidle

/-- The frame stands in the shift buffer or in its slot. -/
theorem afterQueue_holds (t : TxTopic) (d : List Byte) (own : Nat) (p : BusPort) :
    (∃ b, (afterQueue t d own p).shift = some b ∧ b.topic = t ∧ b.data = d) ∨
      (afterQueue t d own p).slots.at t = some d := by
  by_cases hi : p.port = .idle
  · exact .inl ⟨⟨t, d, wireBytes t.first (BitVec.ofNat 4 own) d, false⟩, by simp [afterQueue, hi], rfl, rfl⟩
  · exact .inr (by simp [afterQueue, hi])

/-! ### The state rules of a scan completion (R30, R31, R38) -/

theorem enterCutoff_pack (s : State) : (enterCutoff s).pack = cutoffPack (cutGraceMs s) s.pack := by
  simp [enterCutoff]

/-- The TRIP of an entry to CUTOFF is queued on the port as it stood; off WINCH no motor is touched (R46). -/
theorem enterCutoff_of_not_winch {s : State} (h : roleIs s .winch = false) :
    (enterCutoff s).bridge = s.bridge ∧ (enterCutoff s).winch = s.winch ∧
      (portReady s = true → portReady (enterCutoff s) = true) := by
  let a := (record .cellCut (cellDetail s CellCounters.cut) s).setPack (cutoffPack (cutGraceMs s) s.pack)
  let q := queueFrame .trip [PackState.cutoff.code, TripCause.cellCut.code] a
  have hq : roleIs q .winch = false := (roleIs_congr (by simp [q, a]) .winch).trans h
  obtain ⟨hbridge, hwinch, hport, -⟩ := takeTrip_of_not_winch hq
  refine ⟨hbridge.trans (by simp [q, a]), hwinch.trans (by simp [q, a]), fun hr => ?_⟩
  have ha : portReady a = true := hr
  have hqr := portReady_queueFrame ha .trip [PackState.cutoff.code, TripCause.cellCut.code]
  rw [portReady_iff] at hqr ⊢
  rw [show (enterCutoff s).port = q.port from hport]
  exact hqr

/-- What the state rules of a scan completion can leave: the station as it was, an entry to CUTOFF, or another pack state
or return state with the list an incident leaves; from CUTOFF nothing moves. -/
inductive RulesOutcome (s : State) : State → Prop
  | unchanged : RulesOutcome s s
  | cutoff (hfrom : s.pack.state ≠ .cutoff) : RulesOutcome s (enterCutoff s)
  | moved (into : PackState) (back : Option PackState) (log : IncidentLog) (hfrom : s.pack.state ≠ .cutoff)
      (hinto : into ≠ .cutoff) :
      RulesOutcome s ((s.setLog log).setPack { s.pack with state := into, returnState := back })

/-- At most one transition, by the table of R30 and R38. -/
theorem packRules_outcome (s : State) : RulesOutcome s (packRules s) := by
  cases hs : s.pack.state <;> simp only [packRules, hs]
  case check | cutoff | fault => exact .unchanged
  case normal =>
    split_ifs
    · exact .cutoff (by simp [hs])
    · exact .moved .reserve s.pack.returnState (s.log.append _ _) (by simp [hs]) (by simp)
    · exact .moved .limit s.pack.returnState (s.log.append _ _) (by simp [hs]) (by simp)
    · exact .unchanged
  case limit =>
    split_ifs
    · exact .cutoff (by simp [hs])
    · exact .moved .reserve s.pack.returnState (s.log.append _ _) (by simp [hs]) (by simp)
    · exact .moved .normal s.pack.returnState s.log (by simp [hs]) (by simp)
    · exact .unchanged
  case reserve =>
    split_ifs
    · exact .cutoff (by simp [hs])
    · exact .unchanged
  case tripped =>
    split_ifs
    · exact .cutoff (by simp [hs])
    · rw [← hs]; exact .moved s.pack.state (some .reserve) (s.log.append _ _) (by simp [hs]) (by simp [hs])
    · exact .unchanged

/-- The state rules leave the table, RampCap and A_prev; Trim is 0 at an entry to CUTOFF and else as it was (R31). -/
theorem packRules_pack (s : State) :
    (packRules s).pack.table = s.pack.table ∧ (packRules s).pack.rampCap = s.pack.rampCap ∧
      (packRules s).pack.aPrev = s.pack.aPrev ∧
      (packRules s).pack.trim =
        if (packRules s).pack.state = .cutoff ∧ s.pack.state ≠ .cutoff then 0 else s.pack.trim := by
  have h' := packRules_outcome s
  generalize packRules s = u at h' ⊢
  cases h' with
  | unchanged => simp
  | cutoff hs => simp [enterCutoff_pack, cutoffPack, hs]
  | moved into back log hs hn => simp [hn]

/-- Off WINCH the state rules touch no motor, and a port that is ready stays ready. -/
theorem packRules_of_not_winch {s : State} (h : roleIs s .winch = false) :
    (packRules s).bridge = s.bridge ∧ (packRules s).winch = s.winch ∧
      (portReady s = true → portReady (packRules s) = true) := by
  have h' := packRules_outcome s
  generalize packRules s = u at h' ⊢
  cases h' with
  | unchanged => exact ⟨rfl, rfl, id⟩
  | cutoff _ => exact enterCutoff_of_not_winch h
  | moved => exact ⟨rfl, rfl, id⟩

/-! ### The publication (R39 to R45) -/

theorem half_bytes2 (h : Half) : half (h.extractLsb' 8 8) (h.extractLsb' 0 8) = h := by
  simp only [half]
  rw [BitVec.extractLsb'_append_extractLsb'_eq_extractLsb' (by omega)]
  exact BitVec.extractLsb'_eq_self

/-- What the record read back from an ALLOWANCE frame shows (R16, R45). -/
theorem readAllowance_allowanceData (s : State) (a : Nat) :
    (readAllowance (allowanceData s a)).held = true ∧ (readAllowance (allowanceData s a)).age = 0 ∧
      (readAllowance (allowanceData s a)).band = .fresh ∧
      (readAllowance (allowanceData s a)).allowance = natByte a ∧
      (readAllowance (allowanceData s a)).packState = s.pack.state.code ∧
      (readAllowance (allowanceData s a)).vMin = BitVec.ofNat 16 s.pack.table.vMin :=
  ⟨rfl, rfl, rfl, rfl, rfl, half_bytes2 _⟩

theorem publishAllowance_pack (s : State) :
    (publishAllowance s).pack =
      { s.pack with rampCap := nextRampCap s, trim := nextTrim s, aPrev := allowanceOf s } := by
  simp [publishAllowance]

/-- Off WINCH a publication queues the record, enters it in the own Latest Records and ends the TRIP hold (R16, R45,
R51). -/
theorem publishAllowance_of_not_winch {s : State} (h : roleIs s .winch = false) :
    (publishAllowance s).bridge = s.bridge ∧ (publishAllowance s).winch = s.winch ∧
      (publishAllowance s).share.tripHold = false ∧
      (publishAllowance s).latest.allowance = readAllowance (allowanceData s (allowanceOf s)) ∧
      (portReady s = true → (publishAllowance s).port =
        afterQueue .allowance (allowanceData s (allowanceOf s)) (ownAddress s) s.port) := by
  let a := s.setPack { s.pack with rampCap := nextRampCap s, trim := nextTrim s, aPrev := allowanceOf s }
  let q := queueFrame .allowance (allowanceData s (allowanceOf s)) a
  have hq : roleIs q .winch = false := (roleIs_congr (by simp [q, a]) .winch).trans h
  obtain ⟨hbridge, hwinch, hport, hhold, hlatest⟩ :=
    acceptAllowance_of_not_winch (allowanceData s (allowanceOf s)) hq
  exact ⟨hbridge.trans (by simp [q, a]), hwinch.trans (by simp [q, a]), hhold,
    congrArg Latest.allowance hlatest, fun hr => hport.trans (queueFrame_port (s := a) hr _ _)⟩

/-- The own record after a publication is FRESH with age 0 and shows the pack as it stands (R16, R45). -/
theorem publishAllowance_record {s : State} (h : roleIs s .winch = false) :
    (publishAllowance s).latest.allowance.held = true ∧ (publishAllowance s).latest.allowance.age = 0 ∧
      (publishAllowance s).latest.allowance.band = .fresh ∧
      (publishAllowance s).latest.allowance.allowance = natByte (publishAllowance s).pack.aPrev ∧
      (publishAllowance s).latest.allowance.packState = (publishAllowance s).pack.state.code ∧
      (publishAllowance s).latest.allowance.vMin = BitVec.ofNat 16 (publishAllowance s).pack.table.vMin := by
  obtain ⟨-, -, -, hrecord, -⟩ := publishAllowance_of_not_winch h
  rw [hrecord, publishAllowance_pack]
  exact readAllowance_allowanceData s (allowanceOf s)

/-- From a ready port the frame that carries A_prev stands in the shift buffer or in the ALLOWANCE slot (R45, R160). -/
theorem publishAllowance_queued {s : State} (h : roleIs s .winch = false) (hr : portReady s = true) :
    let t := publishAllowance s
    (∃ b, t.port.shift = some b ∧ b.data = allowanceData t t.pack.aPrev) ∨
      t.port.slots.allowance = some (allowanceData t t.pack.aPrev) := by
  obtain ⟨-, -, -, -, hport⟩ := publishAllowance_of_not_winch h
  have hdata : allowanceData (publishAllowance s) (publishAllowance s).pack.aPrev = allowanceData s (allowanceOf s) := by
    simp [allowanceData, publishAllowance_pack]
  dsimp only
  rw [hdata, hport hr]
  rcases afterQueue_holds .allowance (allowanceData s (allowanceOf s)) (ownAddress s) s.port with ⟨b, hb, -, hd⟩ | hslot
  · exact .inl ⟨b, hb, hd⟩
  · exact .inr hslot

theorem baseCap_le_stateCap (s : State) : baseCap s ≤ stateCap s :=
  (Nat.min_le_left _ _).trans (Nat.min_le_left _ _)

theorem stateCap_le_packMax (s : State) : stateCap s ≤ packMax s := by
  cases hs : s.pack.state <;> simp only [stateCap, hs] <;> omega

theorem allowanceOf_le_stateCap (s : State) : allowanceOf s ≤ stateCap s :=
  (Nat.sub_le _ _).trans (baseCap_le_stateCap s)

theorem allowanceOf_eq_zero {s : State}
    (h : s.pack.state = .check ∨ s.pack.state = .cutoff ∨ s.pack.state = .tripped ∨ s.pack.state = .fault) :
    allowanceOf s = 0 := by
  have hcap : stateCap s = 0 := by rcases h with h | h | h | h <;> simp [stateCap, h]
  exact Nat.le_zero.1 (hcap ▸ allowanceOf_le_stateCap s)

/-- The three branches of R43. -/
theorem nextTrim_spec (s : State) :
    (s.pack.aPrev + trimBand s < s.pack.table.current → nextTrim s =
      min (packMax s) (s.pack.trim + max 1 ((s.pack.table.current - s.pack.aPrev - trimBand s) / 4))) ∧
    (s.pack.table.current < s.pack.aPrev → nextTrim s = min (packMax s) (s.pack.trim - 1)) ∧
    (s.pack.aPrev ≤ s.pack.table.current → s.pack.table.current ≤ s.pack.aPrev + trimBand s →
      nextTrim s = min (packMax s) s.pack.trim) := by
  refine ⟨fun hover => ?_, fun hunder => ?_, fun hlow hhigh => ?_⟩
  · simp only [nextTrim, if_pos hover, Nat.sub_sub]
  · have hnot : ¬ s.pack.aPrev + trimBand s < s.pack.table.current := by omega
    simp only [nextTrim, if_neg hnot]
    split <;> omega
  · have hnot : ¬ s.pack.aPrev + trimBand s < s.pack.table.current := by omega
    have hnot' : ¬ (s.pack.table.current < s.pack.aPrev ∧ 0 < s.pack.trim) := by omega
    simp only [nextTrim, if_neg hnot, if_neg hnot']

/-! ### The station after the state rules of a scan, before the computation -/

/-- The station at a scan completion in RUN after the table, SENSOR and the state rules (R21, R24, R30). -/
def scanRuled (scan : Scan) (s : State) : State := packRules (noteSensor (s.setPack (scannedPack scan s)))

/-- SENSOR leaves what the computation reads of the controller (R24). -/
@[simp] theorem noteSensor_kept (s : State) :
    (noteSensor s).ctl.station = s.ctl.station ∧ (noteSensor s).ctl.role = s.ctl.role ∧
      (noteSensor s).ctl.held = s.ctl.held := by
  unfold noteSensor
  split <;> simp [setFaults]

/-- In RUN on PACK a scan completion publishes what the state rules leave (R21). -/
theorem exec_scanCompletion_run {s : State} (hp : roleIs s .pack = true) (hr : s.ctl.station = .run) (scan : Scan) :
    exec (.scanCompletion scan) s = .next (publishAllowance (scanRuled scan s)) := by
  have hrun : inRun (noteSensor (s.setPack (scannedPack scan s))) = true := by
    simp [inRun, hr]
  have hscan : scanCompleted scan s = publishAllowance (scanRuled scan s) := by
    simp [scanCompleted, hp, hrun, scanRuled]
  have hlive : exec (.scanCompletion scan) s = live s (scanCompleted scan) := rfl
  simp [hlive, live, hr, hscan]

theorem scanRuled_ctl (scan : Scan) (s : State) :
    (scanRuled scan s).ctl.role = s.ctl.role ∧ (scanRuled scan s).ctl.held = s.ctl.held := by
  simp [scanRuled]

/-- Trim and what the scan does not touch, as the computation finds them (R31, R42, R43). -/
theorem scanRuled_pack (scan : Scan) (s : State) :
    (scanRuled scan s).pack.rampCap = s.pack.rampCap ∧ (scanRuled scan s).pack.aPrev = s.pack.aPrev ∧
      (scanRuled scan s).pack.trim =
        if (scanRuled scan s).pack.state = .cutoff ∧ s.pack.state ≠ .cutoff then 0 else s.pack.trim := by
  obtain ⟨-, hramp, hprev, htrim⟩ := packRules_pack (noteSensor (s.setPack (scannedPack scan s)))
  have hpack : (noteSensor (s.setPack (scannedPack scan s))).pack = scannedPack scan s := by simp
  rw [hpack] at hramp hprev htrim
  exact ⟨hramp, hprev, htrim⟩

@[simp] theorem scanRuled_untouched (scan : Scan) (s : State) :
    (scanRuled scan s).pending = s.pending ∧ (scanRuled scan s).ticks = s.ticks ∧ (scanRuled scan s).pins = s.pins ∧
      (scanRuled scan s).nvm = s.nvm ∧ (scanRuled scan s).peers = s.peers ∧ (scanRuled scan s).cap = s.cap ∧
      (scanRuled scan s).dem = s.dem ∧ (scanRuled scan s).steer = s.steer := by
  simp [scanRuled]

/-- A station that differs in the blocks of the pack station's own work alone. -/
theorem eq_update_of_untouched {s t : State}
    (h : t.pending = s.pending ∧ t.ticks = s.ticks ∧ t.pins = s.pins ∧ t.nvm = s.nvm ∧ t.peers = s.peers ∧
      t.cap = s.cap ∧ t.dem = s.dem ∧ t.steer = s.steer ∧ t.bridge = s.bridge ∧ t.winch = s.winch) :
    t = { s with
      pack := t.pack, ctl := t.ctl, log := t.log, port := t.port, share := t.share, lamp := t.lamp, latest := t.latest } := by
  cases s
  cases t
  obtain ⟨rfl, rfl, rfl, rfl, rfl, rfl, rfl, rfl, rfl, rfl⟩ := h
  rfl

theorem scanRuled_of_not_winch (scan : Scan) {s : State} (h : roleIs s .winch = false) :
    (scanRuled scan s).bridge = s.bridge ∧ (scanRuled scan s).winch = s.winch ∧
      (portReady s = true → portReady (scanRuled scan s) = true) := by
  let n := noteSensor (s.setPack (scannedPack scan s))
  have hrole : n.ctl.role = s.ctl.role := by simp [n]
  have hport : n.port = s.port := by simp [n]
  obtain ⟨hbridge, hwinch, hready⟩ := packRules_of_not_winch ((roleIs_congr hrole .winch).trans h)
  refine ⟨hbridge.trans (by simp [n]), hwinch.trans (by simp [n]), fun hr => hready ?_⟩
  rw [portReady_iff, hport]
  exact (portReady_iff s).1 hr

/-- Only the pack station's own blocks change at a scan completion in RUN: pack, controller, log, port, share, lamps and
records. -/
theorem publishAllowance_scanRuled_frame (scan : Scan) {s : State} (h : roleIs s .winch = false) :
    let t := publishAllowance (scanRuled scan s)
    t = { s with
      pack := t.pack, ctl := t.ctl, log := t.log, port := t.port, share := t.share, lamp := t.lamp, latest := t.latest } := by
  obtain ⟨hrole, -⟩ := scanRuled_ctl scan s
  obtain ⟨hbridge, hwinch, -⟩ := scanRuled_of_not_winch scan h
  obtain ⟨hbridge', hwinch', -⟩ := publishAllowance_of_not_winch ((roleIs_congr hrole .winch).trans h)
  exact eq_update_of_untouched (by simp [hbridge, hwinch, hbridge', hwinch'])

end Sys2Proof.Machine

open Sys2Proof Sys2Proof.Machine

/-- Settles O27: R40 read off the table state by state. -/
theorem stateCapTable : Obligations.StateCapTable := by
  intro s
  refine ⟨fun h => by simp [stateCap, h], fun h => by simp [stateCap, h], fun h => by simp [stateCap, h],
    fun h => by simp [stateCap, h], ?_, fun hmax hreserve => ?_⟩
  · rintro (h | h | h) <;> simp [stateCap, h]
  · exact ⟨fun h => by simp [stateCap, h, hmax], fun h => by simp [stateCap, h, hmax],
      fun h => by simp [stateCap, h, hmax, hreserve]⟩

/-- Settles O28: the computation runs on what the state rules leave (`scanRuled`), whose settings are those of `s`; each
clause is then a fact about that computation or about its publication. -/
theorem allowancePublished : Obligations.AllowancePublished := by
  intro s scan hp hr
  have hw := not_winch_of_pack hp
  obtain ⟨hrole, hheld⟩ := scanRuled_ctl scan s
  obtain ⟨hramp, hprev, htrim⟩ := scanRuled_pack scan s
  obtain ⟨-, -, hready⟩ := scanRuled_of_not_winch scan hw
  have hframe := publishAllowance_scanRuled_frame scan hw
  have hexec := exec_scanCompletion_run hp hr scan
  generalize scanRuled scan s = u at *
  have huw : roleIs u .winch = false := (roleIs_congr hrole .winch).trans hw
  obtain ⟨-, -, hhold, -⟩ := publishAllowance_of_not_winch huw
  obtain ⟨hmax, hreserve, hknee, hfloor, hheatKnee, hheatStop, hband, hsoft⟩ := packSettings_congr hheld
  have hpack := publishAllowance_pack u
  have hcap : stateCap (publishAllowance u) = stateCap u := stateCap_congr (by simp) (by simp [hpack])
  obtain ⟨hover, hunder, hwithin⟩ := nextTrim_spec u
  simp only [hprev, htrim, hmax, hband] at hover hunder hwithin
  have hnext : nextRampCap u = if u.pack.closed then min (s.pack.rampCap + softStep s) (packMax s) else s.pack.rampCap := by
    simp only [nextRampCap, hramp, hsoft, hmax]
  obtain ⟨hrecHeld, hrecAge, hrecBand, hrecAllowance, hrecState, hrecMin⟩ := publishAllowance_record huw
  refine ⟨publishAllowance u, hexec, hframe, ?withinState, ?withinMax, ?figures, ?zero, hrecHeld, hrecAge, hrecBand,
    hrecAllowance, hrecState, hrecMin, hhold, fun hport => publishAllowance_queued huw (hready hport)⟩
  case withinState =>
    rw [hcap, hpack]
    exact allowanceOf_le_stateCap u
  case withinMax =>
    rw [hpack, ← hmax]
    exact (allowanceOf_le_stateCap u).trans (stateCap_le_packMax u)
  case figures =>
    rw [hcap, hpack]
    refine ⟨hnext, hover, hunder, hwithin, ?_⟩
    simp only [allowanceOf, baseCap, sagCap, heatCap, hmax, hreserve, hknee, hfloor, hheatKnee, hheatStop]
  case zero =>
    rw [hpack]
    exact allowanceOf_eq_zero
end

section
/-! Proofs about the winch's wants (chapter 7, R128): the wants by winch state, the station state every reset leaves, and
the wants a share computation takes over; then the obligation. -/

namespace Sys2Proof.Machine

/-! ### The wants by state (R128) -/

theorem winchWants_of_not_run {s : State} (h : s.ctl.station ≠ .run) : winchWants s = (0, 0) := by
  simp [winchWants, inRun, h]

theorem winchWants_of_haul {s : State} (hr : s.ctl.station = .run)
    (h : s.winch.state = .haul ∨ (s.winch.state = .starved ∧ s.winch.starvedFrom = some .haul)) :
    winchWants s = (haulWant s, 0) := by
  obtain hhaul | ⟨hstarved, hfrom⟩ := h
  · simp [winchWants, inRun, hr, hhaul]
  · simp [winchWants, inRun, hr, hstarved, hfrom]

theorem winchWants_of_payout {s : State} (hr : s.ctl.station = .run)
    (h : s.winch.state = .payout ∨ (s.winch.state = .starved ∧ s.winch.starvedFrom = some .payout)) :
    winchWants s = (0, payoutWant s) := by
  obtain hpayout | ⟨hstarved, hfrom⟩ := h
  · simp [winchWants, inRun, hr, hpayout]
  · simp [winchWants, inRun, hr, hstarved, hfrom]

/-- The states in which the winch neither moves the line nor waits to: it wants nothing, in RUN too. -/
theorem winchWants_of_idle {s : State}
    (h : s.winch.state = .locked ∨ s.winch.state = .hold ∨ s.winch.state = .stalled ∨ s.winch.state = .endIn ∨
      s.winch.state = .endOut) : winchWants s = (0, 0) := by
  obtain h | h | h | h | h := h <;> simp [winchWants, h]

/-! ### A reset ends in START or HALT (R1, R2, R4) -/

/-- Incidents recorded one after another leave the controller alone (R163). -/
theorem foldl_record_ctl (code : IncidentCode) (details : List Nat) (s : State) :
    (details.foldl (fun t d => record code (BitVec.ofNat 16 d) t) s).ctl = s.ctl := by
  induction details generalizing s with
  | nil => rfl
  | cons d rest ih => simp [ih]

@[simp] theorem loadWorking_station (s : State) : (loadWorking s).ctl.station = s.ctl.station := by
  simp [loadWorking, foldl_record_ctl]

@[simp] theorem queueStation_station (s : State) : (queueStation s).ctl.station = s.ctl.station := by
  simp [queueStation]

/-- An activation of HOME leaves the controller alone, from every winch state (R116). -/
@[simp] theorem homeActivated_ctl (s : State) : (homeActivated s).ctl = s.ctl := by
  cases hw : roleIs s .winch
  · simp [homeActivated, hw]
  · cases hstate : s.winch.state
    case payout => simp [homeActivated, hw, hstate, setHomeLevel, apply_ite State.ctl]
    all_goals simp [homeActivated, hw, hstate, setHomeLevel]

theorem beginStart_station (s : State) : (beginStart s).ctl.station = s.ctl.station := by
  unfold beginStart
  dsimp only
  split <;> simp

/-- HALT on a strap fault, START on valid straps. -/
theorem resetStation_station (kind : ResetKind) (pins : Pins) (s : State) :
    (resetStation kind pins s).ctl.station = if strapFault pins then .halt else .start := by
  unfold resetStation
  dsimp only
  split
  · rfl
  · rw [beginStart_station]; rfl

theorem resetStation_not_run (kind : ResetKind) (pins : Pins) (s : State) :
    (resetStation kind pins s).ctl.station ≠ .run := by
  rw [resetStation_station]; split <;> simp

/-! ### A share computation takes the wants over (R48) -/

/-- The hand-overs to the lamp unit and the winch controller leave the wants as the computation found them. -/
theorem shareCompute_wants (cause : ShareCause) (s : State) : (shareCompute cause s).share.wants = ownWants s := by
  simp [shareCompute, computedShare]

theorem ownWants_of_winch {s : State} (h : roleIs s .winch = true) :
    (ownWants s).a = (winchWants s).1 ∧ (ownWants s).b = (winchWants s).2 := by
  simp [ownWants, h]

end Sys2Proof.Machine

open Sys2Proof Sys2Proof.Machine

/-- Settles O45: the wants state by state, 0 after a reset because no reset ends in RUN, and the share unit's own wants on
WINCH. -/
theorem winchWantsTable : Obligations.WinchWantsTable := by
  intro s
  refine ⟨winchWants_of_not_run, fun hr => ⟨winchWants_of_haul hr, winchWants_of_payout hr, winchWants_of_idle⟩,
    fun kind pins => winchWants_of_not_run (resetStation_not_run kind pins s), fun cause hw => ?_⟩
  rw [shareCompute_wants]
  exact ownWants_of_winch hw
end

section
/-! Proofs about SETTING (chapter 10, R166): the frame a station takes and answers, the result of a SETTING as its
conditions decide it, and the one item that an OK writes; then the obligation. -/

namespace Sys2Proof.Machine

/-! ### A frame the station takes (R153, R155) -/

theorem takesFrame_iff {s : State} {first : Byte} {rx : Rx} {data : List Byte} :
    takesFrame s first rx data = true ↔
      listening s = true ∧ receive first rx data = .intact data ∧ rx.source.toNat ≠ ownAddress s := by
  simp only [takesFrame, Bool.and_eq_true, beq_iff_eq, bne_iff_ne, and_assoc]

theorem station_ne_halt_of_takesFrame {s : State} {first : Byte} {rx : Rx} {data : List Byte}
    (h : takesFrame s first rx data = true) : s.ctl.station ≠ .halt := by
  obtain ⟨hlisten, -, -⟩ := takesFrame_iff.1 h
  simp only [listening, Bool.and_eq_true, bne_iff_ne] at hlisten
  exact hlisten.1

/-- A frame that is taken and has a length its topic allows is delivered between the port's RECEIVE and its echo. -/
theorem frameArrives_of_takesFrame {s : State} {first : Byte} {rx : Rx} {data : List Byte}
    (deliver : BitVec 4 → List Byte → State → State) (h : takesFrame s first rx data = true)
    (hlength : lengthAllowed first data.length = true) :
    frameArrives first rx data deliver s = endEcho rx.span (deliver rx.source data (beginReceive rx.span s)) := by
  obtain ⟨hlisten, hintact, hsource⟩ := takesFrame_iff.1 h
  have hother : rx.source.toNat ≠ ownAddress (beginReceive rx.span s) := hsource
  simp [frameArrives, hlisten, hintact, hother, hlength]

theorem endEcho_of_not_halt (span : Nat) {s : State} (h : s.ctl.station ≠ .halt) :
    endEcho span s =
      s.setPort { s.port with port := .waitIdle, recessive := 0, echo := .echo, paceSpan := span } := by
  simp [endEcho, h]

theorem serve_of_targeted (take : BitVec 4 → State → State) (source : BitVec 4) {data : List Byte} {s : State}
    (h : targeted s (byteAt data 0) = true) : serve take source data s = take source s := by
  simp [serve, h]

/-- An answer given while the frame is received waits in the ANSWER slot until the echo is over (R155, R164). -/
theorem endEcho_answer_beginReceive (span : Nat) (asker : BitVec 4) (kind : BitVec 5) (result : AnswerResult)
    (index : Byte) (payload : List Byte) {s : State} (h : s.ctl.station ≠ .halt) :
    endEcho span (answer asker kind result index payload (beginReceive span s)) =
      s.setPort (afterAnswer span (answerData asker kind result index payload) s.port) := by
  have hbusy : (beginReceive span s).port.port ≠ .idle := by simp [beginReceive]
  rw [answer, queueFrame_of_busy _ _ _ hbusy]
  exact endEcho_of_not_halt span h

/-! ### The result of a SETTING (R166) -/

theorem settingValue_eq (id : Nat) (value : Half) :
    settingValue id value = if 32 ≤ id ∧ id ≤ 37 then value.toInt else (value.toNat : Int) := by
  simp [settingValue, signedSetting]

theorem SettingRow.admits_iff {r : SettingRow} {v : Int} : r.admits v = true ↔ r.lo ≤ v ∧ v ≤ r.hi := by
  simp [SettingRow.admits]

section
variable {s : State} {id : Nat} (value : Half)

theorem settingResult_of_not_setup (h : s.ctl.station ≠ .setup) : settingResult s id value = .wrongState := by
  simp [settingResult, h]

theorem settingResult_of_committing (h : s.ctl.station = .setup) (hc : s.ctl.commit.isSome = true) :
    settingResult s id value = .busy := by
  simp [settingResult, h, hc]

theorem settingResult_of_no_row (h : s.ctl.station = .setup) (hc : s.ctl.commit = none)
    (hrow : settingRow id = none) : settingResult s id value = .unknown := by
  simp [settingResult, h, hc, hrow]

theorem settingResult_of_row {r : SettingRow} (h : s.ctl.station = .setup) (hc : s.ctl.commit = none)
    (hrow : settingRow id = some r) :
    settingResult s id value = if r.admits (settingValue id value) then .ok else .outOfRange := by
  simp [settingResult, h, hc, hrow]

end

/-! ### What a SETTING writes (R166) -/

/-- The station with the item written where the SETTING's result is OK: `takeSetting` without its answer. -/
def writeSetting (id : Nat) (value : Half) (s : State) : State :=
  if settingResult s id value = .ok then
    s.setCtl { s.ctl with working := s.ctl.working.set id (settingValue id value) }
  else s

theorem takeSetting_eq (id : Byte) (value : Half) (source : BitVec 4) (s : State) :
    takeSetting id value source s =
      answer source 19 (settingResult s id.toNat value) id [] (writeSetting id.toNat value s) := rfl

theorem writeSetting_of_ok {id : Nat} {value : Half} {s : State} (h : settingResult s id value = .ok) :
    writeSetting id value s =
      s.setCtl { s.ctl with working := s.ctl.working.set id (settingValue id value) } := if_pos h

theorem writeSetting_of_ne_ok {id : Nat} {value : Half} {s : State} (h : settingResult s id value ≠ .ok) :
    writeSetting id value s = s := if_neg h

@[simp] theorem writeSetting_station (id : Nat) (value : Half) (s : State) :
    (writeSetting id value s).ctl.station = s.ctl.station := by
  unfold writeSetting
  split <;> rfl

@[simp] theorem writeSetting_port (id : Nat) (value : Half) (s : State) :
    (writeSetting id value s).port = s.port := by
  unfold writeSetting
  split <;> rfl

/-- The write looks at the controller alone, so it does not matter that the port is receiving. -/
theorem writeSetting_beginReceive (id : Nat) (value : Half) (span : Nat) (s : State) :
    writeSetting id value (beginReceive span s) = beginReceive span (writeSetting id value s) := by
  have hresult : settingResult (beginReceive span s) id value = settingResult s id value := rfl
  by_cases h : settingResult s id value = .ok
  · rw [writeSetting_of_ok h, writeSetting_of_ok (hresult.trans h)]
    rfl
  · rw [writeSetting_of_ne_ok h, writeSetting_of_ne_ok (hresult ▸ h)]

/-- A SETTING for this station writes its item where its result is OK, and is answered with that result. -/
theorem exec_setting_of_takesFrame {s : State} {rx : Rx} {target id : Byte} {value : Half}
    (h : takesFrame s 0x83 rx (target :: id :: bytes2 value) = true) (htarget : targeted s target = true) :
    exec (.setting rx [target] [id] (bytes2 value)) s =
      .next ((writeSetting id.toNat value s).setPort
        (afterAnswer rx.span (answerData rx.source 19 (settingResult s id.toNat value) id []) s.port)) := by
  let a := beginReceive rx.span s
  let data := target :: id :: bytes2 value
  have hvalue : half (byteAt data 2) (byteAt data 3) = value := half_bytes2 value
  have hexec : exec (.setting rx [target] [id] (bytes2 value)) s =
      .next (frameArrives 0x83 rx data (serve (takeSetting id (half (byteAt data 2) (byteAt data 3)))) s) := rfl
  have hserve : serve (takeSetting id value) rx.source data a = takeSetting id value rx.source a :=
    serve_of_targeted _ _ htarget
  have hresult : settingResult a id.toNat value = settingResult s id.toNat value := rfl
  have hlive : (writeSetting id.toNat value s).ctl.station ≠ .halt := by
    simpa using station_ne_halt_of_takesFrame h
  rw [hexec, hvalue, frameArrives_of_takesFrame _ h rfl, hserve, takeSetting_eq, hresult, writeSetting_beginReceive,
    endEcho_answer_beginReceive _ _ _ _ _ _ hlive, writeSetting_port]

end Sys2Proof.Machine

open Sys2Proof Sys2Proof.Machine

/-- Settles O17: the frame is answered with the SETTING's result, and each clause is what its conditions make of that
result and of the write. -/
theorem settingTable : Obligations.SettingTable := by
  intro s rx target id value htakes htarget
  have hrefused {result : AnswerResult} (hresult : settingResult s id.toNat value = result) (hne : result ≠ .ok) :
      (writeSetting id.toNat value s).setPort
          (afterAnswer rx.span (answerData rx.source 19 (settingResult s id.toNat value) id []) s.port) =
        { s with port := afterAnswer rx.span (answerData rx.source 19 result id []) s.port } := by
    rw [writeSetting_of_ne_ok (hresult ▸ hne), hresult]
    rfl
  refine ⟨_, exec_setting_of_takesFrame htakes htarget, fun hstation => ?wrongState, fun hsetup hcommit => ?busy,
    fun hsetup hcommit hrow => ?unknown, fun r hsetup hcommit hrow => ?row⟩
  case wrongState => exact hrefused (settingResult_of_not_setup _ hstation) (by decide)
  case busy => exact hrefused (settingResult_of_committing _ hsetup hcommit) (by decide)
  case unknown => exact hrefused (settingResult_of_no_row _ hsetup hcommit hrow) (by decide)
  case row =>
    have hresult := settingResult_of_row value hsetup hcommit hrow
    dsimp only
    rw [← settingValue_eq, ← SettingRow.admits_iff]
    refine ⟨fun hout => hrefused (hresult.trans (if_neg hout)) (by decide), fun hin => ?_⟩
    have hok := hresult.trans (if_pos hin)
    rw [writeSetting_of_ok hok, hok]
    rfl
end

section
/-! Which pieces of a station an operation may change: one `Changes` per operation, from the frame lemmas. -/

namespace Sys2Proof.Machine

/-! ### Pieces of the station -/

/-- The pieces a frame speaks of: the blocks, with the controller and the Latest Records taken apart. -/
inductive Piece where
  | queue | ticks | pins | nvm | mode | conditions | isolated | faults | startTimer | stationTimer | commit | working
  | peers | records | winchRecord | port | cap | dem | steer | bridge | winch | pack | share | lamp | log
deriving DecidableEq

/-- A piece that two stations have alike. -/
def Piece.same (s t : State) : Piece → Prop
  | .queue => t.pending = s.pending
  | .ticks => t.ticks = s.ticks
  | .pins => t.pins = s.pins
  | .nvm => t.nvm = s.nvm
  | .mode => t.ctl.role = s.ctl.role ∧ t.ctl.radio = s.ctl.radio ∧ t.ctl.station = s.ctl.station ∧ t.ctl.held = s.ctl.held
  | .conditions => t.ctl.failsafe = s.ctl.failsafe ∧ t.ctl.demandHold = s.ctl.demandHold
  | .isolated => t.ctl.isolated = s.ctl.isolated
  | .faults => t.ctl.faults = s.ctl.faults
  | .startTimer => t.ctl.startTimer = s.ctl.startTimer
  | .stationTimer => t.ctl.stationTimer = s.ctl.stationTimer
  | .commit => t.ctl.commit = s.ctl.commit
  | .working => t.ctl.working = s.ctl.working
  | .peers => t.peers = s.peers
  | .records => t.latest.demand = s.latest.demand ∧ t.latest.allowance = s.latest.allowance ∧
      t.latest.ageFront = s.latest.ageFront ∧ t.latest.ageRear = s.latest.ageRear ∧
      t.latest.ageLamp = s.latest.ageLamp ∧ t.latest.source = s.latest.source
  | .winchRecord => t.latest.winch = s.latest.winch
  | .port => t.port = s.port
  | .cap => t.cap = s.cap
  | .dem => t.dem = s.dem
  | .steer => t.steer = s.steer
  | .bridge => t.bridge = s.bridge
  | .winch => t.winch = s.winch
  | .pack => t.pack = s.pack
  | .share => t.share = s.share
  | .lamp => t.lamp = s.lamp
  | .log => t.log = s.log

/-- Every piece of a station. -/
def allPieces : List Piece :=
  [.queue, .ticks, .pins, .nvm, .mode, .conditions, .isolated, .faults, .startTimer, .stationTimer, .commit, .working,
    .peers, .records, .winchRecord, .port, .cap, .dem, .steer, .bridge, .winch, .pack, .share, .lamp, .log]

theorem mem_allPieces (p : Piece) : p ∈ allPieces := by cases p <;> decide

/-- From `s` to `t` the listed pieces alone may change. -/
def Changes (ps : List Piece) (s t : State) : Prop := ∀ p, p ∉ ps → p.same s t

theorem Piece.same_refl (s : State) (p : Piece) : p.same s s := by
  cases p <;> simp [Piece.same]

theorem Piece.same_trans {s t u : State} {p : Piece} (h : p.same s t) (h' : p.same t u) : p.same s u := by
  cases p <;> simp_all [Piece.same]

theorem Changes.refl (ps : List Piece) (s : State) : Changes ps s s := fun p _ => p.same_refl s

theorem Changes.mono {ps qs : List Piece} {s t : State} (h : Changes ps s t) (hsub : ps ⊆ qs) : Changes qs s t :=
  fun p hp => h p fun hq => hp (hsub hq)

theorem Changes.trans {ps : List Piece} {s t u : State} (h : Changes ps s t) (h' : Changes ps t u) : Changes ps s u :=
  fun p hp => Piece.same_trans (h p hp) (h' p hp)

/-- A change read off the frame lemmas, piece by piece. -/
theorem Changes.of {ps : List Piece} {s t : State} (h : ∀ p ∈ allPieces, p ∈ ps ∨ p.same s t) : Changes ps s t :=
  fun p hp => (h p (mem_allPieces p)).resolve_left hp

/-- Any change at all. -/
theorem Changes.all (s t : State) : Changes allPieces s t := fun p hp => absurd (mem_allPieces p) hp

/-- The station after a change: the pieces that are not listed stand as they were. -/
theorem Changes.eq {ps : List Piece} {s t : State} (h : Changes ps s t) :
    t = {
      pending := if .queue ∈ ps then t.pending else s.pending
      ticks := if .ticks ∈ ps then t.ticks else s.ticks
      pins := if .pins ∈ ps then t.pins else s.pins
      nvm := if .nvm ∈ ps then t.nvm else s.nvm
      ctl := {
        role := if .mode ∈ ps then t.ctl.role else s.ctl.role
        radio := if .mode ∈ ps then t.ctl.radio else s.ctl.radio
        station := if .mode ∈ ps then t.ctl.station else s.ctl.station
        failsafe := if .conditions ∈ ps then t.ctl.failsafe else s.ctl.failsafe
        demandHold := if .conditions ∈ ps then t.ctl.demandHold else s.ctl.demandHold
        isolated := if .isolated ∈ ps then t.ctl.isolated else s.ctl.isolated
        faults := if .faults ∈ ps then t.ctl.faults else s.ctl.faults
        startTimer := if .startTimer ∈ ps then t.ctl.startTimer else s.ctl.startTimer
        stationTimer := if .stationTimer ∈ ps then t.ctl.stationTimer else s.ctl.stationTimer
        commit := if .commit ∈ ps then t.ctl.commit else s.ctl.commit
        working := if .working ∈ ps then t.ctl.working else s.ctl.working
        held := if .mode ∈ ps then t.ctl.held else s.ctl.held }
      peers := if .peers ∈ ps then t.peers else s.peers
      latest := {
        demand := if .records ∈ ps then t.latest.demand else s.latest.demand
        allowance := if .records ∈ ps then t.latest.allowance else s.latest.allowance
        winch := if .winchRecord ∈ ps then t.latest.winch else s.latest.winch
        ageFront := if .records ∈ ps then t.latest.ageFront else s.latest.ageFront
        ageRear := if .records ∈ ps then t.latest.ageRear else s.latest.ageRear
        ageLamp := if .records ∈ ps then t.latest.ageLamp else s.latest.ageLamp
        source := if .records ∈ ps then t.latest.source else s.latest.source }
      port := if .port ∈ ps then t.port else s.port
      cap := if .cap ∈ ps then t.cap else s.cap
      dem := if .dem ∈ ps then t.dem else s.dem
      steer := if .steer ∈ ps then t.steer else s.steer
      bridge := if .bridge ∈ ps then t.bridge else s.bridge
      winch := if .winch ∈ ps then t.winch else s.winch
      pack := if .pack ∈ ps then t.pack else s.pack
      share := if .share ∈ ps then t.share else s.share
      lamp := if .lamp ∈ ps then t.lamp else s.lamp
      log := if .log ∈ ps then t.log else s.log } := by
  have pick {α : Type} (p : Piece) {x y : α} (heq : p ∉ ps → x = y) : (if p ∈ ps then x else y) = x := by
    split
    · rfl
    · next hp => exact (heq hp).symm
  rw [pick .queue (h .queue), pick .ticks (h .ticks), pick .pins (h .pins), pick .nvm (h .nvm),
    pick .mode fun hp => (h .mode hp).1, pick .mode fun hp => (h .mode hp).2.1, pick .mode fun hp => (h .mode hp).2.2.1,
    pick .mode fun hp => (h .mode hp).2.2.2, pick .conditions fun hp => (h .conditions hp).1,
    pick .conditions fun hp => (h .conditions hp).2, pick .isolated (h .isolated), pick .faults (h .faults),
    pick .startTimer (h .startTimer), pick .stationTimer (h .stationTimer), pick .commit (h .commit),
    pick .working (h .working), pick .peers (h .peers), pick .records fun hp => (h .records hp).1,
    pick .records fun hp => (h .records hp).2.1, pick .records fun hp => (h .records hp).2.2.1,
    pick .records fun hp => (h .records hp).2.2.2.1, pick .records fun hp => (h .records hp).2.2.2.2.1,
    pick .records fun hp => (h .records hp).2.2.2.2.2, pick .winchRecord (h .winchRecord), pick .port (h .port),
    pick .cap (h .cap), pick .dem (h .dem), pick .steer (h .steer), pick .bridge (h .bridge), pick .winch (h .winch),
    pick .pack (h .pack), pick .share (h .share), pick .lamp (h .lamp), pick .log (h .log)]

/-! ### The operations that several events share -/

theorem record_changes (c : IncidentCode) (d : Half) (s : State) : Changes [.log] s (record c d s) :=
  .of (by simp [allPieces, Piece.same])

theorem setFaults_changes (f : FaultSet) (s : State) : Changes [.faults] s (setFaults f s) :=
  .of (by simp [allPieces, Piece.same, setFaults])

theorem queueFrame_changes (t : TxTopic) (d : List Byte) (s : State) : Changes [.port] s (queueFrame t d s) :=
  .of (by simp [allPieces, Piece.same])

theorem evalCues_changes (s : State) : Changes [.lamp] s (evalCues s) :=
  .of (by simp [allPieces, Piece.same])

theorem selectDrive_changes (s : State) : Changes [.bridge, .lamp] s (selectDrive s) :=
  .of (by simp [allPieces, Piece.same])

theorem enterWinch_changes (w : WinchState) (s : State) :
    Changes [.winchRecord, .port, .bridge, .winch, .lamp] s (enterWinch w s) :=
  .of (by simp [allPieces, Piece.same])

theorem publishWinch_changes (s : State) : Changes [.winchRecord, .port, .winch] s (publishWinch s) :=
  .of (by simp [allPieces, Piece.same])

theorem winchReact_changes (b : Bool) (s : State) :
    Changes [.winchRecord, .port, .bridge, .winch, .lamp] s (winchReact b s) :=
  .of (by simp [allPieces, Piece.same])

theorem shareCompute_changes (c : ShareCause) (s : State) :
    Changes [.winchRecord, .port, .bridge, .winch, .share, .lamp] s (shareCompute c s) :=
  .of (by simp [allPieces, Piece.same])

theorem takeTrip_changes (s : State) : Changes [.winchRecord, .port, .bridge, .winch, .share, .lamp] s (takeTrip s) :=
  .of (by simp [allPieces, Piece.same])

theorem queueTrip_changes (p : PackState) (c : TripCause) (s : State) :
    Changes [.winchRecord, .port, .bridge, .winch, .share, .lamp] s (queueTrip p c s) :=
  .of (by simp [allPieces, Piece.same])

theorem acceptAllowance_changes (d : List Byte) (s : State) :
    Changes [.records, .winchRecord, .port, .bridge, .winch, .share, .lamp] s (acceptAllowance d s) :=
  .of (by simp [allPieces, Piece.same])

theorem noteSensor_changes (s : State) :
    Changes [.faults, .log] s (noteSensor s) := by
  unfold noteSensor
  split
  · exact .of (by simp [allPieces, Piece.same, setFaults])
  · exact .refl _ _

theorem packRules_changes (s : State) :
    Changes [.winchRecord, .port, .bridge, .winch, .pack, .share, .lamp, .log] s (packRules s) :=
  .of (by simp [allPieces, Piece.same])

theorem publishAllowance_changes (s : State) :
    Changes [.records, .winchRecord, .port, .bridge, .winch, .pack, .share, .lamp] s (publishAllowance s) :=
  .of (by simp [allPieces, Piece.same])

theorem evalConditions_changes (s : State) :
    Changes [.conditions] s (evalConditions s) := by
  unfold evalConditions
  split
  · exact .of (by simp [allPieces, Piece.same])
  · exact .refl _ _

theorem demandReact_changes (b : Bool) (s : State) :
    Changes [.conditions, .winchRecord, .port, .steer, .bridge, .winch, .pack, .lamp] s (demandReact b s) := by
  have hctl : Changes [.conditions, .winchRecord, .port, .steer, .bridge, .winch, .pack, .lamp] (evalConditions s)
      (demandReact b s) := .of (by simp [allPieces, Piece.same, demandReact_ctl])
  exact ((evalConditions_changes s).mono (by decide)).trans hctl

theorem noteDemandLost_changes (a b : Band) (s : State) : Changes [.log] s (noteDemandLost a b s) :=
  .of (by simp [allPieces, Piece.same])

theorem noteConflict_changes (p : Publisher) (s : State) :
    Changes [.faults, .port, .log] s (noteConflict p s) := by
  unfold noteConflict
  dsimp only
  split_ifs
  all_goals exact .of (by simp [allPieces, Piece.same, setFaults])

theorem acceptDemand_changes (p : Publisher) (d : List Byte) (s : State) :
    Changes [.conditions, .records, .winchRecord, .port, .steer, .bridge, .winch, .pack, .lamp, .log] s (acceptDemand p d s) := by
  unfold acceptDemand
  dsimp only
  refine .trans ?_ ((demandReact_changes true _).mono (by decide))
  split
  all_goals exact .of (by simp [allPieces, Piece.same])

theorem demandArrives_changes (p : Publisher) (d : List Byte) (s : State) :
    Changes [.conditions, .faults, .records, .winchRecord, .port, .steer, .bridge, .winch, .pack, .lamp, .log] s
      (demandArrives p d s) := by
  unfold demandArrives
  have hnote := (noteConflict_changes p s).mono
    (qs := [.conditions, .faults, .records, .winchRecord, .port, .steer, .bridge, .winch, .pack, .lamp, .log]) (by decide)
  have hage (u : State) (l : Latest) (hl : l.winch = u.latest.winch) :
      Changes [.conditions, .faults, .records, .winchRecord, .port, .steer, .bridge, .winch, .pack, .lamp, .log] u
        (u.setLatest l) := .of (by simp [allPieces, Piece.same, hl])
  dsimp only
  split
  · exact ((hnote.trans (hage _ _ (by simp))).trans (hage _ _ rfl)).trans ((acceptDemand_changes p d _).mono (by decide))
  · exact hnote.trans (hage _ _ (by simp))

/-! ### The events of the station's timers and sensors -/

theorem stationTimerExpired_changes (s : State) :
    Changes [.stationTimer, .port] s (stationTimerExpired s) := by
  unfold stationTimerExpired
  split
  · exact .of (by simp [allPieces, Piece.same, queueStation])
  · exact .refl _ _

theorem sourceExpired_changes (p : Publisher) (s : State) :
    Changes [.records] s (sourceExpired p s) := by
  unfold sourceExpired
  split
  · exact .refl _ _
  · dsimp only
    split <;> exact .of (by simp [allPieces, Piece.same])

theorem demandStale_changes (s : State) :
    Changes [.conditions, .records, .winchRecord, .port, .steer, .bridge, .winch, .pack, .lamp] s (demandStale s) := by
  unfold demandStale
  dsimp only
  split
  · exact .trans (.of (by simp [allPieces, Piece.same])) ((demandReact_changes false _).mono (by decide))
  · exact .refl _ _

theorem demandLostNow_changes (s : State) :
    Changes [.conditions, .records, .winchRecord, .port, .steer, .bridge, .winch, .pack, .lamp, .log] s (demandLostNow s) := by
  unfold demandLostNow
  dsimp only
  split
  · exact .trans (.of (by simp [allPieces, Piece.same])) ((demandReact_changes false _).mono (by decide))
  · exact .refl _ _

theorem allowanceLost_changes (s : State) :
    Changes [.records, .winchRecord, .port, .bridge, .winch, .lamp] s (allowanceLost s) := by
  unfold allowanceLost
  dsimp only
  split
  · exact .trans (.of (by simp [allPieces, Piece.same])) ((winchReact_changes false _).mono (by decide))
  · exact .refl _ _

theorem winchRecordLost_changes (s : State) :
    Changes [.winchRecord, .bridge] s (winchRecordLost s) := by
  unfold winchRecordLost
  dsimp only
  split
  · exact .of (by simp [allPieces, Piece.same])
  · exact .refl _ _

theorem presenceChanged_changes (r : Role) (s : State) :
    Changes [.peers, .steer, .lamp] s (presenceChanged r s) := by
  unfold presenceChanged
  dsimp only
  split
  · split <;> exact .of (by simp [allPieces, Piece.same])
  · exact .refl _ _

theorem scanCompleted_changes (scan : Scan) (s : State) :
    Changes [.faults, .records, .winchRecord, .port, .bridge, .winch, .pack, .share, .lamp, .log] s (scanCompleted scan s) := by
  unfold scanCompleted
  dsimp only
  split
  · have hnote : Changes [.faults, .records, .winchRecord, .port, .bridge, .winch, .pack, .share, .lamp, .log] s
        (noteSensor (s.setPack (scannedPack scan s))) :=
      .trans (.of (by simp [allPieces, Piece.same])) ((noteSensor_changes _).mono (by decide))
    split
    · exact (hnote.trans ((packRules_changes _).mono (by decide))).trans ((publishAllowance_changes _).mono (by decide))
    · exact hnote
  · exact .refl _ _

theorem checkExpired_changes (s : State) :
    Changes [.faults, .winchRecord, .port, .bridge, .winch, .pack, .share, .lamp, .log] s (checkExpired s) := by
  unfold checkExpired
  dsimp only
  split_ifs
  · exact .of (by simp [allPieces, Piece.same])
  · exact .of (by simp [allPieces, Piece.same, setFaults])
  · exact .refl _ _

theorem graceExpired_changes (s : State) :
    Changes [.pack] s (graceExpired s) := by
  unfold graceExpired
  split
  · exact .of (by simp [allPieces, Piece.same])
  · exact .refl _ _

theorem packTripped_changes (i : Current) (s : State) :
    Changes [.winchRecord, .port, .bridge, .winch, .pack, .share, .lamp, .log] s (packTripped i s) := by
  unfold packTripped
  dsimp only
  split_ifs
  all_goals exact .of (by simp [allPieces, Piece.same])

theorem holdExpired_changes (s : State) :
    Changes [.pack] s (holdExpired s) := by
  unfold holdExpired
  split
  · exact .of (by simp [allPieces, Piece.same])
  · exact .refl _ _

theorem quietExpired_changes (s : State) :
    Changes [.pack] s (quietExpired s) := by
  unfold quietExpired
  split
  · exact .of (by simp [allPieces, Piece.same])
  · exact .refl _ _

theorem shareExpired_changes (s : State) :
    Changes [.winchRecord, .port, .bridge, .winch, .share, .lamp] s (shareExpired s) := by
  unfold shareExpired
  split
  · exact .of (by simp [allPieces, Piece.same])
  · exact .refl _ _

theorem edgeCaptured_changes (c : Nat) (rising : Bool) (stamp : Half) (s : State) :
    Changes [.pins, .cap, .dem] s (edgeCaptured c rising stamp s) := by
  unfold edgeCaptured
  dsimp only
  split_ifs
  · exact .of (by simp [allPieces, Piece.same, putOpened, stampTimer, setLevel])
  · split <;> exact .of (by simp [allPieces, Piece.same, putOpened, stampTimer, setLevel])
  · exact .refl _ _

theorem takeInterval_changes (n : Nat) (s : State) :
    Changes [.cap, .dem] s (takeInterval n s) := by
  unfold takeInterval
  unfold takeSlot
  dsimp only
  split_ifs
  all_goals exact .of (by simp [allPieces, Piece.same, setTrain])

theorem trainCaptured_changes (rising : Bool) (stamp : Half) (s : State) :
    Changes [.pins, .cap, .dem] s (trainCaptured rising stamp s) := by
  unfold trainCaptured
  dsimp only
  have hstamp : Changes [.pins, .cap, .dem] s (stampTimer stamp (setLevel 0 rising s)) :=
    .of (by simp [allPieces, Piece.same, stampTimer, setLevel])
  have htrain (u : State) (f : Train → Train) : Changes [.pins, .cap, .dem] u (setTrain f u) :=
    .of (by simp [allPieces, Piece.same, setTrain])
  split_ifs
  · split
    · exact (hstamp.trans (htrain _ _)).trans ((takeInterval_changes _ _).mono (by decide))
    · exact hstamp.trans (htrain _ _)
  · exact hstamp
  · exact .refl _ _

theorem longFlagged_changes (c : Nat) (s : State) :
    Changes [.cap] s (longFlagged c s) := by
  unfold longFlagged
  split_ifs
  all_goals exact .of (by simp [allPieces, Piece.same, setTrain, putOpened])

theorem bandChanged_changes (c : Nat) (s : State) :
    Changes [.cap, .dem] s (bandChanged c s) := by
  unfold bandChanged
  split
  · exact .of (by simp [allPieces, Piece.same])
  · exact .refl _ _

theorem armingExpired_changes (s : State) :
    Changes [.dem] s (armingExpired s) := by
  unfold armingExpired
  split
  · exact .of (by simp [allPieces, Piece.same])
  · exact .refl _ _

theorem noteSplit_changes (s : State) : Changes [.faults, .log] s (noteSplit s) := by
  unfold noteSplit
  split
  · exact .refl _ _
  · exact .of (by simp [allPieces, Piece.same, setFaults])

theorem setSteer_changes (x : Steering) (s : State) : Changes [.steer] s (s.setSteer x) :=
  .of (by simp [allPieces, Piece.same])

theorem steerRefresh_changes (s : State) : Changes [.steer] s (steerRefresh s) :=
  .of (by simp [allPieces, Piece.same])

theorem splitExpired_changes (s : State) :
    Changes [.faults, .steer, .log] s (splitExpired s) := by
  have hset (x : Steering) (u : State) : Changes [.faults, .steer, .log] u (u.setSteer x) :=
    (setSteer_changes x u).mono (by decide)
  unfold splitExpired
  dsimp only
  split_ifs
  · exact (((hset _ s).trans (hset _ _)).trans ((noteSplit_changes _).mono (by decide))).trans
      ((steerRefresh_changes _).mono (by decide))
  · exact hset _ s
  · exact .refl _ _

theorem servoFrameExpired_changes (s : State) :
    Changes [.steer] s (servoFrameExpired s) := by
  unfold servoFrameExpired
  split
  · split
    · exact .of (by simp [allPieces, Piece.same])
    · exact .refl _ _
  · exact .refl _ _

theorem servoPulseEnded_changes (s : State) : Changes [.steer] s (servoPulseEnded s) :=
  .of (by simp [allPieces, Piece.same, servoPulseEnded])

theorem periodStarted_changes (s : State) :
    Changes [.bridge, .lamp] s (periodStarted s) := by
  unfold periodStarted
  split
  · exact .of (by simp [allPieces, Piece.same])
  · exact .refl _ _

theorem dutyStepped_changes (samples : List Int) (s : State) :
    Changes [.bridge, .winch, .lamp] s (dutyStepped samples s) := by
  unfold dutyStepped
  dsimp only
  split_ifs
  all_goals exact .of (by simp [allPieces, Piece.same])

theorem cycleLimited_changes (i : Current) (s : State) :
    Changes [.bridge] s (cycleLimited i s) := by
  unfold cycleLimited
  dsimp only
  split
  · exact .of (by simp [allPieces, Piece.same])
  · exact .refl _ _

theorem winchTripped_changes (s : State) :
    Changes [.winchRecord, .port, .bridge, .winch, .lamp] s (winchTripped s) := by
  unfold winchTripped
  dsimp only
  split_ifs
  · split
    all_goals exact .of (by simp [allPieces, Piece.same])
  · exact .refl _ _

theorem oneShotTripped_changes (i : Current) (s : State) :
    Changes [.faults, .winchRecord, .port, .bridge, .winch, .lamp, .log] s (oneShotTripped i s) := by
  unfold oneShotTripped
  dsimp only
  split
  · refine .trans ?_ ((winchTripped_changes _).mono (by decide))
    split
    all_goals exact .of (by simp [allPieces, Piece.same, setFaults])
  · exact .refl _ _

theorem dwellExpired_changes (s : State) :
    Changes [.bridge, .lamp] s (dwellExpired s) := by
  unfold dwellExpired
  split
  · exact .of (by simp [allPieces, Piece.same])
  · exact .refl _ _

theorem rearmExpired_changes (s : State) :
    Changes [.bridge, .winch, .lamp] s (rearmExpired s) := by
  unfold rearmExpired
  dsimp only
  split_ifs
  all_goals exact .of (by simp [allPieces, Piece.same])

theorem hallEdged_changes (stamp : Half) (s : State) :
    Changes [.winchRecord, .port, .cap, .bridge, .winch, .lamp] s (hallEdged stamp s) := by
  unfold hallEdged
  dsimp only
  split_ifs
  all_goals exact .of (by simp [allPieces, Piece.same, stampTimer])

theorem homeActivated_changes (s : State) :
    Changes [.pins, .winchRecord, .port, .bridge, .winch, .lamp] s (homeActivated s) := by
  unfold homeActivated
  dsimp only
  split
  · split
    case h_2 =>
      split
      all_goals exact .of (by simp [allPieces, Piece.same, setHomeLevel])
    all_goals exact .of (by simp [allPieces, Piece.same, setHomeLevel])
  · exact .refl _ _

theorem stallExpired_changes (s : State) :
    Changes [.faults, .winchRecord, .port, .bridge, .winch, .lamp, .log] s (stallExpired s) := by
  unfold stallExpired
  split
  · exact .of (by simp [allPieces, Piece.same, setFaults])
  · exact .refl _ _

theorem starveExpired_changes (s : State) :
    Changes [.winchRecord, .port, .bridge, .winch, .lamp] s (starveExpired s) := by
  unfold starveExpired
  split
  · exact .of (by simp [allPieces, Piece.same])
  · exact .refl _ _

theorem winchTimerExpired_changes (s : State) :
    Changes [.winchRecord, .port, .winch] s (winchTimerExpired s) := by
  unfold winchTimerExpired
  split
  · exact publishWinch_changes s
  · exact .refl _ _

theorem blinkStepped_changes (s : State) : Changes [.lamp] s (blinkStepped s) :=
  .of (by simp [allPieces, Piece.same, blinkStepped])

theorem fadeExpired_changes (s : State) :
    Changes [.lamp] s (fadeExpired s) := by
  unfold fadeExpired
  split
  · exact .of (by simp [allPieces, Piece.same])
  · exact .refl _ _

/-! ### The events of the bus port -/

theorem becameIdle_changes (s : State) :
    Changes [.port] s (becameIdle s) := by
  unfold becameIdle
  split
  · exact .of (by simp [allPieces, Piece.same])
  · exact .refl _ _

theorem leadBegins_changes (steps : Nat) (s : State) :
    Changes [.port] s (leadBegins steps s) := by
  unfold leadBegins
  dsimp only
  split_ifs
  all_goals exact .of (by simp [allPieces, Piece.same])

theorem lineStuck_changes (s : State) :
    Changes [.port] s (lineStuck s) := by
  unfold lineStuck
  split
  · exact .refl _ _
  · exact .of (by simp [allPieces, Piece.same])

theorem shortRun_changes (s : State) :
    Changes [.port] s (shortRun s) := by
  unfold shortRun
  split
  · exact .refl _ _
  · exact .of (by simp [allPieces, Piece.same])

theorem evalIsolated_changes (s : State) :
    Changes [.conditions, .isolated, .winchRecord, .port, .steer, .bridge, .winch, .pack, .lamp, .log] s (evalIsolated s) := by
  unfold evalIsolated
  dsimp only
  split
  · refine .trans ?_ ((demandReact_changes false _).mono (by decide))
    split
    all_goals exact .of (by simp [allPieces, Piece.same])
  · exact .refl _ _

/-! ### Deliveries (R13, R16, R18, R164) -/

theorem deliverStation_changes (source : BitVec 4) (d : List Byte) (s : State) :
    Changes [.peers, .steer, .lamp] s (deliverStation source d s) := by
  unfold deliverStation
  split
  · dsimp only
    split
    all_goals exact .of (by simp [allPieces, Piece.same])
  · exact .refl _ _

theorem deliverDemand_changes (source : BitVec 4) (d : List Byte) (s : State) :
    Changes [.conditions, .faults, .records, .winchRecord, .port, .steer, .bridge, .winch, .pack, .lamp, .log] s
      (deliverDemand source d s) := by
  unfold deliverDemand
  split
  · exact demandArrives_changes _ d s
  · exact .refl _ _

theorem deliverAllowance_changes (source : BitVec 4) (d : List Byte) (s : State) :
    Changes [.records, .winchRecord, .port, .bridge, .winch, .share, .lamp] s (deliverAllowance source d s) := by
  unfold deliverAllowance
  split
  · exact acceptAllowance_changes d s
  · exact .refl _ _

theorem deliverWinch_changes (source : BitVec 4) (d : List Byte) (s : State) :
    Changes [.winchRecord, .bridge] s (deliverWinch source d s) := by
  unfold deliverWinch
  split
  · exact .of (by simp [allPieces, Piece.same])
  · exact .refl _ _

theorem deliverTrip_changes (source : BitVec 4) (d : List Byte) (s : State) :
    Changes [.winchRecord, .port, .bridge, .winch, .share, .lamp] s (deliverTrip source d s) := by
  unfold deliverTrip
  split
  · exact takeTrip_changes s
  · exact .refl _ _

theorem answer_changes (a : BitVec 4) (k : BitVec 5) (r : AnswerResult) (i : Byte) (p : List Byte) (s : State) :
    Changes [.port] s (answer a k r i p s) :=
  .of (by simp [allPieces, Piece.same, answer])

theorem takeFetch_changes (kind index : Byte) (source : BitVec 4) (s : State) :
    Changes [.port] s (takeFetch kind index source s) := by
  unfold takeFetch
  split
  all_goals exact answer_changes _ _ _ _ _ s

theorem takeSetting_changes (id : Byte) (value : Half) (source : BitVec 4) (s : State) :
    Changes [.working, .port] s (takeSetting id value source s) := by
  unfold takeSetting
  dsimp only
  refine .trans ?_ ((answer_changes _ _ _ _ _ _).mono (by decide))
  split
  · exact .of (by simp [allPieces, Piece.same])
  · exact .refl _ _

theorem takeRelease_changes (source : BitVec 4) (s : State) :
    Changes [.commit, .port] s (takeRelease source s) := by
  unfold takeRelease
  split_ifs
  · exact (answer_changes _ _ _ _ _ s).mono (by decide)
  · exact (answer_changes _ _ _ _ _ s).mono (by decide)
  · exact .of (by simp [allPieces, Piece.same])

end Sys2Proof.Machine
end

section
/-! What a command can do, said once: a reset, an event that a station outside HALT processes, or a frame with its
delivery; which pieces each may change, and how a rule is kept by all of them. -/

namespace Sys2Proof.Machine

/-! ### The events that HALT does not process (R7) -/

/-- What a command that is neither a reset nor a frame does outside HALT. -/
def liveEffect : Instr → State → State
  | .startTimerExpiry => startTimerExpired
  | .stationTimerExpiry => stationTimerExpired
  | .commitEnd stored pins => commitEnded stored pins
  | .demandSourceExpiry p => sourceExpired p
  | .demandRecordStale => demandStale
  | .demandRecordLost => demandLostNow
  | .allowanceRecordLost => allowanceLost
  | .winchRecordLost => winchRecordLost
  | .peerPresenceChange r => presenceChanged r
  | .scanCompletion scan => scanCompleted scan
  | .checkTimerExpiry => checkExpired
  | .cutgraceExpiry => graceExpired
  | .packTrip i => packTripped i
  | .holdTimerExpiry => holdExpired
  | .quietTimerExpiry => quietExpired
  | .shareTimerExpiry => shareExpired
  | .captureEdge c rising stamp => edgeCaptured c rising stamp
  | .trainEdge e => trainCaptured e.rising e.stamp
  | .longFlag c => longFlagged c
  | .channelBandChange c => bandChanged c
  | .armingTimerExpiry => armingExpired
  | .demandTimerExpiry => demandTimerExpired
  | .splitTimerExpiry => splitExpired
  | .servoFrameTimerExpiry => servoFrameExpired
  | .servoPulseEnd => servoPulseEnded
  | .periodStart => periodStarted
  | .dutyStep samples => dutyStepped samples
  | .cycleLimit i => cycleLimited i
  | .oneShotTrip i => oneShotTripped i
  | .dwellTimerExpiry => dwellExpired
  | .rearmTimerExpiry => rearmExpired
  | .windowTimerExpiry => fun s => s.setBridge { s.bridge with windowTimer := none }
  | .drivenTimerExpiry => fun s => cueEvent s (s.setBridge { s.bridge with drivenTimer := none })
  | .hallEdge stamp => hallEdged stamp
  | .homeActivation => homeActivated
  | .homeRelease => fun s => if roleIs s .winch then setHomeLevel true s else s
  | .stallTimerExpiry => stallExpired
  | .starveTimerExpiry => starveExpired
  | .winchTimerExpiry => winchTimerExpired
  | .blinkStep => blinkStepped
  | .fadeTimerExpiry => fadeExpired
  | .busIdle => becameIdle
  | .joinWindow steps => leadBegins steps
  | .lineStuck => lineStuck
  | .frameSendEnd how => sendEnded how
  | .shortDominantRun => shortRun
  | .powerOnReset _ | .pinReset _ | .stationFrame _ _ | .demandFrame _ _ | .allowanceFrame _ _ | .winchFrame _ _
  | .tripFrame _ _ | .answerFrame _ _ | .hold _ _ | .setting _ _ _ _ | .release _ _ | .restart _ _ _
  | .fetchSummary _ _ _ | .fetchPeer _ _ _ | .fetchIncident _ _ _ | .fetchSetting _ _ _ | .fetchShare _ _ _
  | .fetchCells _ _ _ | .fetchScan _ _ _ | .fetchCapture _ _ _ | .fetchWinch _ _ _ | .fetchBridge _ _ _
  | .unknownTopicFrame _ _ _ | .fetchUnknownKind _ _ _ _ => id

/-- The pieces such a command may change; RUN entry, the end of a commit and of an own frame are left open. -/
def liveChanges : Instr → List Piece
  | .startTimerExpiry | .commitEnd _ _ | .frameSendEnd _ => allPieces
  | .stationTimerExpiry => [.stationTimer, .port]
  | .demandSourceExpiry _ => [.records]
  | .demandRecordStale =>
    [.conditions, .records, .winchRecord, .port, .steer, .bridge, .winch, .pack, .lamp]
  | .demandRecordLost =>
    [.conditions, .records, .winchRecord, .port, .steer, .bridge, .winch, .pack, .lamp, .log]
  | .allowanceRecordLost => [.records, .winchRecord, .port, .bridge, .winch, .lamp]
  | .winchRecordLost => [.winchRecord, .bridge]
  | .peerPresenceChange _ => [.peers, .steer, .lamp]
  | .scanCompletion _ =>
    [.faults, .records, .winchRecord, .port, .bridge, .winch, .pack, .share, .lamp, .log]
  | .checkTimerExpiry => [.faults, .winchRecord, .port, .bridge, .winch, .pack, .share, .lamp, .log]
  | .packTrip _ => [.winchRecord, .port, .bridge, .winch, .pack, .share, .lamp, .log]
  | .cutgraceExpiry | .holdTimerExpiry | .quietTimerExpiry => [.pack]
  | .shareTimerExpiry => [.winchRecord, .port, .bridge, .winch, .share, .lamp]
  | .captureEdge _ _ _ | .trainEdge _ => [.pins, .cap, .dem]
  | .longFlag _ => [.cap]
  | .channelBandChange _ => [.cap, .dem]
  | .armingTimerExpiry => [.dem]
  | .demandTimerExpiry =>
    [.conditions, .faults, .records, .winchRecord, .port, .dem, .steer, .bridge, .winch, .pack, .lamp, .log]
  | .splitTimerExpiry => [.faults, .steer, .log]
  | .servoFrameTimerExpiry | .servoPulseEnd => [.steer]
  | .periodStart | .dwellTimerExpiry | .drivenTimerExpiry => [.bridge, .lamp]
  | .dutyStep _ | .rearmTimerExpiry => [.bridge, .winch, .lamp]
  | .cycleLimit _ | .windowTimerExpiry => [.bridge]
  | .oneShotTrip _ | .stallTimerExpiry => [.faults, .winchRecord, .port, .bridge, .winch, .lamp, .log]
  | .hallEdge _ => [.winchRecord, .port, .cap, .bridge, .winch, .lamp]
  | .homeActivation => [.pins, .winchRecord, .port, .bridge, .winch, .lamp]
  | .homeRelease => [.pins]
  | .starveTimerExpiry => [.winchRecord, .port, .bridge, .winch, .lamp]
  | .winchTimerExpiry => [.winchRecord, .port, .winch]
  | .blinkStep | .fadeTimerExpiry => [.lamp]
  | .busIdle | .joinWindow _ | .lineStuck | .shortDominantRun => [.port]
  | _ => []

theorem publishDemand_changes (s : State) :
    Changes [.conditions, .faults, .records, .winchRecord, .port, .dem, .steer, .bridge, .winch, .pack, .lamp, .log] s
      (publishDemand s) := by
  have hdem (u : State) (x : DemandBuilder) :
      Changes [.conditions, .faults, .records, .winchRecord, .port, .dem, .steer, .bridge, .winch, .pack, .lamp, .log] u
        (u.setDem x) := .of (by simp [allPieces, Piece.same])
  have hhist : Changes [.conditions, .faults, .records, .winchRecord, .port, .dem, .steer, .bridge, .winch, .pack,
      .lamp, .log] s (advanceHistory s) := hdem s _
  unfold publishDemand
  dsimp only
  split
  · split
    · exact hhist.trans (hdem _ _)
    · exact ((hhist.trans (hdem _ _)).trans ((queueFrame_changes _ _ _).mono (by decide))).trans
        ((demandArrives_changes _ _ _).mono (by decide))
  · exact hhist

theorem demandTimerExpired_changes (s : State) :
    Changes [.conditions, .faults, .records, .winchRecord, .port, .dem, .steer, .bridge, .winch, .pack, .lamp, .log] s
      (demandTimerExpired s) := by
  unfold demandTimerExpired
  split
  · exact .trans (.of (by simp [allPieces, Piece.same])) (publishDemand_changes _)
  · exact .refl _ _

theorem setBridge_changes (x : Bridge) (s : State) : Changes [.bridge] s (s.setBridge x) :=
  .of (by simp [allPieces, Piece.same])

theorem cueEvent_changes (before s : State) : Changes [.lamp] s (cueEvent before s) :=
  .of (by simp [allPieces, Piece.same])

theorem homeReleased_changes (s : State) :
    Changes [.pins] s (if roleIs s .winch then setHomeLevel true s else s) := by
  split
  · exact .of (by simp [allPieces, Piece.same, setHomeLevel])
  · exact .refl _ _

/-- Every event changes at most the pieces that the table names. -/
theorem liveEffect_changes (c : Instr) (s : State) : Changes (liveChanges c) s (liveEffect c s) := by
  cases c
  case startTimerExpiry | commitEnd | frameSendEnd => exact .all _ _
  case stationTimerExpiry => exact stationTimerExpired_changes s
  case demandSourceExpiry p => exact sourceExpired_changes p s
  case demandRecordStale => exact demandStale_changes s
  case demandRecordLost => exact demandLostNow_changes s
  case allowanceRecordLost => exact allowanceLost_changes s
  case winchRecordLost => exact winchRecordLost_changes s
  case peerPresenceChange r => exact presenceChanged_changes r s
  case scanCompletion scan => exact scanCompleted_changes scan s
  case checkTimerExpiry => exact checkExpired_changes s
  case cutgraceExpiry => exact graceExpired_changes s
  case packTrip i => exact packTripped_changes i s
  case holdTimerExpiry => exact holdExpired_changes s
  case quietTimerExpiry => exact quietExpired_changes s
  case shareTimerExpiry => exact shareExpired_changes s
  case captureEdge c rising stamp => exact edgeCaptured_changes c rising stamp s
  case trainEdge e => exact trainCaptured_changes e.rising e.stamp s
  case longFlag c => exact longFlagged_changes c s
  case channelBandChange c => exact bandChanged_changes c s
  case armingTimerExpiry => exact armingExpired_changes s
  case demandTimerExpiry => exact demandTimerExpired_changes s
  case splitTimerExpiry => exact splitExpired_changes s
  case servoFrameTimerExpiry => exact servoFrameExpired_changes s
  case servoPulseEnd => exact servoPulseEnded_changes s
  case periodStart => exact periodStarted_changes s
  case dutyStep samples => exact dutyStepped_changes samples s
  case cycleLimit i => exact cycleLimited_changes i s
  case oneShotTrip i => exact oneShotTripped_changes i s
  case dwellTimerExpiry => exact dwellExpired_changes s
  case rearmTimerExpiry => exact rearmExpired_changes s
  case windowTimerExpiry => exact setBridge_changes _ s
  case drivenTimerExpiry => exact ((setBridge_changes _ s).mono (by decide)).trans ((cueEvent_changes s _).mono (by decide))
  case hallEdge stamp => exact hallEdged_changes stamp s
  case homeActivation => exact homeActivated_changes s
  case homeRelease => exact homeReleased_changes s
  case stallTimerExpiry => exact stallExpired_changes s
  case starveTimerExpiry => exact starveExpired_changes s
  case winchTimerExpiry => exact winchTimerExpired_changes s
  case blinkStep => exact blinkStepped_changes s
  case fadeTimerExpiry => exact fadeExpired_changes s
  case busIdle => exact becameIdle_changes s
  case joinWindow steps => exact leadBegins_changes steps s
  case lineStuck => exact lineStuck_changes s
  case shortDominantRun => exact shortRun_changes s
  all_goals exact .refl _ _

/-! ### Deliveries of frames (R153) -/

/-- The frames by what their delivery does. -/
inductive Delivery where
  | station | demand | allowance | winch | trip | echoOnly | hold | setting (id : Byte) (value : Half) | release
  | restart (pins : Pins) | fetch (kind index : Byte)

/-- What a delivered frame does. -/
def Delivery.run : Delivery → BitVec 4 → List Byte → State → State
  | .station => deliverStation
  | .demand => deliverDemand
  | .allowance => deliverAllowance
  | .winch => deliverWinch
  | .trip => deliverTrip
  | .echoOnly => Sys2Proof.Machine.echoOnly
  | .hold => serve takeHold
  | .setting id value => serve (takeSetting id value)
  | .release => serve takeRelease
  | .restart pins => serve (takeRestart pins)
  | .fetch kind index => serve (takeFetch kind index)

/-- The pieces a delivery may change; HOLD and RESTART are left open. -/
def Delivery.changes : Delivery → List Piece
  | .station => [.peers, .steer, .lamp]
  | .demand => [.conditions, .faults, .records, .winchRecord, .port, .steer, .bridge, .winch, .pack, .lamp, .log]
  | .allowance => [.records, .winchRecord, .port, .bridge, .winch, .share, .lamp]
  | .winch => [.winchRecord, .bridge]
  | .trip => [.winchRecord, .port, .bridge, .winch, .share, .lamp]
  | .echoOnly => []
  | .hold | .restart _ => allPieces
  | .setting _ _ => [.working, .port]
  | .release => [.commit, .port]
  | .fetch _ _ => [.port]

theorem serve_changes {ps : List Piece} {take : BitVec 4 → State → State} (source : BitVec 4) (data : List Byte)
    (s : State) (h : Changes ps s (take source s)) : Changes ps s (serve take source data s) := by
  unfold serve
  split
  · exact h
  · exact .refl _ _

theorem Delivery.run_changes (v : Delivery) (source : BitVec 4) (data : List Byte) (s : State) :
    Changes v.changes s (v.run source data s) := by
  cases v
  case station => exact deliverStation_changes source data s
  case demand => exact deliverDemand_changes source data s
  case allowance => exact deliverAllowance_changes source data s
  case winch => exact deliverWinch_changes source data s
  case trip => exact deliverTrip_changes source data s
  case echoOnly => exact .refl _ _
  case hold | restart => exact .all _ _
  case setting id value => exact serve_changes source data s (takeSetting_changes id value source s)
  case release => exact serve_changes source data s (takeRelease_changes source s)
  case fetch kind index => exact serve_changes source data s (takeFetch_changes kind index source s)

/-- An own frame that leaves the shift buffer changes the port, and is complete or not (R149, R154, R157, R158). -/
theorem sendEnded_cases (how : SendEnd) (s : State) :
    (∃ p, sendEnded how s = s.setPort p) ∨
      ∃ p heard mark, sendEnded how s = frameComplete heard mark (s.setPort p) := by
  unfold sendEnded
  dsimp only
  split
  · split
    · exact .inl ⟨_, rfl⟩
    · cases how with
      | complete span heard mark => exact .inr ⟨_, heard, mark, rfl⟩
      | _ => exact .inl ⟨_, rfl⟩
  · exact .inl ⟨s.port, rfl⟩

/-! ### A rule kept by every command -/

/-- A rule that the resets, the events and the frames keep is kept by every command. -/
theorem exec_keeps {inv : State → Prop} (hreset : ∀ kind pins s, inv s → inv (resetStation kind pins s))
    (hlive : ∀ c s, s.ctl.station ≠ .halt → inv s → inv (liveEffect c s))
    (hframe : ∀ first rx data (v : Delivery) s, inv s → inv (frameArrives first rx data v.run s)) (c : Instr)
    (s t : State) (hs : inv s) (h : exec c s = .next t) : inv t := by
  have hlive' : live s (liveEffect c) = .next t → inv t := by
    rintro ⟨⟩
    split
    · exact hs
    · next hh => exact hlive c s (by simpa using hh) hs
  cases c
  case powerOnReset pins => cases h; exact hreset .powerOn pins s hs
  case pinReset pins => cases h; exact hreset .pin pins s hs
  case stationFrame rx d => cases h; exact hframe _ rx d .station s hs
  case demandFrame rx d => cases h; exact hframe _ rx d .demand s hs
  case allowanceFrame rx d => cases h; exact hframe _ rx d .allowance s hs
  case winchFrame rx d => cases h; exact hframe _ rx d .winch s hs
  case tripFrame rx d => cases h; exact hframe _ rx d .trip s hs
  case answerFrame rx d | unknownTopicFrame first rx d => cases h; exact hframe _ rx d .echoOnly s hs
  case hold rx d => cases h; exact hframe _ rx d .hold s hs
  case setting rx target id value => cases h; exact hframe _ rx _ (.setting _ _) s hs
  case release rx d => cases h; exact hframe _ rx d .release s hs
  case restart rx d pins => cases h; exact hframe _ rx d (.restart pins) s hs
  case fetchSummary | fetchPeer | fetchIncident | fetchSetting | fetchShare | fetchCells | fetchScan | fetchCapture
      | fetchWinch | fetchBridge | fetchUnknownKind => cases h; exact hframe _ _ _ (.fetch _ _) s hs
  all_goals exact hlive' h

/-- A rule that does not read the port is kept by a frame where its delivery and a clash keep it. -/
theorem frameArrives_keeps {inv : State → Prop} (hport : ∀ s p, inv s → inv (s.setPort p))
    (hhalt : ∀ s, s.ctl.station ≠ .halt → inv s → inv (enterHalt s))
    (hdeliver : ∀ (v : Delivery) source data s, s.ctl.station ≠ .halt → inv s → inv (v.run source data s)) (first : Byte)
    (rx : Rx) (data : List Byte) (v : Delivery) (s : State) (hs : inv s) : inv (frameArrives first rx data v.run s) := by
  have hecho (u : State) (hu : inv u) : inv (endEcho rx.span u) := by
    unfold endEcho
    split
    · exact hu
    · exact hport u _ hu
  unfold frameArrives
  split
  · next hlisten =>
    have hlive : s.ctl.station ≠ .halt := by
      simp only [listening, Bool.and_eq_true, bne_iff_ne] at hlisten
      exact hlisten.1
    have ha : inv (beginReceive rx.span s) := hport s _ hs
    dsimp only
    split
    · exact hport _ _ ha
    · split
      · exact hhalt _ hlive (hport _ _ ha)
      · refine hecho _ ?_
        split
        · exact hdeliver v _ _ _ hlive ha
        · exact ha
  · exact hs

/-- A rule that reads neither the port nor what only ages is kept by every step, if the resets, the events, HALT, the
deliveries and the timers' ms keep it. -/
theorem step_keeps_rule {inv : State → Prop} (hport : ∀ s p, inv s → inv (s.setPort p))
    (hqueue : ∀ s rest, inv s → inv { s with pending := rest }) (hages : ∀ s, inv s → inv (advanceAges s))
    (htimers : ∀ s, inv s → inv (advanceTimers s)) (hreset : ∀ kind pins s, inv s → inv (resetStation kind pins s))
    (hhalt : ∀ s, s.ctl.station ≠ .halt → inv s → inv (enterHalt s))
    (hlive : ∀ c s, s.ctl.station ≠ .halt → inv s → inv (liveEffect c s))
    (hdeliver : ∀ (v : Delivery) source data s, s.ctl.station ≠ .halt → inv s → inv (v.run source data s)) {s t : State}
    (hs : inv s) (h : step s = .next t) : inv t :=
  step_keeps (exec_keeps hreset hlive (frameArrives_keeps hport hhalt hdeliver)) htimers hages hqueue hs h

/-- Where a service frame is not for this station nothing happens; else it is taken. -/
theorem serve_keeps {inv : State → Prop} {take : BitVec 4 → State → State} (source : BitVec 4) (data : List Byte)
    {s : State} (hs : inv s) (h : inv (take source s)) : inv (serve take source data s) := by
  unfold serve
  split
  · exact h
  · exact hs

end Sys2Proof.Machine
end

section
/-! The large events said once: a DEMAND's arrival and publication, RUN entry, HALT and the resets. -/

namespace Sys2Proof.Machine

/-! ### A DEMAND arrives, is published, or loses the station (R9, R16, R19, R20, R78) -/

/-- A DEMAND is accepted where its publisher takes the source; else its age alone is taken (R19). -/
theorem demandArrives_cases (p : Publisher) (d : List Byte) (s : State) :
    (takesSource p s.latest.source = true ∧ demandArrives p d s = acceptDemand p d
        ((noteConflict p s).setLatest { s.latest.putAge p (some 0) with source := some p })) ∨
      (takesSource p s.latest.source = false ∧
        demandArrives p d s = (noteConflict p s).setLatest (s.latest.putAge p (some 0))) := by
  have hlatest : (noteConflict p s).latest = s.latest := by simp
  cases h : takesSource p s.latest.source
  · exact .inr ⟨rfl, by simp [demandArrives, h]⟩
  · exact .inl ⟨rfl, by simp [demandArrives, h]⟩

/-- A publication moment: the history alone, the withdrawn publication of a silenced station, or a DEMAND queued and
heard (R77, R78). -/
theorem publishDemand_cases (s : State) :
    (ownPublisher s = none ∧ publishDemand s = advanceHistory s) ∨
      (∃ p, ownPublisher s = some p ∧ silenced s = true ∧
        publishDemand s = (advanceHistory s).setDem { (advanceHistory s).dem with published := false }) ∨
      ∃ p, ownPublisher s = some p ∧ silenced s = false ∧ publishDemand s =
        demandArrives p (demandData (advanceHistory s)) (queueFrame .demand (demandData (advanceHistory s))
          ((advanceHistory s).setDem { (advanceHistory s).dem with published := true })) := by
  have hown : ownPublisher (advanceHistory s) = ownPublisher s := rfl
  have hsilenced : silenced (advanceHistory s) = silenced s := rfl
  unfold publishDemand
  dsimp only
  rw [hown, hsilenced]
  split
  · next p hp =>
    split
    · next h => exact .inr (.inl ⟨p, hp, h, rfl⟩)
    · next h => exact .inr (.inr ⟨p, hp, by simpa using h, rfl⟩)
  · next hp => exact .inl ⟨hp, rfl⟩

/-- ISOLATED follows the isolation flag in RUN, with its incident where it begins; both changes are handed on (R9). -/
theorem evalIsolated_cases (s : State) :
    ((inRun s = false ∨ s.ctl.isolated = s.port.isolation) ∧ evalIsolated s = s) ∨
      (inRun s = true ∧ s.ctl.isolated ≠ s.port.isolation ∧ evalIsolated s = demandReact false
        ((s.setCtl { s.ctl with isolated := s.port.isolation }).setLog
          (if s.port.isolation then s.log.append .isolated 0 else s.log))) := by
  cases hr : inRun s
  · exact .inl ⟨.inl rfl, by simp [evalIsolated, hr]⟩
  · by_cases hi : s.ctl.isolated = s.port.isolation
    · exact .inl ⟨.inr hi, by simp [evalIsolated, hi]⟩
    · refine .inr ⟨rfl, hi, ?_⟩
      have hrun : (inRun s && s.ctl.isolated != s.port.isolation) = true := by simp [hr, hi]
      have hif (b : Bool) (u : State) : (if b then record .isolated 0 u else u) =
          u.setLog (if b then u.log.append .isolated 0 else u.log) := by cases b <;> rfl
      unfold evalIsolated
      rw [if_pos hrun]
      dsimp only
      rw [hif]
      exact congrArg (demandReact false) rfl

/-! ### RUN entry (R6) -/

/-- The controller's part of RUN entry. -/
theorem controllerEnterRun_eq (s : State) :
    controllerEnterRun s = { s with
      latest := { s.latest with demand := {} }
      ctl := { s.ctl with
        station := .run, startTimer := none, failsafe := true, demandHold := false, isolated := s.port.isolation }
      log := if s.port.isolation then s.log.append .isolated 0 else s.log } := by
  cases h : s.port.isolation <;> simp [controllerEnterRun, h, State.setLatest, State.setCtl, record, State.setLog]

theorem steerEnterRun_changes (s : State) : Changes [.steer] s (steerEnterRun s) :=
  .of (by simp [allPieces, Piece.same])

theorem bridgeEnterRun_changes (s : State) : Changes [.bridge, .lamp] s (bridgeEnterRun s) :=
  .of (by simp [allPieces, Piece.same])

theorem winchEnterRun_changes (s : State) : Changes [.winchRecord, .port, .winch] s (winchEnterRun s) :=
  .of (by simp [allPieces, Piece.same])

theorem packEnterRun_changes (s : State) : Changes [.pack] s (packEnterRun s) := by
  unfold packEnterRun
  split
  · exact .of (by simp [allPieces, Piece.same])
  · exact .refl _ _

theorem lampsEnterRun_changes (s : State) : Changes [.lamp] s (lampsEnterRun s) :=
  .of (by simp [allPieces, Piece.same])

theorem queueStation_changes (s : State) : Changes [.stationTimer, .port] s (queueStation s) :=
  .of (by simp [allPieces, Piece.same, queueStation])

theorem shareEnterRun_changes (s : State) :
    Changes [.winchRecord, .port, .bridge, .winch, .share, .lamp] s (shareEnterRun s) :=
  .of (by simp [allPieces, Piece.same])

theorem demandEnterRun_changes (s : State) :
    Changes [.conditions, .faults, .records, .winchRecord, .port, .dem, .steer, .bridge, .winch, .pack, .lamp, .log] s
      (demandEnterRun s) := by
  unfold demandEnterRun
  split
  · exact .trans (.of (by simp [allPieces, Piece.same])) (publishDemand_changes _)
  · exact .refl _ _

/-- RUN entry up to the demand builder: the controller, the STATION frame, the steering, bridge, winch, pack and lamp
units (R6). -/
def blocksEnterRun (s : State) : State :=
  lampsEnterRun <| packEnterRun <| winchEnterRun <| bridgeEnterRun <| steerEnterRun <| queueStation <|
    controllerEnterRun s

theorem enterRun_eq (s : State) : enterRun s = shareEnterRun (demandEnterRun (blocksEnterRun s)) := rfl

theorem blocksEnterRun_changes (s : State) :
    Changes [.stationTimer, .winchRecord, .port, .steer, .bridge, .winch, .pack, .lamp] (controllerEnterRun s)
      (blocksEnterRun s) := by
  unfold blocksEnterRun
  refine Changes.trans ?_ ((lampsEnterRun_changes _).mono (by decide))
  refine Changes.trans ?_ ((packEnterRun_changes _).mono (by decide))
  refine Changes.trans ?_ ((winchEnterRun_changes _).mono (by decide))
  refine Changes.trans ?_ ((bridgeEnterRun_changes _).mono (by decide))
  refine Changes.trans ?_ ((steerEnterRun_changes _).mono (by decide))
  exact (queueStation_changes _).mono (by decide)

/-- After the controller RUN entry changes neither the mode of the station nor what the blocks do not own. -/
theorem enterRun_changes (s : State) :
    Changes [.conditions, .faults, .stationTimer, .records, .winchRecord, .port, .dem, .steer, .bridge, .winch, .pack,
      .share, .lamp, .log] (controllerEnterRun s) (enterRun s) := by
  rw [enterRun_eq]
  refine Changes.trans ?_ ((shareEnterRun_changes _).mono (by decide))
  refine Changes.trans ?_ ((demandEnterRun_changes _).mono (by decide))
  exact (blocksEnterRun_changes s).mono (by decide)

/-- The mode of the station once the controller has entered RUN. -/
theorem blocksEnterRun_mode (s : State) :
    (blocksEnterRun s).ctl.role = s.ctl.role ∧ (blocksEnterRun s).ctl.radio = s.ctl.radio ∧
      (blocksEnterRun s).ctl.station = .run ∧ (blocksEnterRun s).ctl.held = s.ctl.held := by
  have h := blocksEnterRun_changes s .mode (by decide)
  rw [controllerEnterRun_eq] at h
  exact h

/-- RUN entry leaves the latched straps and the settings held, and is in RUN. -/
theorem enterRun_mode (s : State) :
    (enterRun s).ctl.role = s.ctl.role ∧ (enterRun s).ctl.radio = s.ctl.radio ∧ (enterRun s).ctl.station = .run ∧
      (enterRun s).ctl.held = s.ctl.held := by
  have h := enterRun_changes s .mode (by decide)
  rw [controllerEnterRun_eq] at h
  exact h

/-! ### HALT (R7) -/

/-- The controller at the entry to HALT: the conditions clear, the timers stopped, a commit abandoned (R3, R7, R168). -/
theorem enterHalt_ctl (s : State) :
    (enterHalt s).ctl = { s.ctl with
      station := .halt, failsafe := false, demandHold := false, isolated := false, startTimer := none
      stationTimer := none, commit := none } := by
  simp [enterHalt]

/-- The blocks that HALT leaves (R7), and those it stops by a table of their own. -/
theorem enterHalt_blocks (s : State) :
    (enterHalt s).pins = s.pins ∧ (enterHalt s).peers = s.peers ∧ (enterHalt s).latest = s.latest ∧
      (enterHalt s).cap = s.cap ∧ (enterHalt s).log = s.log ∧ (enterHalt s).pending = s.pending ∧
      (enterHalt s).ticks = s.ticks ∧ (enterHalt s).nvm = abandonedNvm s ∧ (enterHalt s).port = haltPort s.port ∧
      (enterHalt s).pack = haltPack s.pack ∧ (enterHalt s).share = { s.share with timer := none } ∧
      (enterHalt s).dem = { s.dem with armingTimer := none, demandTimer := none } := by
  simp [enterHalt]

/-! ### The winch controller's reactions (R117, R118, R124) -/

/-- The effective command and the lock condition taken in (R117). -/
def winchRead (s : State) : State :=
  s.setWinch { s.winch with command := effectiveCommand s, lock := lockCause s }

/-- LOCKED is entered where the lock condition begins (R118). -/
def winchLocked (s : State) : State :=
  if lockCause s && !s.winch.lock then enterWinch .locked (winchRead s) else winchRead s

/-- The end of the lock condition brings an evaluation (R118). -/
def winchUnlocked (s : State) : State :=
  if s.winch.lock && !lockCause s then winchEvaluate (winchLocked s) else winchLocked s

/-- The winch controller's reaction on WINCH in RUN: an acceptance, or a changed command, brings an evaluation (R117). -/
theorem winchReact_eq (b : Bool) {s : State} (hw : roleIs s .winch = true) (hr : inRun s = true) :
    winchReact b s =
      if b || effectiveCommand s != s.winch.command then winchEvaluate (winchUnlocked s) else winchUnlocked s :=
  if_pos (by simp [hw, hr])

/-- A property that the reading, the lock and the evaluations keep is kept by the reaction. -/
theorem winchReact_keeps {P : State → Prop} {s : State} (b : Bool) (hs : P s)
    (hread : roleIs s .winch = true → inRun s = true → P (winchRead s))
    (hlock : P (winchRead s) → P (enterWinch .locked (winchRead s)))
    (heval : ∀ u, P u → P (winchEvaluate u)) : P (winchReact b s) := by
  cases hw : roleIs s .winch
  · rw [winchReact_of_not_winch b hw]; exact hs
  cases hr : inRun s
  · have h : winchReact b s = s := by simp [winchReact, hr]
    rw [h]; exact hs
  have hlocked : P (winchLocked s) := by
    unfold winchLocked
    split
    · exact hlock (hread hw hr)
    · exact hread hw hr
  have hunlocked : P (winchUnlocked s) := by
    unfold winchUnlocked
    split
    · exact heval _ hlocked
    · exact hlocked
  rw [winchReact_eq b hw hr]
  split
  · exact heval _ hunlocked
  · exact hunlocked

/-- What a grant hand-over can do: nothing, the return from STARVED, or the starve timer (R124). -/
theorem winchHandOver_cases (s : State) :
    winchHandOver s = s ∨
      (roleIs s .winch = true ∧ inRun s = true ∧ s.winch.state = .starved ∧
        ((s.winch.starvedFrom = some .haul ∧ s.winch.command = .inward ∧
            winchHandOver s = enterWinch (if homeActive s then .endIn else .haul) s) ∨
          (s.winch.starvedFrom = some .payout ∧ s.winch.command = .outward ∧
            winchHandOver s = enterWinch (if atLineEnd s then .endOut else .payout) s))) ∨
      (roleIs s .winch = true ∧ inRun s = true ∧ s.winch.state ≠ .starved ∧
        winchHandOver s = s.setWinch (starveRule (winchMinimum s) (tierGrant s) s.winch)) := by
  cases hw : roleIs s .winch
  · exact .inl (winchHandOver_of_not_winch hw)
  cases hr : inRun s
  · exact .inl (by simp [winchHandOver, hr])
  by_cases hstarved : s.winch.state = .starved
  · cases henough : decide (winchMinimum s * 5 / 4 ≤ tierGrant s)
    · refine .inl ?_
      simp only [winchHandOver, hw, hr, hstarved, henough, Bool.and_self, if_true, Bool.false_eq_true, if_false]
      split <;> rfl
    · by_cases hin : s.winch.starvedFrom = some .haul ∧ s.winch.command = .inward
      · refine .inr (.inl ⟨rfl, rfl, hstarved, .inl ⟨hin.1, hin.2, ?_⟩⟩)
        simp only [winchHandOver, hw, hr, hstarved, henough, hin.1, hin.2, Bool.and_self, if_true]
      · by_cases hout : s.winch.starvedFrom = some .payout ∧ s.winch.command = .outward
        · refine .inr (.inl ⟨rfl, rfl, hstarved, .inr ⟨hout.1, hout.2, ?_⟩⟩)
          simp only [winchHandOver, hw, hr, hstarved, henough, hout.1, hout.2, Bool.and_self, if_true]
        · refine .inl ?_
          simp only [winchHandOver, hw, hr, hstarved, henough, Bool.and_self, if_true]
          split
          · next h h' => exact absurd ⟨h, h'⟩ hin
          · next h h' => exact absurd ⟨h, h'⟩ hout
          · rfl
  · exact .inr (.inr ⟨rfl, rfl, hstarved, by simp [winchHandOver, hw, hr, hstarved]⟩)

/-! ### The Hall edge and HOME (R114, R116) -/

/-- A Hall edge counted: P, the edges, the stall timer, and the capture timer at its stamp (R114, R123). -/
def hallCounted (stamp : Half) (s : State) : State :=
  (stampTimer stamp s).setWinch { s.winch with
    position := limitTo (-32768) 32767 (s.winch.position + hallChange s.bridge.driveState)
    hallEdges := satSucc 65535 s.winch.hallEdges
    stallTimer :=
      if (s.winch.state == .haul || s.winch.state == .payout) && s.winch.stallTimer.isSome then some (stallTime s)
      else s.winch.stallTimer }

/-- A Hall edge is counted; in PAYOUT at the outward end END-OUT is entered (R121, R125). -/
theorem hallEdged_eq (stamp : Half) {s : State} (h : roleIs s .winch = true) :
    hallEdged stamp s = brakeAtEnd (if s.winch.state == .payout && atLineEnd (hallCounted stamp s) then
      enterWinch .endOut (hallCounted stamp s) else hallCounted stamp s) := if_pos h

/-- An activation of HOME taken: P is 0, HOMED is set (R116). -/
def homeCounted (s : State) : State :=
  (setHomeLevel false s).setWinch { s.winch with
    position := 0, homed := true, activations := satSucc 255 s.winch.activations }

/-- HOME ends HAUL in END-IN; in PAYOUT it changes the duty, or ends it at the outward end (R116, R120, R121). -/
theorem homeActivated_eq {s : State} (h : roleIs s .winch = true) :
    homeActivated s = brakeAtEnd (match s.winch.state with
      | .haul => enterWinch .endIn (homeCounted s)
      | .payout =>
        if atLineEnd (homeCounted s) then enterWinch .endOut (homeCounted s) else selectDrive (homeCounted s)
      | .locked | .hold | .stalled | .starved | .endIn | .endOut => homeCounted s) := if_pos h

/-! ### Resets (R1, R2, R4, R169, R170) -/

theorem foldl_record (code : IncidentCode) (details : List Nat) (s : State) :
    details.foldl (fun t d => record code (BitVec.ofNat 16 d) t) s =
      s.setLog (details.foldl (fun l d => l.append code (BitVec.ofNat 16 d)) s.log) := by
  induction details generalizing s with
  | nil => rfl
  | cons d rest ih => simp only [List.foldl_cons, ih]; rfl

/-- The settings START loads, with the incidents of the items it defaults (R169). -/
theorem loadWorking_eq (s : State) :
    loadWorking s = { s with
      ctl := { s.ctl with
        working := (loadSettings s.nvm).1, held := (loadSettings s.nvm).1
        faults := { s.ctl.faults with settingsDefaulted := !(loadSettings s.nvm).2.isEmpty } }
      log := (loadSettings s.nvm).2.foldl (fun l d => l.append .settingsDefaulted (BitVec.ofNat 16 d)) s.log } := by
  unfold loadWorking
  dsimp only
  rw [foldl_record]
  rfl

/-- CAP5 already stands where an activation of HOME found it low (R80). -/
theorem caps_of_homeActive {s : State} (h : homeActive s = true) : s.pins.caps &&& 0x1F = s.pins.caps := by
  have hlow (c : BitVec 6) (hc : c.getLsbD 5 = false) : c &&& 0x1F = c := by revert c; decide
  exact hlow _ (by simpa [homeActive] using h)

/-- An activation of HOME in LOCKED with the gates off sets P and HOMED alone (R116). -/
theorem homeActivated_of_locked {s : State} (hw : roleIs s .winch = true) (hhome : homeActive s = true)
    (hstate : s.winch.state = .locked) (hgates : s.bridge.applied = {}) :
    homeActivated s = { s with winch := { s.winch with
      position := 0, homed := true, activations := satSucc 255 s.winch.activations } } := by
  have hcaps : s.pins.caps &&& 0x1F = s.pins.caps := caps_of_homeActive hhome
  have hpins : setHomeLevel false s = s := by
    unfold setHomeLevel
    rw [if_neg (by decide), hcaps]
    rfl
  unfold homeActivated
  rw [if_pos hw, hpins]
  simp [hstate, brakeAtEnd, drivesPastEnd, hgates, State.setWinch]

/-- A station queued on a port that has just been reset waits in its slot (R155). -/
theorem queueStation_of_reset {s : State} (h : s.port = {}) :
    queueStation s = { s with
      ctl := { s.ctl with stationTimer := some 20 }
      port := { slots := { station := some (stationData s) } } } := by
  have hbusy : (s.setCtl { s.ctl with stationTimer := some 20 }).port.port ≠ .idle := by simp [h]
  unfold queueStation
  rw [queueFrame_of_busy _ _ _ hbusy]
  simp [h, State.setPort, State.setCtl, Slots.put]

/-- What START leaves of a station whose blocks are at their reset values. -/
theorem beginStart_eq {s : State} (hport : s.port = {}) (hwinch : s.winch = {}) (hbridge : s.bridge = {}) :
    ∃ d, beginStart s = { s with
      ctl := { s.ctl with
        working := (loadSettings s.nvm).1, held := (loadSettings s.nvm).1, startTimer := some 300
        stationTimer := some 20
        faults := { s.ctl.faults with settingsDefaulted := !(loadSettings s.nvm).2.isEmpty } }
      lamp := { s.lamp with blinkTimer := some 3 }
      steer := { s.steer with shadow := settingAt (loadSettings s.nvm).1 39 }
      winch := if roleIs s .winch && homeActive s then { homed := true, activations := 1 } else {}
      port := { slots := { station := some d } }
      log := (loadSettings s.nvm).2.foldl (fun l d => l.append .settingsDefaulted (BitVec.ofNat 16 d)) s.log } := by
  let u : State := { s with
      ctl := { s.ctl with
        working := (loadSettings s.nvm).1, held := (loadSettings s.nvm).1, startTimer := some 300
        faults := { s.ctl.faults with settingsDefaulted := !(loadSettings s.nvm).2.isEmpty } }
      lamp := { s.lamp with blinkTimer := some 3 }
      steer := { s.steer with shadow := settingAt (loadSettings s.nvm).1 39 }
      log := (loadSettings s.nvm).2.foldl (fun l d => l.append .settingsDefaulted (BitVec.ofNat 16 d)) s.log }
  have hstart : beginStart s = queueStation (if roleIs u .winch && homeActive u then homeActivated u else u) := by
    unfold beginStart
    rw [loadWorking_eq]
    rfl
  have hrole : (roleIs u .winch && homeActive u) = (roleIs s .winch && homeActive s) := rfl
  rw [hstart, hrole]
  have hclear : u = u.setWinch {} := by rw [← hwinch]; rfl
  cases hc : roleIs s .winch && homeActive s
  · refine ⟨stationData u, ?_⟩
    rw [if_neg Bool.false_ne_true, hclear]
    exact queueStation_of_reset (s := u.setWinch {}) hport
  · obtain ⟨hrole, hhome⟩ := Bool.and_eq_true_iff.1 hc
    have hlocked : (u.setWinch {}).winch.state = .locked := rfl
    have hgates : (u.setWinch {}).bridge.applied = {} := congrArg Bridge.applied hbridge
    refine ⟨stationData ((u.setWinch {}).setWinch { homed := true, activations := 1 }), ?_⟩
    rw [if_pos rfl, hclear, homeActivated_of_locked (s := u.setWinch {}) hrole hhome hlocked hgates]
    exact queueStation_of_reset (s := (u.setWinch {}).setWinch { homed := true, activations := 1 }) hport

/-- A reset on a strap fault: HALT with every block at its reset value (R2). -/
theorem resetStation_of_fault (kind : ResetKind) {pins : Pins} (s : State) (h : strapFault pins = true) :
    resetStation kind pins s = (clearedState kind pins s).setCtl
      { (clearedState kind pins s).ctl with station := .halt } := by
  simp [resetStation, h]

/-- A reset on valid straps: START with the stored settings loaded (R1, R4, R169). -/
theorem resetStation_of_valid (kind : ResetKind) {pins : Pins} (s : State) (h : strapFault pins = false) :
    ∃ d, resetStation kind pins s = { clearedState kind pins s with
      ctl := {
        role := pins.role, radio := pins.radio, station := .start, startTimer := some 300, stationTimer := some 20
        faults := { settingsDefaulted := !(loadSettings (abandonedNvm s)).2.isEmpty }
        working := (loadSettings (abandonedNvm s)).1, held := (loadSettings (abandonedNvm s)).1 }
      lamp := { blinkTimer := some 3 }
      steer := { shadow := settingAt (loadSettings (abandonedNvm s)).1 39 }
      winch := if roleOf pins.role == some .winch && !pins.caps.getLsbD 5 then { homed := true, activations := 1 } else {}
      port := { slots := { station := some d } }
      log := (loadSettings (abandonedNvm s)).2.foldl (fun l d => l.append .settingsDefaulted (BitVec.ofNat 16 d))
        (clearedState kind pins s).log } := by
  obtain ⟨d, hd⟩ := beginStart_eq (s := clearedState kind pins s) rfl rfl rfl
  exact ⟨d, by simp only [resetStation, h]; exact hd⟩

/-- The blocks that every reset puts at their reset values (R170). -/
theorem resetStation_blocks (kind : ResetKind) (pins : Pins) (s : State) :
    (resetStation kind pins s).pending = s.pending ∧ (resetStation kind pins s).ticks = s.ticks ∧
      (resetStation kind pins s).pins = pins ∧ (resetStation kind pins s).nvm = abandonedNvm s ∧
      (resetStation kind pins s).peers = {} ∧ (resetStation kind pins s).latest = {} ∧
      (resetStation kind pins s).cap = {} ∧ (resetStation kind pins s).dem = {} ∧
      (resetStation kind pins s).bridge = {} ∧ (resetStation kind pins s).pack = {} ∧
      (resetStation kind pins s).share = {} := by
  cases h : strapFault pins
  · obtain ⟨d, hd⟩ := resetStation_of_valid kind s h
    rw [hd]
    exact ⟨rfl, rfl, rfl, rfl, rfl, rfl, rfl, rfl, rfl, rfl, rfl⟩
  · rw [resetStation_of_fault kind s h]
    exact ⟨rfl, rfl, rfl, rfl, rfl, rfl, rfl, rfl, rfl, rfl, rfl⟩

/-- Straps that are no fault name a role (R1, R2). -/
theorem roleOf_isSome_of_valid {pins : Pins} (h : strapFault pins = false) : (roleOf pins.role).isSome = true := by
  simp only [strapFault, Bool.or_eq_false_iff, decide_eq_false_iff_not] at h
  obtain ⟨hrole, -⟩ := h
  have hall (r : BitVec 3) (hr : ¬ 5 ≤ r.toNat) : (roleOf r).isSome = true := by revert r; decide
  exact hall _ hrole

end Sys2Proof.Machine
end

section
/-! How a rule of the whole station is kept by every step, from the pieces it reads and the few events that can move
them. -/

namespace Sys2Proof.Machine

/-! ### The end of a commit, HOLD and RESTART (R4, R167, R168) -/

/-- The end of a commit: nothing without one, a restart on a match, else the port and an incident (R168). -/
theorem commitEnded_cases (stored : StoredTable) (pins : Pins) (s : State) :
    commitEnded stored pins s = s ∨
      (∃ a, Changes [.nvm, .commit] s a ∧ commitEnded stored pins s = resetStation .restart pins a) ∨
      Changes [.nvm, .commit, .port, .log] s (commitEnded stored pins s) := by
  unfold commitEnded
  split
  · exact .inl rfl
  · next c =>
    have ha : Changes [.nvm, .commit] s ((s.setNvm stored).setCtl { s.ctl with commit := none }) :=
      .of (by simp [allPieces, Piece.same])
    dsimp only
    split
    · exact .inr (.inl ⟨_, ha, rfl⟩)
    · refine .inr (.inr ((ha.mono (by decide)).trans ?_))
      exact .trans ((answer_changes _ _ _ _ _ _).mono (by decide)) ((record_changes _ _ _).mono (by decide))

/-- SETUP entry moves the station state, two timers, the lamps and the port (R4, R11). -/
theorem enterSetup_changes (s : State) :
    Changes [.stationTimer, .lamp, .port] (s.setCtl { s.ctl with station := .setup, startTimer := none })
      (enterSetup s) := by
  have hcues := evalCues_changes (s.setCtl { s.ctl with station := .setup, startTimer := none })
  have hqueue := queueStation_changes (evalCues (s.setCtl { s.ctl with station := .setup, startTimer := none }))
  exact (hcues.mono (by decide)).trans (hqueue.mono (by decide))

/-! ### Rules that a step keeps -/

section
variable {inv : State → Prop} (hdem : ∀ s x, inv s → inv (s.setDem x))
  (hqueue : ∀ d s, inv s → inv (queueFrame .demand d s))
  (harrives : ∀ p d s, inv s → inv (demandArrives p d s))
include hdem hqueue harrives

/-- A publication moment keeps what the demand builder's own moves, a queued frame and a DEMAND's arrival keep. -/
theorem publishDemand_keeps {s : State} (hs : inv s) : inv (publishDemand s) := by
  have hhistory : inv (advanceHistory s) := hdem s _ hs
  obtain ⟨-, h⟩ | ⟨p, -, -, h⟩ | ⟨p, -, -, h⟩ := publishDemand_cases s
  · rw [h]; exact hhistory
  · rw [h]; exact hdem _ _ hhistory
  · rw [h]; exact harrives _ _ _ (hqueue _ _ (hdem _ _ hhistory))

theorem demandEnterRun_keeps {s : State} (hs : inv s) : inv (demandEnterRun s) := by
  have harm (u : State) (hu : inv u) : inv (armingRule u) := hdem u _ hu
  unfold demandEnterRun
  split
  · exact publishDemand_keeps hdem hqueue harrives (harm _ (hdem _ _ hs))
  · exact hs

end

/-- The four events whose parts a rule is shown for one by one. -/
def compound : Instr → Bool
  | .startTimerExpiry | .commitEnd _ _ | .frameSendEnd _ | .demandTimerExpiry => true
  | _ => false

/-- The deliveries that a rule is shown for as they stand. -/
def Delivery.single : Delivery → Bool
  | .station | .allowance | .winch | .trip | .setting _ _ => true
  | .demand | .echoOnly | .hold | .release | .restart _ | .fetch _ _ => false

/-- What shows that a rule which reads the pieces `reads` alone is kept by every step. -/
structure StepRule (reads : List Piece) (inv : State → Prop) : Prop where
  stable {ps : List Piece} {s t : State} : Changes ps s t → (∀ p ∈ ps, p ∉ reads) → inv s → inv t
  ages (s : State) : inv s → inv (advanceAges s)
  timers (s : State) : inv s → inv (advanceTimers s)
  reset (kind : ResetKind) (pins : Pins) (s : State) : inv s → inv (resetStation kind pins s)
  halt (s : State) : inv s → inv (enterHalt s)
  run (s : State) : s.ctl.station = .start → inv s → inv (enterRun s)
  setup (s : State) : s.ctl.station = .start → inv s → inv (enterSetup s)
  arrives (p : Publisher) (d : List Byte) (s : State) : inv s → inv (demandArrives p d s)
  isolated (s : State) : inv s → inv (evalIsolated s)
  live (c : Instr) (s : State) : compound c = false → inv s → inv (liveEffect c s)
  deliver (v : Delivery) (source : BitVec 4) (data : List Byte) (s : State) :
    v.single = true → inv s → inv (v.run source data s)

namespace StepRule

variable {reads : List Piece} {inv : State → Prop} (rule : StepRule reads inv)
  (hfree : ∀ p ∈ ([.queue, .nvm, .commit, .port, .log, .dem] : List Piece), p ∉ reads)
include rule hfree

/-- The rule reads none of the pieces that hold commands, frames, incidents and the stored table. -/
theorem keeps_free {ps : List Piece} {s t : State} (h : Changes ps s t)
    (hsub : ps ⊆ [.queue, .nvm, .commit, .port, .log, .dem]) (hs : inv s) : inv t :=
  rule.stable h (fun p hp => hfree p (hsub hp)) hs

theorem keeps_setPort (s : State) (p : BusPort) (hs : inv s) : inv (s.setPort p) :=
  rule.keeps_free hfree (ps := [.port]) (.of (by simp [allPieces, Piece.same])) (by decide) hs

theorem keeps_setDem (s : State) (x : DemandBuilder) (hs : inv s) : inv (s.setDem x) :=
  rule.keeps_free hfree (ps := [.dem]) (.of (by simp [allPieces, Piece.same])) (by decide) hs

theorem keeps_answer (asker : BitVec 4) (kind : BitVec 5) (result : AnswerResult) (index : Byte)
    (payload : List Byte) (s : State) (hs : inv s) : inv (answer asker kind result index payload s) :=
  rule.keeps_free hfree (answer_changes _ _ _ _ _ _) (by decide) hs

theorem keeps_commitEnded (stored : StoredTable) (pins : Pins) (s : State) (hs : inv s) :
    inv (commitEnded stored pins s) := by
  obtain h | ⟨a, ha, h⟩ | h := commitEnded_cases stored pins s
  · rw [h]; exact hs
  · rw [h]; exact rule.reset _ _ _ (rule.keeps_free hfree ha (by decide) hs)
  · exact rule.keeps_free hfree h (by decide) hs

theorem keeps_sendEnded (how : SendEnd) (s : State) (hs : inv s) : inv (sendEnded how s) := by
  obtain ⟨p, h⟩ | ⟨p, heard, mark, h⟩ := sendEnded_cases how s
  · rw [h]; exact rule.keeps_setPort hfree s p hs
  · have hev (u : State) (hu : inv u) : inv (if mark then enterHalt (evalIsolated u) else evalIsolated u) := by
      split
      · exact rule.halt _ (rule.isolated u hu)
      · exact rule.isolated u hu
    rw [h]
    exact hev _ (rule.keeps_setPort hfree _ _ (rule.keeps_setPort hfree s p hs))

theorem keeps_publishDemand (s : State) (hs : inv s) : inv (publishDemand s) :=
  publishDemand_keeps (rule.keeps_setDem hfree) (fun _ _ => rule.keeps_free hfree (queueFrame_changes _ _ _) (by decide))
    rule.arrives hs

theorem keeps_demandTimerExpired (s : State) (hs : inv s) : inv (demandTimerExpired s) := by
  unfold demandTimerExpired
  split
  · exact rule.keeps_publishDemand hfree _ (rule.keeps_setDem hfree _ _ hs)
  · exact hs

theorem keeps_liveEffect (c : Instr) (s : State) (hs : inv s) : inv (liveEffect c s) := by
  by_cases hc : compound c = false
  · exact rule.live c s hc hs
  · cases c
    case startTimerExpiry =>
      show inv (startTimerExpired s)
      unfold startTimerExpired
      split
      · next h => exact rule.run s (by simpa using (Bool.and_eq_true_iff.1 h).1) hs
      · exact hs
    case commitEnd stored pins => exact rule.keeps_commitEnded hfree stored pins s hs
    case frameSendEnd how => exact rule.keeps_sendEnded hfree how s hs
    case demandTimerExpiry => exact rule.keeps_demandTimerExpired hfree s hs
    all_goals exact absurd rfl hc

theorem keeps_delivery (v : Delivery) (source : BitVec 4) (data : List Byte) (s : State) (hs : inv s) :
    inv (v.run source data s) := by
  cases v
  case station | allowance | winch | trip | setting => exact rule.deliver _ source data s rfl hs
  case demand =>
    show inv (deliverDemand source data s)
    unfold deliverDemand
    split
    · exact rule.arrives _ _ _ hs
    · exact hs
  case echoOnly => exact hs
  case hold =>
    refine serve_keeps source data hs ?_
    unfold takeHold
    split
    · next h => exact rule.keeps_answer hfree _ _ _ _ _ _ (rule.setup s (by simpa using h) hs)
    · exact rule.keeps_answer hfree _ _ _ _ _ _ hs
  case restart pins =>
    refine serve_keeps source data hs ?_
    unfold takeRestart
    split
    · exact rule.keeps_answer hfree _ _ _ _ _ _ hs
    · exact rule.reset _ _ _ hs
  case release =>
    exact rule.keeps_free hfree (Delivery.release.run_changes source data s) (by decide) hs
  case fetch kind index =>
    exact rule.keeps_free hfree ((Delivery.fetch kind index).run_changes source data s) (by simp [Delivery.changes]) hs

/-- Every step keeps the rule. -/
theorem keeps_step {s t : State} (hs : inv s) (h : step s = .next t) : inv t :=
  step_keeps_rule (rule.keeps_setPort hfree)
    (fun s rest hu => rule.keeps_free hfree (ps := [.queue]) (t := { s with pending := rest })
      (.of (by simp [allPieces, Piece.same])) (by decide) hu)
    rule.ages rule.timers rule.reset (fun s _ => rule.halt s) (fun c s _ => rule.keeps_liveEffect hfree c s)
    (fun v source data s _ => rule.keeps_delivery hfree v source data s) hs h

end StepRule

end Sys2Proof.Machine
end

section
/-! The Incident List rule (R163): every operation leaves the list or appends incidents at the present clock, and both
keep it in order; then the obligation. -/

namespace Sys2Proof.Machine

/-! ### A list that incidents were appended to -/

/-- The list after incidents recorded one after the other, with no time between them. -/
inductive IncidentLog.Extends (l : IncidentLog) : IncidentLog → Prop
  | refl : Extends l l
  | append {m : IncidentLog} (c : IncidentCode) (d : Half) (h : Extends l m) : Extends l (m.append c d)

theorem IncidentLog.Extends.trans {l m n : IncidentLog} (h : l.Extends m) (h' : m.Extends n) : l.Extends n := by
  induction h' with
  | refl => exact h
  | append c d _ ih => exact ih.append c d

theorem IncidentLog.Extends.of_eq {l m : IncidentLog} (h : m = l) : l.Extends m := h ▸ .refl

/-- Where an operation leaves the log alone. -/
theorem Changes.log_extends {ps : List Piece} {s t : State} (h :
    Changes ps s t) (hp : .log ∉ ps) : s.log.Extends t.log :=
  .of_eq (h .log hp)

theorem record_log (c : IncidentCode) (d : Half) (s : State) : (record c d s).log = s.log.append c d := rfl

/-- The rule in terms of its parts (R163). -/
theorem incidentsSafe_iff (s : State) : incidentsSafe s = true ↔
    s.log.entries.length ≤ 8 ∧ s.log.entries.Pairwise (fun a b => a.time ≤ b.time) ∧
      (∀ e ∈ s.log.entries, e.time ≤ s.log.clock) ∧ s.log.clock ≤ 4294967295 := by
  simp [incidentsSafe, and_assoc]

/-- What an append keeps of the list: it drops entries at the front and adds one at the clock (R163). -/
theorem IncidentLog.append_pairwise {l : IncidentLog} (h : l.entries.Pairwise fun a b => a.time ≤ b.time)
    (hclock : ∀ e ∈ l.entries, e.time ≤ l.clock) (c : IncidentCode) (d : Half) :
    (l.append c d).entries.Pairwise fun a b => a.time ≤ b.time := by
  have hkept : ∀ k, (l.entries.drop k).Pairwise fun a b => a.time ≤ b.time := fun k => h.drop
  simp only [IncidentLog.append, List.pairwise_append, List.pairwise_singleton, List.mem_singleton, forall_eq, true_and]
  split
  · exact ⟨h, hclock⟩
  · exact ⟨hkept _, fun e he => hclock e (List.mem_of_mem_drop he)⟩

theorem incidentsSafe_of_extends {s t : State} (h : s.log.Extends t.log) (hs : incidentsSafe s = true) :
    incidentsSafe t = true := by
  rw [incidentsSafe_iff] at hs ⊢
  generalize t.log = m at h
  induction h with
  | refl => exact hs
  | append c d _ ih =>
    obtain ⟨hlength, hordered, hclock, hmax⟩ := ih
    refine ⟨IncidentLog.append_length hlength c d, IncidentLog.append_pairwise hordered hclock c d, ?_, hmax⟩
    intro e he
    rcases IncidentLog.mem_append he with h | rfl
    · exact hclock e h
    · exact Nat.le_refl _

/-! ### What the operations record -/

theorem noteSensor_log (s : State) : s.log.Extends (noteSensor s).log := by
  unfold noteSensor
  split
  · exact .append _ _ .refl
  · exact .refl

theorem noteDemandLost_log (before after : Band) (s : State) : s.log.Extends (noteDemandLost before after s).log := by
  unfold noteDemandLost
  split
  · exact .append _ _ .refl
  · exact .refl

theorem noteConflict_log (p : Publisher) (s : State) : s.log.Extends (noteConflict p s).log := by
  have hset : (setFaults { s.ctl.faults with demandConflict := true } s).log = s.log := rfl
  unfold noteConflict
  dsimp only
  split_ifs
  · simpa using .refl
  · simpa [record_log] using .append .demandConflict 0 .refl
  · exact .refl
  · exact .append _ _ .refl
  · exact .refl

theorem enterCutoff_log (s : State) : (enterCutoff s).log = s.log.append .cellCut (cellDetail s CellCounters.cut) := by
  simp [enterCutoff, record_log]

theorem packRules_log (s : State) : s.log.Extends (packRules s).log := by
  unfold packRules
  dsimp only
  split
  all_goals try split_ifs
  all_goals first
    | exact .refl
    | exact enterCutoff_log s ▸ .append _ _ .refl
    | exact .append _ _ .refl

theorem scanCompleted_log (scan : Scan) (s : State) : s.log.Extends (scanCompleted scan s).log := by
  have hnote := noteSensor_log (s.setPack (scannedPack scan s))
  unfold scanCompleted
  dsimp only
  split
  · split
    · exact (hnote.trans (packRules_log _)).trans (.of_eq (by simp))
    · exact hnote
  · exact .refl

theorem acceptDemand_log (p : Publisher) (d : List Byte) (s : State) : s.log.Extends (acceptDemand p d s).log := by
  unfold acceptDemand
  dsimp only
  split
  · simpa using .refl
  · simpa using noteDemandLost_log s.latest.demand.band (readDemand p d).band
      (s.setLatest { s.latest with demand := readDemand p d })

theorem demandArrives_log (p : Publisher) (d : List Byte) (s : State) : s.log.Extends (demandArrives p d s).log := by
  have haccept (l : Latest) : (noteConflict p s).log.Extends (acceptDemand p d ((noteConflict p s).setLatest l)).log :=
    acceptDemand_log p d ((noteConflict p s).setLatest l)
  unfold demandArrives
  dsimp only
  split
  · exact (noteConflict_log p s).trans (haccept _)
  · exact noteConflict_log p s

theorem publishDemand_log (s : State) : s.log.Extends (publishDemand s).log := by
  unfold publishDemand
  dsimp only
  split
  · split
    · exact .of_eq (by simp)
    · exact .trans (.of_eq (by simp)) (demandArrives_log _ _ _)
  · exact .of_eq (by simp)

theorem evalIsolated_log (s : State) : s.log.Extends (evalIsolated s).log := by
  unfold evalIsolated
  dsimp only
  split
  · split
    · simpa [record_log] using .append .isolated 0 .refl
    · simpa using .refl
  · exact .refl

theorem noteSplit_log (s : State) : s.log.Extends (noteSplit s).log := by
  rcases noteSplit_cases s with ⟨-, h⟩ | h
  · exact .of_eq (congrArg State.log h)
  · rw [h]
    exact .append _ _ .refl

/-! ### RUN entry, HALT and the resets -/

theorem enterRun_log (s : State) : s.log.Extends (enterRun s).log := by
  have hctl : s.log.Extends (controllerEnterRun s).log := by
    unfold controllerEnterRun
    dsimp only
    split
    · exact .append _ _ .refl
    · exact .refl
  have hpack (u : State) : (packEnterRun u).log = u.log := by
    unfold packEnterRun
    split <;> rfl
  have hdemand (u : State) : u.log.Extends (demandEnterRun u).log := by
    unfold demandEnterRun
    split
    · exact .trans (.of_eq (by simp)) (publishDemand_log _)
    · exact .refl
  refine .trans (.trans hctl (.of_eq ?_)) (.trans (hdemand (lampsEnterRun <| packEnterRun <| winchEnterRun <|
    bridgeEnterRun <| steerEnterRun <| queueStation <| controllerEnterRun s)) (.of_eq ?_))
  · simp [hpack]
  · simp [enterRun]

theorem enterHalt_log (s : State) : (enterHalt s).log = s.log := by
  simp [enterHalt]

theorem frameComplete_log (heard mark : Bool) (s : State) : s.log.Extends (frameComplete heard mark s).log := by
  have hport (p : BusPort) : s.log.Extends (evalIsolated (s.setPort p)).log := evalIsolated_log (s.setPort p)
  unfold frameComplete
  dsimp only
  split
  · exact (hport _).trans (.of_eq (enterHalt_log _))
  · exact hport _

theorem sendEnded_log (how : SendEnd) (s : State) : s.log.Extends (sendEnded how s).log := by
  rcases sendEnded_cases how s with ⟨p, h⟩ | ⟨p, heard, mark, h⟩
  · exact .of_eq (by rw [h]; rfl)
  · rw [h]
    exact frameComplete_log heard mark (s.setPort p)

theorem loadWorking_log (s : State) : s.log.Extends (loadWorking s).log := by
  have hfold (details : List Nat) (u : State) :
      u.log.Extends (details.foldl (fun t d => record .settingsDefaulted (BitVec.ofNat 16 d) t) u).log := by
    induction details generalizing u with
    | nil => exact .refl
    | cons d rest ih => exact .trans (.append .settingsDefaulted (BitVec.ofNat 16 d) .refl) (ih (record _ _ u))
  have hset (x : Controller) (details : List Nat) : s.log.Extends
      (details.foldl (fun t d => record .settingsDefaulted (BitVec.ofNat 16 d) t) (s.setCtl x)).log :=
    hfold details (s.setCtl x)
  exact hset _ _

theorem beginStart_log (s : State) : s.log.Extends (beginStart s).log := by
  unfold beginStart
  dsimp only
  refine .trans (loadWorking_log s) (.of_eq ?_)
  split
  · rw [(queueStation_frame _).2.2.2.2.2.2.2.2.2.2.2.2.2.2, homeActivated_changes _ .log (by decide)]
    rfl
  · simp

theorem resetStation_log (kind : ResetKind) (pins : Pins) (s : State) :
    (clearedState kind pins s).log.Extends (resetStation kind pins s).log := by
  unfold resetStation
  dsimp only
  split
  · exact .refl
  · exact beginStart_log _

theorem incidentsSafe_reset (kind : ResetKind) (pins : Pins) {s : State} (hs : incidentsSafe s = true) :
    incidentsSafe (resetStation kind pins s) = true := by
  refine incidentsSafe_of_extends (resetStation_log kind pins s) ?_
  by_cases hk : kind = .powerOn
  · simp [incidentsSafe, clearedState, hk]
  · have hlog : (clearedState kind pins s).log = s.log := if_neg hk
    exact incidentsSafe_of_extends (.of_eq hlog) hs

/-! ### The events and the frames -/

theorem incidentsSafe_live (c : Instr) {s : State} (hs : incidentsSafe s = true) :
    incidentsSafe (liveEffect c s) = true := by
  cases c
  case startTimerExpiry =>
    simp only [liveEffect, startTimerExpired]
    split
    · exact incidentsSafe_of_extends (enterRun_log s) hs
    · exact hs
  case commitEnd stored pins =>
    simp only [liveEffect, commitEnded]
    split
    · exact hs
    · split
      · exact incidentsSafe_reset _ _ hs
      · exact incidentsSafe_of_extends (.append _ _ (.of_eq (by simp [answer]))) hs
  case frameSendEnd how => exact incidentsSafe_of_extends (sendEnded_log how s) hs
  case scanCompletion scan => exact incidentsSafe_of_extends (scanCompleted_log scan s) hs
  case demandTimerExpiry =>
    simp only [liveEffect, demandTimerExpired]
    split
    · exact incidentsSafe_of_extends (publishDemand_log _) hs
    · exact hs
  case demandRecordLost =>
    simp only [liveEffect, demandLostNow]
    split
    · refine incidentsSafe_of_extends (.trans (noteDemandLost_log _ _ _) (.of_eq (demandReact_frame _ _).2.2.2.2.2.2.2.2.1)) ?_
      exact hs
    · exact hs
  case checkTimerExpiry =>
    refine incidentsSafe_of_extends ?_ hs
    simp only [liveEffect, checkExpired]
    split_ifs
    · exact .refl
    · simp only [queueTrip_frame]
      exact .append _ _ .refl
    · exact .refl
  case packTrip i =>
    refine incidentsSafe_of_extends ?_ hs
    simp only [liveEffect, packTripped]
    split_ifs
    · exact .append _ _ .refl
    · simp only [queueTrip_frame]
      exact .append _ _ (.append _ _ .refl)
    · simp only [queueTrip_frame]
      exact .append _ _ .refl
    · exact .refl
  case splitTimerExpiry =>
    refine incidentsSafe_of_extends ?_ hs
    have hnote (x y : Steering) : s.log.Extends (noteSplit ((s.setSteer x).setSteer y)).log :=
      noteSplit_log ((s.setSteer x).setSteer y)
    simp only [liveEffect, splitExpired]
    split_ifs
    · rw [steerRefresh_changes _ .log (by decide)]
      exact hnote _ _
    · exact .refl
    · exact .refl
  case oneShotTrip i =>
    refine incidentsSafe_of_extends ?_ hs
    simp only [liveEffect, oneShotTripped]
    split
    · rw [winchTripped_changes _ .log (by decide), selectDrive_changes _ .log (by decide)]
      split
      · exact .append _ _ (.append _ _ .refl)
      · exact .append _ _ .refl
    · exact .refl
  case stallTimerExpiry =>
    refine incidentsSafe_of_extends ?_ hs
    simp only [liveEffect, stallExpired]
    split
    · rw [enterWinch_changes _ _ .log (by decide)]
      exact .append _ _ .refl
    · exact .refl
  all_goals
    exact incidentsSafe_of_extends ((liveEffect_changes _ s).log_extends (of_decide_eq_false rfl)) hs

theorem incidentsSafe_deliver (v : Delivery) (source : BitVec 4) (data : List Byte) {s : State}
    (hs : incidentsSafe s = true) : incidentsSafe (v.run source data s) = true := by
  cases v
  case demand =>
    refine incidentsSafe_of_extends ?_ hs
    simp only [Delivery.run, deliverDemand]
    split
    · exact demandArrives_log _ _ _
    · exact .refl
  case hold =>
    refine serve_keeps (inv := fun u => incidentsSafe u = true) source data hs (incidentsSafe_of_extends (.of_eq ?_) hs)
    unfold takeHold
    split <;> simp [answer, enterSetup]
  case restart pins =>
    refine serve_keeps (inv := fun u => incidentsSafe u = true) source data hs ?_
    unfold takeRestart
    split
    · exact incidentsSafe_of_extends (.of_eq (by simp [answer])) hs
    · exact incidentsSafe_reset _ _ hs
  all_goals
    exact incidentsSafe_of_extends ((Delivery.run_changes _ source data s).log_extends (of_decide_eq_false rfl)) hs

/-- A ms moves the clock on, up to its bound, and records nothing. -/
theorem incidentsSafe_advanceTimers {s : State} (hs : incidentsSafe s = true) :
    incidentsSafe (advanceTimers s) = true := by
  rw [incidentsSafe_iff] at hs ⊢
  obtain ⟨hlength, hordered, hclock, hmax⟩ := hs
  refine ⟨hlength, hordered, fun e he => (hclock e he).trans (le_satSucc hmax), satSucc_le _ _⟩

end Sys2Proof.Machine

open Sys2Proof Sys2Proof.Machine

/-- Settles O57: each command extends the list at the clock, or empties it at a power-on reset; a ms moves the clock. -/
theorem incidentRuleKept : Obligations.IncidentRuleKept := by
  intro s t hs h
  exact step_keeps_rule (inv := fun u => incidentsSafe u = true) (fun _ _ hu => hu) (fun _ _ hu => hu) (fun _ hu => hu)
    (fun _ => incidentsSafe_advanceTimers) (fun kind pins _ => incidentsSafe_reset kind pins)
    (fun u _ => incidentsSafe_of_extends (.of_eq (enterHalt_log u))) (fun c _ _ => incidentsSafe_live c)
    (fun v source data _ _ => incidentsSafe_deliver v source data) hs h
end

section
/-! The main switch rule (R33, R34): what each operation does to the pack monitor, and that it keeps the switch closed in
the states that allow it alone; then the obligation. -/

namespace Sys2Proof.Machine

/-- The rule in terms of its parts (R33, R34). -/
theorem switchSafe_iff (s : State) : switchSafe s = true ↔
    (s.pack.closed = true → s.pack.state.graded = true ∨ (s.pack.state = .cutoff ∧ s.pack.cutGrace.isSome = true)) ∧
      (∀ r, s.pack.returnState = some r → r.graded = true) ∧ (s.pack.closed = true → s.ctl.station = .run) := by
  cases hc : s.pack.closed <;> cases hr : s.pack.returnState <;> simp [switchSafe, inRun, hc, hr, and_assoc]

/-- The rule reads four fields of the pack monitor and the station state. -/
theorem switchSafe_of_eq {s t : State} (hclosed : t.pack.closed = s.pack.closed) (hstate : t.pack.state = s.pack.state)
    (hgrace : t.pack.cutGrace.isSome = s.pack.cutGrace.isSome) (hreturn : t.pack.returnState = s.pack.returnState)
    (hstation : t.ctl.station = s.ctl.station) (hs : switchSafe s = true) : switchSafe t = true := by
  rw [switchSafe_iff] at hs ⊢
  rw [hclosed, hstate, hgrace, hreturn, hstation]
  exact hs

theorem switchSafe_of_changes {ps : List Piece} {s t : State} (h : Changes ps s t)
    (hfree : ∀ p ∈ ps, p ∉ ([.pack, .mode] : List Piece)) (hs : switchSafe s = true) : switchSafe t = true := by
  have heq : t.pack = s.pack := h .pack fun hp => hfree _ hp (by decide)
  obtain ⟨-, -, hstation, -⟩ := h .mode fun hp => hfree _ hp (by decide)
  exact switchSafe_of_eq (by rw [heq]) (by rw [heq]) (by rw [heq]) (by rw [heq]) hstation hs

/-- An open switch is allowed in every pack state. -/
theorem switchSafe_of_open {s t : State} (hs : switchSafe s = true) (hopen : t.pack.closed = false)
    (hreturn : t.pack.returnState = s.pack.returnState) : switchSafe t = true := by
  rw [switchSafe_iff] at hs ⊢
  rw [hopen, hreturn]
  exact ⟨by simp, hs.2.1, by simp⟩

/-- Outside RUN the switch is open. -/
theorem open_of_not_run {s : State} (hs : switchSafe s = true) (h : s.ctl.station ≠ .run) : s.pack.closed = false := by
  obtain ⟨-, -, hrun⟩ := (switchSafe_iff s).1 hs
  exact Bool.eq_false_iff.2 fun hc => h (hrun hc)

/-- A closed switch in a state that is not CUTOFF stands in NORMAL, LIMIT or RESERVE. -/
theorem graded_of_closed {s : State} (hs : switchSafe s = true) (hc : s.pack.closed = true)
    (hcut : s.pack.state ≠ .cutoff) : s.pack.state.graded = true := by
  obtain ⟨hclosed, -, -⟩ := (switchSafe_iff s).1 hs
  exact (hclosed hc).resolve_right fun h => hcut h.1

/-! ### A DEMAND moves the quiet timer alone (R36) -/

/-- From `s` to `t` the quiet timer alone may move in the pack monitor. -/
def QuietMoves (s t : State) : Prop := ∃ q, t.pack = { s.pack with quietTimer := q }

theorem QuietMoves.of_eq {s t : State} (h : t.pack = s.pack) : QuietMoves s t := ⟨s.pack.quietTimer, h⟩

theorem QuietMoves.trans {s t u : State} (h : QuietMoves s t) (h' : QuietMoves t u) : QuietMoves s u := by
  obtain ⟨q, h⟩ := h
  obtain ⟨r, h'⟩ := h'
  exact ⟨r, by rw [h', h]⟩

theorem QuietMoves.switchSafe {s t : State} (h : QuietMoves s t) (hstation : t.ctl.station = s.ctl.station)
    (hs : switchSafe s = true) : switchSafe t = true := by
  obtain ⟨q, h⟩ := h
  exact switchSafe_of_eq (by rw [h]) (by rw [h]) (by rw [h]) (by rw [h]) hstation hs

theorem acceptDemand_pack (p : Publisher) (d : List Byte) (s : State) : QuietMoves s (acceptDemand p d s) := by
  unfold acceptDemand
  dsimp only
  split
  · exact .trans (.of_eq (by simp)) (demandReact_pack true _)
  · exact .trans (.of_eq (by simp)) (demandReact_pack true _)

theorem demandArrives_pack (p : Publisher) (d : List Byte) (s : State) : QuietMoves s (demandArrives p d s) := by
  obtain ⟨-, h⟩ | ⟨-, h⟩ := demandArrives_cases p d s
  · rw [h]
    exact .trans (.of_eq (by simp)) (acceptDemand_pack p d _)
  · rw [h]
    exact .of_eq (by simp)

theorem publishDemand_pack (s : State) : QuietMoves s (publishDemand s) := by
  obtain ⟨-, h⟩ | ⟨p, -, -, h⟩ | ⟨p, -, -, h⟩ := publishDemand_cases s
  · rw [h]; exact .of_eq (by simp)
  · rw [h]; exact .of_eq (by simp)
  · rw [h]
    exact .trans (.of_eq (by simp)) (demandArrives_pack p _ _)

theorem evalIsolated_pack (s : State) : QuietMoves s (evalIsolated s) := by
  obtain ⟨-, h⟩ | ⟨-, -, h⟩ := evalIsolated_cases s
  · rw [h]; exact .of_eq rfl
  · rw [h]
    exact .trans (.of_eq (by simp)) (demandReact_pack false _)

theorem demandArrives_station (p : Publisher) (d : List Byte) (s : State) :
    (demandArrives p d s).ctl.station = s.ctl.station :=
  (demandArrives_changes p d s .mode (by decide)).2.2.1

theorem evalIsolated_station (s : State) : (evalIsolated s).ctl.station = s.ctl.station :=
  (evalIsolated_changes s .mode (by decide)).2.2.1

/-! ### RUN entry -/

/-- RUN entry starts the CHECK timer on PACK and moves the quiet timer; nothing else of the pack monitor changes (R29). -/
theorem enterRun_pack (s : State) : QuietMoves (packEnterRun s) (enterRun s) := by
  have hcheck (u : State) (hp : u.pack = s.pack) (hr : u.ctl.role = s.ctl.role) :
      (packEnterRun u).pack = (packEnterRun s).pack := by
    unfold packEnterRun
    rw [roleIs_congr hr, hp]
    split <;> simp [hp]
  have hdemand (u : State) : QuietMoves u (demandEnterRun u) := by
    unfold demandEnterRun
    split
    · exact .trans (.of_eq (by simp)) (publishDemand_pack _)
    · exact .of_eq rfl
  let v := winchEnterRun <| bridgeEnterRun <| steerEnterRun <| queueStation <| controllerEnterRun s
  have hctl : (controllerEnterRun s).pack = s.pack ∧ (controllerEnterRun s).ctl.role = s.ctl.role := by
    rw [controllerEnterRun_eq]
    exact ⟨rfl, rfl⟩
  have hv : QuietMoves (packEnterRun s) (lampsEnterRun (packEnterRun v)) :=
    .of_eq (by simpa using hcheck v (by simp [v, hctl]) (by simp [v, hctl, queueStation]))
  have hshare : QuietMoves (demandEnterRun (lampsEnterRun (packEnterRun v))) (enterRun s) :=
    .of_eq (by simp [enterRun, v])
  exact (hv.trans (hdemand _)).trans hshare

/-- RUN entry finds the switch open and leaves it so (R29). -/
theorem switchSafe_enterRun {s : State} (hstart : s.ctl.station = .start) (hs : switchSafe s = true) :
    switchSafe (enterRun s) = true := by
  obtain ⟨q, h⟩ := enterRun_pack s
  have hpack : (packEnterRun s).pack.closed = s.pack.closed ∧
      (packEnterRun s).pack.returnState = s.pack.returnState := by
    unfold packEnterRun
    split <;> simp
  have hopen := open_of_not_run hs (by simp [hstart])
  exact switchSafe_of_open hs (by rw [h]; exact hpack.1.trans hopen) (by rw [h]; exact hpack.2)

/-! ### The state rules of a scan completion (R30, R31, R38) -/

/-- What a scan completion's state rules do to the pack monitor, by the table of R30. -/
theorem packRules_cases (s : State) :
    (packRules s).pack = s.pack ∨ (packRules s).pack = cutoffPack (cutGraceMs s) s.pack ∨
      (∃ into : PackState, s.pack.state.graded = true ∧ into.graded = true ∧
        (packRules s).pack = { s.pack with state := into }) ∨
      (s.pack.state = .tripped ∧ (packRules s).pack = { s.pack with returnState := some .reserve }) := by
  cases hs : s.pack.state <;> simp only [packRules, hs]
  case check | cutoff | fault => exact .inl trivial
  case normal =>
    split_ifs
    · exact .inr (.inl (enterCutoff_pack s))
    · exact .inr (.inr (.inl ⟨.reserve, rfl, rfl, rfl⟩))
    · exact .inr (.inr (.inl ⟨.limit, rfl, rfl, rfl⟩))
    · exact .inl rfl
  case limit =>
    split_ifs
    · exact .inr (.inl (enterCutoff_pack s))
    · exact .inr (.inr (.inl ⟨.reserve, rfl, rfl, rfl⟩))
    · exact .inr (.inr (.inl ⟨.normal, rfl, rfl, rfl⟩))
    · exact .inl rfl
  case reserve =>
    split_ifs
    · exact .inr (.inl (enterCutoff_pack s))
    · exact .inl rfl
  case tripped =>
    split_ifs
    · exact .inr (.inl (enterCutoff_pack s))
    · exact .inr (.inr (.inr ⟨trivial, rfl⟩))
    · exact .inl rfl

/-- Each transition leaves the switch in a state that allows it (R31, R33). -/
theorem switchSafe_packRules {s : State} (hs : switchSafe s = true) : switchSafe (packRules s) = true := by
  have hstation : (packRules s).ctl.station = s.ctl.station := by simp
  obtain ⟨hclosed, hreturn, hrun⟩ := (switchSafe_iff s).1 hs
  rw [switchSafe_iff, hstation]
  obtain h | h | ⟨into, -, hinto, h⟩ | ⟨htripped, h⟩ := packRules_cases s <;> rw [h]
  · exact ⟨hclosed, hreturn, hrun⟩
  · refine ⟨fun hc => .inr ⟨rfl, ?_⟩, hreturn, fun hc => hrun (Bool.and_eq_true_iff.1 hc).1⟩
    have hgrace : (s.pack.closed && cutGraceMs s != 0) = true := hc
    simp [cutoffPack, hgrace]
  · exact ⟨fun _ => .inl hinto, hreturn, hrun⟩
  · exact ⟨hclosed, fun r hr => by cases hr; rfl, hrun⟩

theorem switchSafe_scanCompleted (scan : Scan) {s : State} (hs : switchSafe s = true) :
    switchSafe (scanCompleted scan s) = true := by
  have hscan : switchSafe (noteSensor (s.setPack (scannedPack scan s))) = true :=
    switchSafe_of_eq (by simp [scannedPack]) (by simp [scannedPack]) (by simp [scannedPack]) (by simp [scannedPack])
      (noteSensor_changes (s.setPack (scannedPack scan s)) .mode (by decide)).2.2.1 hs
  have hpublish (u : State) (hu : switchSafe u = true) : switchSafe (publishAllowance u) = true := by
    have hp := publishAllowance_pack u
    exact switchSafe_of_eq (by rw [hp]) (by rw [hp]) (by rw [hp]) (by rw [hp]) (by simp) hu
  unfold scanCompleted
  dsimp only
  split
  · split
    · exact hpublish _ (switchSafe_packRules hscan)
    · exact hscan
  · exact hs

/-! ### The events of the switch (R29, R31, R34 to R36) -/

theorem switchSafe_queueTrip (p : PackState) (c : TripCause) {s : State} (hs : switchSafe s = true) :
    switchSafe (queueTrip p c s) = true :=
  switchSafe_of_changes (queueTrip_changes p c s) (by decide) hs

/-- A switch that closes into NORMAL, LIMIT or RESERVE in RUN. -/
theorem switchSafe_of_closing {s t : State} (hs : switchSafe s = true) (hrun : t.ctl.station = .run)
    (hgraded : t.pack.state.graded = true) (hreturn : t.pack.returnState = s.pack.returnState) :
    switchSafe t = true := by
  rw [switchSafe_iff] at hs ⊢
  rw [hreturn]
  exact ⟨fun _ => .inl hgraded, hs.2.1, fun _ => hrun⟩

theorem switchSafe_checkExpired {s : State} (hs : switchSafe s = true) : switchSafe (checkExpired s) = true := by
  unfold checkExpired
  dsimp only
  split
  · next h =>
    simp only [inRun, Bool.and_eq_true, beq_iff_eq] at h
    obtain ⟨⟨⟨-, hrun⟩, hcheck⟩, -⟩ := h
    obtain ⟨hclosed, -, -⟩ := (switchSafe_iff s).1 hs
    have hopen : s.pack.closed = false := by simpa [hcheck, PackState.graded] using hclosed
    split
    · exact switchSafe_of_closing hs hrun rfl rfl
    · exact switchSafe_queueTrip _ _ (switchSafe_of_open hs hopen rfl)
  · exact hs

theorem switchSafe_graceExpired {s : State} (hs : switchSafe s = true) : switchSafe (graceExpired s) = true := by
  unfold graceExpired
  split
  · exact switchSafe_of_open hs rfl rfl
  · exact hs

theorem switchSafe_packTripped (current : Current) {s : State} (hs : switchSafe s = true) :
    switchSafe (packTripped current s) = true := by
  have hnote (u : State) (hu : switchSafe u = true) : switchSafe (record .tripLatched 0 u) = true := hu
  unfold packTripped
  dsimp only
  split
  · next h =>
    simp only [Bool.and_eq_true] at h
    obtain ⟨⟨-, hclosed⟩, -⟩ := h
    split
    · exact switchSafe_of_open hs rfl rfl
    · next hcut =>
      have hgraded := graded_of_closed hs hclosed (by simpa using hcut)
      have htripped : switchSafe ((record .packTrip (BitVec.ofNat 16 (min 255 current.whole)) s).setPack
          (trippedPack s.pack)) = true := by
        rw [switchSafe_iff]
        exact ⟨by simp [trippedPack], fun r hr => by cases hr; exact hgraded, by simp [trippedPack]⟩
      split
      · exact switchSafe_queueTrip _ _ (hnote _ htripped)
      · exact switchSafe_queueTrip _ _ htripped
  · exact hs

theorem switchSafe_holdExpired {s : State} (hs : switchSafe s = true) : switchSafe (holdExpired s) = true := by
  have hquiet (u : State) (hu : switchSafe u = true) : switchSafe (packQuiet u) = true :=
    QuietMoves.switchSafe (packQuiet_pack u) (by simp) hu
  unfold holdExpired
  split
  · exact hquiet _ (switchSafe_of_eq rfl rfl rfl rfl rfl hs)
  · exact hs

theorem switchSafe_quietExpired {s : State} (hs : switchSafe s = true) : switchSafe (quietExpired s) = true := by
  obtain ⟨-, hreturn, -⟩ := (switchSafe_iff s).1 hs
  unfold quietExpired
  split
  · next h =>
    simp only [inRun, Bool.and_eq_true, beq_iff_eq] at h
    obtain ⟨⟨⟨-, hrun⟩, -⟩, -⟩ := h
    refine switchSafe_of_closing hs hrun ?_ rfl
    show (s.pack.returnState.getD .normal).graded = true
    cases hr : s.pack.returnState with
    | none => rfl
    | some r => exact hreturn r hr
  · exact hs

/-! ### Resets and HALT (R3, R33, R170) -/

theorem switchSafe_reset (kind : ResetKind) (pins : Pins) (s : State) :
    switchSafe (resetStation kind pins s) = true := by
  obtain ⟨-, -, -, -, -, -, -, -, -, hpack, -⟩ := resetStation_blocks kind pins s
  rw [switchSafe_iff, hpack]
  exact ⟨by simp, by simp, by simp⟩

theorem switchSafe_enterHalt {s : State} (hs : switchSafe s = true) : switchSafe (enterHalt s) = true := by
  obtain ⟨-, -, -, -, -, -, -, -, -, hpack, -⟩ := enterHalt_blocks s
  exact switchSafe_of_open hs (by rw [hpack]; rfl) (by rw [hpack]; rfl)

theorem switchSafe_enterSetup {s : State} (hstart : s.ctl.station = .start) (hs : switchSafe s = true) :
    switchSafe (enterSetup s) = true := by
  have hpack : (enterSetup s).pack = s.pack := enterSetup_changes s .pack (by decide)
  exact switchSafe_of_open hs (by rw [hpack]; exact open_of_not_run hs (by simp [hstart])) (by rw [hpack])

theorem switchSafe_live (c : Instr) (s : State) (hc : compound c = false) (hs : switchSafe s = true) :
    switchSafe (liveEffect c s) = true := by
  cases c
  case startTimerExpiry | commitEnd | frameSendEnd | demandTimerExpiry => cases hc
  case demandRecordStale =>
    show switchSafe (demandStale s) = true
    unfold demandStale
    dsimp only
    split
    · exact QuietMoves.switchSafe (.trans (.of_eq (by simp)) (demandReact_pack false _))
        (demandReact_changes false _ .mode (by decide)).2.2.1 hs
    · exact hs
  case demandRecordLost =>
    show switchSafe (demandLostNow s) = true
    unfold demandLostNow
    dsimp only
    split
    · refine QuietMoves.switchSafe (.trans (.of_eq (by simp)) (demandReact_pack false _)) ?_ hs
      exact (demandReact_changes false _ .mode (by decide)).2.2.1.trans (by simp)
    · exact hs
  case scanCompletion scan => exact switchSafe_scanCompleted scan hs
  case checkTimerExpiry => exact switchSafe_checkExpired hs
  case cutgraceExpiry => exact switchSafe_graceExpired hs
  case packTrip i => exact switchSafe_packTripped i hs
  case holdTimerExpiry => exact switchSafe_holdExpired hs
  case quietTimerExpiry => exact switchSafe_quietExpired hs
  all_goals exact switchSafe_of_changes (liveEffect_changes _ s) (of_decide_eq_true rfl) hs

theorem switchSafe_rule : StepRule [.pack, .mode] fun s => switchSafe s = true where
  stable h hfree hs := switchSafe_of_changes h hfree hs
  ages _ hs := hs
  timers s hs := switchSafe_of_eq (s := s) (t := advanceTimers s) rfl rfl
    (by simp [advanceTimers, tickPack, tickTimer]) rfl rfl hs
  reset kind pins s _ := switchSafe_reset kind pins s
  halt _ hs := switchSafe_enterHalt hs
  run _ hstart hs := switchSafe_enterRun hstart hs
  setup _ hstart hs := switchSafe_enterSetup hstart hs
  arrives p d s hs := (demandArrives_pack p d s).switchSafe (demandArrives_station p d s) hs
  isolated s hs := (evalIsolated_pack s).switchSafe (evalIsolated_station s) hs
  live c s hc hs := switchSafe_live c s hc hs
  deliver v source data s hv hs := by
    refine switchSafe_of_changes (v.run_changes source data s) ?_ hs
    cases v
    case demand | echoOnly | hold | release | restart | fetch => cases hv
    all_goals exact of_decide_eq_true rfl

end Sys2Proof.Machine

open Sys2Proof Sys2Proof.Machine

/-- Settles O54: the events of the pack monitor close the switch only into NORMAL, LIMIT or RESERVE, or keep it closed in
CUTOFF with its grace; no other event moves what the rule reads, and leaving RUN opens the switch. -/
theorem switchRuleKept : Obligations.SwitchRuleKept := by
  intro s t hs h
  exact switchSafe_rule.keeps_step (by decide) hs h
end

section
/-! The share rule (R55, R56): an allocation of a station with a valid role stays within its wants and the allowance
used; then the obligation. -/

namespace Sys2Proof.Machine

/-! ### The allocation (R54, R55) -/

/-- Tier by tier no figure of `x` is above that of `y`. -/
def Tiers.Le (x y : Tiers) : Prop := x.k ≤ y.k ∧ x.a ≤ y.a ∧ x.b ≤ y.b ∧ x.c ≤ y.c

theorem Tiers.Le.trans {x y z : Tiers} (h : x.Le y) (h' : y.Le z) : x.Le z :=
  ⟨h.1.trans h'.1, h.2.1.trans h'.2.1, h.2.2.1.trans h'.2.2.1, h.2.2.2.trans h'.2.2.2⟩

theorem Tiers.le_add_left (x y : Tiers) : x.Le (x.add y) := by simp [Tiers.Le, Tiers.add]

theorem Tiers.le_add_right (x y : Tiers) : y.Le (x.add y) := by simp [Tiers.Le, Tiers.add]

theorem Tiers.le_foldl_add_start (l : List Tiers) (x : Tiers) : x.Le (l.foldl Tiers.add x) := by
  induction l generalizing x with
  | nil => exact ⟨le_rfl, le_rfl, le_rfl, le_rfl⟩
  | cons y rest ih => exact (x.le_add_left y).trans (ih _)

/-- A figure that is added up is at most the sum. -/
theorem Tiers.le_foldl_add {l : List Tiers} {x : Tiers} (h : x ∈ l) (start : Tiers) : x.Le (l.foldl Tiers.add start) := by
  induction l generalizing start with
  | nil => cases h
  | cons y rest ih =>
    obtain rfl | h := List.mem_cons.1 h
    · exact (start.le_add_right x).trans (le_foldl_add_start _ _)
    · exact ih h _

/-- The own wants are among those counted, so no tier sum is below them (R54). -/
theorem ownWants_le_viewSums {s : State} (h : (roleOf s.ctl.role).isSome = true) (own : Tiers) :
    own.Le (viewSums s own) := by
  obtain ⟨r, hr⟩ := Option.isSome_iff_exists.1 h
  have hrole : roleIs s r = true := by simp [roleIs, hr]
  have hall : r ∈ allRoles := by cases r <;> decide
  refine Tiers.le_foldl_add (List.mem_map.2 ⟨r, hall, ?_⟩) _
  simp [viewOf, hrole]

/-- No grant above its want, and the grants together within the allowance (R55, R56). -/
theorem allocate_within {own sums : Tiers} (h : own.Le sums) (allowance : Nat) :
    (allocate allowance own sums).Le own ∧
      (allocate allowance own sums).k + (allocate allowance own sums).a + (allocate allowance own sums).b +
        (allocate allowance own sums).c ≤ allowance := by
  obtain ⟨hk, ha, hb, hc⟩ := h
  obtain ⟨hk1, hk2⟩ := allocateTier_le (r := allowance) hk
  obtain ⟨ha1, ha2⟩ := allocateTier_le (r := (allocateTier allowance own.k sums.k).2) ha
  obtain ⟨hb1, hb2⟩ :=
    allocateTier_le (r := (allocateTier (allocateTier allowance own.k sums.k).2 own.a sums.a).2) hb
  obtain ⟨hc1, hc2⟩ := allocateTier_le
    (r := (allocateTier (allocateTier (allocateTier allowance own.k sums.k).2 own.a sums.a).2 own.b sums.b).2) hc
  refine ⟨⟨hk1, ha1, hb1, hc1⟩, ?_⟩
  simp only [allocate]
  omega

/-! ### The rule (R56) -/

/-- The rule read off the share unit: no grant above its want, and the grants together within the allowance used. -/
def Share.Within (x : Share) : Prop :=
  x.grants.Le x.wants ∧ x.grants.k + x.grants.a + x.grants.b + x.grants.c ≤ x.value

theorem shareSafe_iff (s : State) : shareSafe s = true ↔
    (s.ctl.station = .halt ∨ (roleOf s.ctl.role).isSome = true) ∧ s.share.Within := by
  simp only [shareSafe, Share.Within, Tiers.Le, Bool.and_eq_true, Bool.or_eq_true, beq_iff_eq, decide_eq_true_eq]
  tauto

/-- The rule reads the wants, the grants and the allowance used of the share unit, the role and the station state. -/
theorem shareSafe_of_eq {s t : State} (hwants : t.share.wants = s.share.wants) (hgrants : t.share.grants = s.share.grants)
    (hvalue : t.share.value = s.share.value) (hrole : t.ctl.role = s.ctl.role)
    (hstation : t.ctl.station = .halt ∨ (s.ctl.station ≠ .halt ∨ t.ctl.station = s.ctl.station))
    (hs : shareSafe s = true) : shareSafe t = true := by
  obtain ⟨hvalid, hwithin⟩ := (shareSafe_iff s).1 hs
  refine (shareSafe_iff t).2 ⟨?_, by simpa only [Share.Within, hwants, hgrants, hvalue] using hwithin⟩
  rw [hrole]
  obtain h | h | h := hstation
  · exact .inl h
  · exact .inr (hvalid.resolve_left h)
  · rw [h]; exact hvalid

theorem shareSafe_of_changes {ps : List Piece} {s t : State} (h : Changes ps s t)
    (hfree : ∀ p ∈ ps, p ∉ ([.share, .mode] : List Piece)) (hs : shareSafe s = true) : shareSafe t = true := by
  have heq : t.share = s.share := h .share fun hp => hfree _ hp (by decide)
  obtain ⟨hrole, -, hstation, -⟩ := h .mode fun hp => hfree _ hp (by decide)
  exact shareSafe_of_eq (by rw [heq]) (by rw [heq]) (by rw [heq]) hrole (.inr (.inr hstation)) hs

/-- Outside HALT the role is valid (R2). -/
theorem role_valid {s : State} (hs : shareSafe s = true) (h : s.ctl.station ≠ .halt) :
    (roleOf s.ctl.role).isSome = true := ((shareSafe_iff s).1 hs).1.resolve_left h

theorem shareCompute_share (cause : ShareCause) (s : State) : (shareCompute cause s).share = computedShare cause s := by
  simp [shareCompute]

/-- A computation at a station with a valid role keeps to R56. -/
theorem shareSafe_shareCompute (cause : ShareCause) {s : State} (hs : shareSafe s = true)
    (hlive : s.ctl.station ≠ .halt) : shareSafe (shareCompute cause s) = true := by
  have hrole := role_valid hs hlive
  have hctl : (shareCompute cause s).ctl = s.ctl := by simp
  rw [shareSafe_iff, hctl, shareCompute_share]
  exact ⟨.inr hrole, allocate_within (ownWants_le_viewSums hrole _) _⟩

theorem shareSafe_takeTrip {s : State} (hs : shareSafe s = true) : shareSafe (takeTrip s) = true := by
  have hhold : shareSafe (s.setShare { s.share with tripHold := true }) = true :=
    shareSafe_of_eq rfl rfl rfl rfl (.inr (.inr rfl)) hs
  unfold takeTrip
  dsimp only
  split
  · next hrun =>
    have hr : s.ctl.station = .run := by simpa [inRun] using hrun
    exact shareSafe_shareCompute .trip hhold (by simp [hr])
  · exact hhold

theorem shareSafe_queueTrip (p : PackState) (c : TripCause) {s : State} (hs : shareSafe s = true) :
    shareSafe (queueTrip p c s) = true :=
  shareSafe_takeTrip (shareSafe_of_changes (queueFrame_changes .trip _ s) (by decide) hs)

theorem shareSafe_acceptAllowance (d : List Byte) {s : State} (hs : shareSafe s = true) :
    shareSafe (acceptAllowance d s) = true := by
  have hhold : shareSafe ((s.setLatest { s.latest with allowance := readAllowance d }).setShare
      { s.share with tripHold := false }) = true := shareSafe_of_eq rfl rfl rfl rfl (.inr (.inr rfl)) hs
  have hreact (u : State) (hu : shareSafe u = true) : shareSafe (winchReact false (evalCues u)) = true :=
    shareSafe_of_changes (((evalCues_changes u).mono (by decide)).trans (winchReact_changes false _)) (by decide) hu
  unfold acceptAllowance
  dsimp only
  split
  · next h =>
    have hr : s.ctl.station = .run := by simpa [inRun] using (Bool.and_eq_true_iff.1 h).1
    exact hreact _ (shareSafe_shareCompute .lower hhold (by simp [hr]))
  · exact hreact _ hhold

/-! ### The events that bring a computation (R50 to R52) -/

theorem shareSafe_packRules {s : State} (hs : shareSafe s = true) : shareSafe (packRules s) = true := by
  have h := packRules_outcome s
  generalize packRules s = u at h ⊢
  cases h with
  | unchanged => exact hs
  | cutoff => exact shareSafe_queueTrip _ _ hs
  | moved => exact hs

theorem shareSafe_scanCompleted (scan : Scan) {s : State} (hs : shareSafe s = true) :
    shareSafe (scanCompleted scan s) = true := by
  have hnote : shareSafe (noteSensor (s.setPack (scannedPack scan s))) = true :=
    shareSafe_of_changes (noteSensor_changes (s.setPack (scannedPack scan s))) (by decide) hs
  have hpublish (u : State) (hu : shareSafe u = true) : shareSafe (publishAllowance u) = true := by
    unfold publishAllowance
    dsimp only
    refine shareSafe_acceptAllowance _ (shareSafe_of_changes (queueFrame_changes .allowance _ _) (by decide) ?_)
    exact hu
  unfold scanCompleted
  dsimp only
  split
  · split
    · exact hpublish _ (shareSafe_packRules hnote)
    · exact hnote
  · exact hs

theorem shareSafe_checkExpired {s : State} (hs : shareSafe s = true) : shareSafe (checkExpired s) = true := by
  unfold checkExpired
  dsimp only
  split_ifs
  · exact hs
  · exact shareSafe_queueTrip _ _ hs
  · exact hs

theorem shareSafe_packTripped (current : Current) {s : State} (hs : shareSafe s = true) :
    shareSafe (packTripped current s) = true := by
  unfold packTripped
  dsimp only
  split_ifs
  · exact hs
  · exact shareSafe_queueTrip _ _ hs
  · exact shareSafe_queueTrip _ _ hs
  · exact hs

theorem shareSafe_shareExpired {s : State} (hs : shareSafe s = true) : shareSafe (shareExpired s) = true := by
  unfold shareExpired
  split
  · next h =>
    have hr : s.ctl.station = .run := by simpa [inRun] using (Bool.and_eq_true_iff.1 h).1
    have hset : shareSafe (s.setShare { s.share with timer := some 20 }) = true :=
      shareSafe_of_eq rfl rfl rfl rfl (.inr (.inr rfl)) hs
    exact shareSafe_shareCompute .timer hset (by simp [hr])
  · exact hs

/-! ### RUN entry, SETUP, HALT and the resets -/

theorem shareSafe_shareEnterRun {s : State} (hs : shareSafe s = true) (hlive : s.ctl.station ≠ .halt) :
    shareSafe (shareEnterRun s) = true := by
  have hset (u : State) (hu : shareSafe u = true) : shareSafe (u.setShare { u.share with timer := some 20 }) = true :=
    shareSafe_of_eq (s := u) rfl rfl rfl rfl (.inr (.inr rfl)) hu
  exact hset _ (shareSafe_shareCompute .entry hs hlive)

theorem shareSafe_enterRun {s : State} (hstart : s.ctl.station = .start) (hs : shareSafe s = true) :
    shareSafe (enterRun s) = true := by
  have hctl : shareSafe (controllerEnterRun s) = true := by
    rw [controllerEnterRun_eq]
    exact shareSafe_of_eq (s := s) rfl rfl rfl rfl (.inr (.inl (by simp [hstart]))) hs
  have hblocks := shareSafe_of_changes (blocksEnterRun_changes s) (by decide) hctl
  have hdemand := shareSafe_of_changes (demandEnterRun_changes (blocksEnterRun s)) (by decide) hblocks
  have hrun : (demandEnterRun (blocksEnterRun s)).ctl.station = .run := by
    obtain ⟨-, -, hstation, -⟩ := demandEnterRun_changes (blocksEnterRun s) .mode (by decide)
    obtain ⟨-, -, hrun, -⟩ := blocksEnterRun_mode s
    exact hstation.trans hrun
  rw [enterRun_eq]
  exact shareSafe_shareEnterRun hdemand (by simp [hrun])

theorem shareSafe_enterSetup {s : State} (hstart : s.ctl.station = .start) (hs : shareSafe s = true) :
    shareSafe (enterSetup s) = true := by
  have hset : shareSafe (s.setCtl { s.ctl with station := .setup, startTimer := none }) = true :=
    shareSafe_of_eq (s := s) rfl rfl rfl rfl (.inr (.inl (by simp [hstart]))) hs
  exact shareSafe_of_changes (enterSetup_changes s) (by decide) hset

theorem shareSafe_enterHalt {s : State} (hs : shareSafe s = true) : shareSafe (enterHalt s) = true := by
  obtain ⟨-, -, -, -, -, -, -, -, -, -, hshare, -⟩ := enterHalt_blocks s
  have hctl := enterHalt_ctl s
  exact shareSafe_of_eq (by rw [hshare]) (by rw [hshare]) (by rw [hshare]) (by rw [hctl]) (.inl (by rw [hctl])) hs

theorem shareSafe_reset (kind : ResetKind) (pins : Pins) (s : State) :
    shareSafe (resetStation kind pins s) = true := by
  have hwithin : ({} : Share).Within := ⟨⟨le_rfl, le_rfl, le_rfl, le_rfl⟩, le_rfl⟩
  obtain ⟨-, -, -, -, -, -, -, -, -, -, hshare⟩ := resetStation_blocks kind pins s
  rw [shareSafe_iff, hshare]
  refine ⟨?_, hwithin⟩
  cases h : strapFault pins
  · obtain ⟨d, hd⟩ := resetStation_of_valid kind s h
    rw [hd]
    exact .inr (roleOf_isSome_of_valid h)
  · rw [resetStation_of_fault kind s h]
    exact .inl rfl

theorem shareSafe_live (c : Instr) (s : State) (hc : compound c = false) (hs : shareSafe s = true) :
    shareSafe (liveEffect c s) = true := by
  cases c
  case startTimerExpiry | commitEnd | frameSendEnd | demandTimerExpiry => cases hc
  case scanCompletion scan => exact shareSafe_scanCompleted scan hs
  case checkTimerExpiry => exact shareSafe_checkExpired hs
  case packTrip i => exact shareSafe_packTripped i hs
  case shareTimerExpiry => exact shareSafe_shareExpired hs
  all_goals exact shareSafe_of_changes (liveEffect_changes _ s) (of_decide_eq_true rfl) hs

theorem shareSafe_deliver (v : Delivery) (source : BitVec 4) (data : List Byte) (s : State)
    (hv : v.single = true) (hs : shareSafe s = true) : shareSafe (v.run source data s) = true := by
  cases v
  case demand | echoOnly | hold | release | restart | fetch => cases hv
  case allowance =>
    show shareSafe (deliverAllowance source data s) = true
    unfold deliverAllowance
    split
    · exact shareSafe_acceptAllowance data hs
    · exact hs
  case trip =>
    show shareSafe (deliverTrip source data s) = true
    unfold deliverTrip
    split
    · exact shareSafe_takeTrip hs
    · exact hs
  all_goals exact shareSafe_of_changes (Delivery.run_changes _ source data s) (of_decide_eq_true rfl) hs

theorem shareSafe_rule : StepRule [.share, .mode] fun s => shareSafe s = true where
  stable h hfree hs := shareSafe_of_changes h hfree hs
  ages _ hs := hs
  timers s hs := shareSafe_of_eq (s := s) (t := advanceTimers s) rfl rfl rfl rfl (.inr (.inr rfl)) hs
  reset kind pins s _ := shareSafe_reset kind pins s
  halt _ hs := shareSafe_enterHalt hs
  run _ hstart hs := shareSafe_enterRun hstart hs
  setup _ hstart hs := shareSafe_enterSetup hstart hs
  arrives p d s hs := shareSafe_of_changes (demandArrives_changes p d s) (by decide) hs
  isolated s hs := shareSafe_of_changes (evalIsolated_changes s) (by decide) hs
  live c s hc hs := shareSafe_live c s hc hs
  deliver v source data s hv hs := shareSafe_deliver v source data s hv hs

end Sys2Proof.Machine

open Sys2Proof Sys2Proof.Machine

/-- Settles O59: a computation at a station with a valid role counts the own wants, so each tier's grant stays within
them and within the remainder; outside HALT the role stays valid. -/
theorem shareRuleKept : Obligations.ShareRuleKept := by
  intro s t hs h
  exact shareSafe_rule.keeps_step (by decide) hs h
end

section
/-! Loading the stored settings (R169): a revert puts its rows at their defaults and leaves the others, so after the
groups every item lies in its range, and after the cross-item checks every check passes; then the obligation. -/

namespace Sys2Proof.Machine

/-! ### Reverting rows -/

/-- The ids of a list of rows. -/
def rowIds (rows : List SettingRow) : List Nat := rows.map SettingRow.id

/-- A reverted row reads its default. -/
theorem settingAt_revertRows_of_mem {rows : List SettingRow} {t : Settings} (hnodup : (rowIds rows).Nodup)
    (hplace : ∀ r ∈ rows, r.id < t.length) {r : SettingRow} (hr : r ∈ rows) :
    settingAt (revertRows rows t) r.id = r.dflt := by
  induction rows generalizing t with
  | nil => cases hr
  | cons q rest ih =>
    obtain ⟨hq, hrest⟩ := List.nodup_cons.1 hnodup
    have hlength : (t.set q.id q.dflt).length = t.length := by simp
    obtain rfl | hr := List.mem_cons.1 hr
    · have hnot : ∀ p ∈ rest, p.id ≠ r.id := fun p hp heq => hq (heq ▸ List.mem_map_of_mem hp)
      have hself := settingAt_set_self t r.dflt (hplace r (by simp))
      exact (settingAt_revertRows_of_not_mem rest (t.set r.id r.dflt) hnot).trans hself
    · exact ih hrest (fun p hp => hlength ▸ hplace p (List.mem_cons_of_mem q hp)) hr

/-- The rows of a list lie in their ranges. -/
def rowsAdmitted (rows : List SettingRow) (t : Settings) : Prop := ∀ r ∈ rows, r.admits (settingAt t r.id) = true

/-! ### The rows of section 10.6 -/

/-- The default of every row lies in its range, and its place in a table. -/
theorem settingRows_sound : ∀ r ∈ settingRows, r.admits r.dflt = true ∧ r.id < settingPlaces := by decide

theorem settingRows_nodup : (rowIds settingRows).Nodup := by
  have h : (rowIds settingRows).IsChain (· < ·) := by decide +kernel
  exact (List.isChain_iff_pairwise.1 h).imp Nat.ne_of_lt

theorem settingGroups_rows : settingGroups.flatMap Prod.snd = settingRows := by simp [settingGroups, settingRows]

/-! ### The groups (R169 step 2) -/

/-- One group of R169 step 2. -/
def checkGroup (acc : Settings × List Nat) (g : Nat × List SettingRow) : Settings × List Nat :=
  if g.2.all (fun r => r.admits (settingAt acc.1 r.id)) then acc else (revertRows g.2 acc.1, acc.2 ++ [g.1])

/-- A group leaves its own rows in their ranges and every other item as it was. -/
theorem checkGroup_spec {acc : Settings × List Nat} {g : Nat × List SettingRow}
    (hrows : ∀ r ∈ g.2, r ∈ settingRows) (hnodup : (rowIds g.2).Nodup) (hlength : acc.1.length = settingPlaces) :
    (checkGroup acc g).1.length = settingPlaces ∧ rowsAdmitted g.2 (checkGroup acc g).1 ∧
      ∀ k, (∀ r ∈ g.2, r.id ≠ k) → settingAt (checkGroup acc g).1 k = settingAt acc.1 k := by
  unfold checkGroup
  split
  · next hall => exact ⟨hlength, fun r hr => List.all_eq_true.1 hall r hr, fun _ _ => rfl⟩
  · refine ⟨by simpa using hlength, fun r hr => ?_, fun k hk => settingAt_revertRows_of_not_mem g.2 acc.1 hk⟩
    have hplace : ∀ p ∈ g.2, p.id < acc.1.length := fun p hp => hlength ▸ (settingRows_sound p (hrows p hp)).2
    rw [settingAt_revertRows_of_mem hnodup hplace hr]
    exact (settingRows_sound r (hrows r hr)).1

/-- After a list of groups with distinct ids the rows of each lie in their ranges. -/
theorem foldl_checkGroup_spec (groups : List (Nat × List SettingRow)) {acc : Settings × List Nat}
    (hrows : ∀ r ∈ groups.flatMap Prod.snd, r ∈ settingRows) (hnodup : (rowIds (groups.flatMap Prod.snd)).Nodup)
    (hlength : acc.1.length = settingPlaces) :
    (groups.foldl checkGroup acc).1.length = settingPlaces ∧
      rowsAdmitted (groups.flatMap Prod.snd) (groups.foldl checkGroup acc).1 ∧
      ∀ k, (∀ r ∈ groups.flatMap Prod.snd, r.id ≠ k) →
        settingAt (groups.foldl checkGroup acc).1 k = settingAt acc.1 k := by
  induction groups generalizing acc with
  | nil => exact ⟨hlength, fun r hr => (by cases hr), fun _ _ => rfl⟩
  | cons g rest ih =>
    simp only [List.flatMap_cons, rowIds, List.map_append, List.nodup_append, List.mem_append] at hrows hnodup ⊢
    obtain ⟨hg, hrest, hdisjoint⟩ := hnodup
    obtain ⟨hlen, hadmit, hkeep⟩ := checkGroup_spec (acc := acc) (fun r hr => hrows r (.inl hr)) hg hlength
    obtain ⟨hlen', hadmit', hkeep'⟩ := ih (fun r hr => hrows r (.inr hr)) hrest hlen
    refine ⟨hlen', fun r hr => ?_, fun k hk => ?_⟩
    · obtain hr | hr := List.mem_append.1 hr
      · have hnot : ∀ p ∈ rest.flatMap Prod.snd, p.id ≠ r.id := fun p hp =>
          Ne.symm (hdisjoint _ (List.mem_map_of_mem hr) _ (List.mem_map_of_mem hp))
        simp only [List.foldl_cons, hkeep' r.id hnot]
        exact hadmit r hr
      · exact hadmit' r hr
    · exact (hkeep' k fun r hr => hk r (.inr hr)).trans (hkeep k fun r hr => hk r (.inl hr))

/-- After step 2 every item lies in its range. -/
theorem checkGroups_spec {t : Settings} (h : t.length = settingPlaces) :
    (checkGroups t).1.length = settingPlaces ∧ rowsAdmitted settingRows (checkGroups t).1 := by
  obtain ⟨hlength, hadmit, -⟩ := foldl_checkGroup_spec settingGroups (acc := (t, []))
    (fun r hr => settingGroups_rows ▸ hr) (settingGroups_rows ▸ settingRows_nodup) h
  exact ⟨hlength, settingGroups_rows ▸ hadmit⟩

/-! ### The cross-item checks (R169 step 3) -/

/-- One check of R169 step 3. -/
def checkOne (acc : Settings × List Nat) (c : CrossCheck) : Settings × List Nat :=
  if crossPasses acc.1 c.detail then acc else (revertRows (c.ids.filterMap settingRow) acc.1, acc.2 ++ [c.detail])

/-- The rows that a check reverts. -/
def checkRows (c : CrossCheck) : List SettingRow := c.ids.filterMap settingRow

/-- A check reads the items it names alone. -/
theorem crossPasses_congr {c : CrossCheck} (hc : c ∈ crossChecks) {t u : Settings}
    (h : ∀ r ∈ checkRows c, settingAt u r.id = settingAt t r.id) : crossPasses u c.detail = crossPasses t c.detail := by
  simp only [crossChecks, List.mem_cons, List.not_mem_nil, or_false] at hc
  obtain rfl | rfl | rfl | rfl | rfl := hc
  · have h41 := h ⟨41, 800, 2200, 1100⟩ (by decide)
    have h39 := h ⟨39, 1000, 2000, 1500⟩ (by decide)
    have h42 := h ⟨42, 800, 2200, 1900⟩ (by decide)
    simp only [crossPasses, h41, h39, h42]
  · have h83 := h ⟨83, 2700, 3600, 3150⟩ (by decide)
    have h82 := h ⟨82, 2900, 3800, 3350⟩ (by decide)
    have h81 := h ⟨81, 3000, 3900, 3450⟩ (by decide)
    simp only [crossPasses, h83, h82, h81]
  · have h89 := h ⟨89, 2700, 3900, 3250⟩ (by decide)
    have h88 := h ⟨88, 3000, 4000, 3550⟩ (by decide)
    simp only [crossPasses, h89, h88]
  · have h90 := h ⟨90, 20, 100, 60⟩ (by decide)
    have h91 := h ⟨91, 30, 120, 80⟩ (by decide)
    simp only [crossPasses, h90, h91]
  · have h54 := h ⟨54, 8, 255, 200⟩ (by decide)
    have h53 := h ⟨53, 4, 200, 120⟩ (by decide)
    simp only [crossPasses, h54, h53]

theorem checkRows_nodup : (rowIds (crossChecks.flatMap checkRows)).Nodup := by decide

theorem checkRows_sub (c : CrossCheck) : ∀ r ∈ checkRows c, r ∈ settingRows := fun r hr => by
  obtain ⟨id, -, hid⟩ := List.mem_filterMap.1 hr
  exact List.mem_of_find?_eq_some hid

/-- The rows that the checks revert stand in the default table with their defaults. -/
theorem settingAt_default : ∀ r ∈ crossChecks.flatMap checkRows, settingAt defaultSettings r.id = r.dflt := by
  decide +kernel

/-- A check that fails passes once its items are reverted; either way the ranges are kept, and every item that it does
not name. -/
theorem checkOne_spec {acc : Settings × List Nat} {c : CrossCheck} (hc : c ∈ crossChecks)
    (hnodup : (rowIds (checkRows c)).Nodup) (hlength : acc.1.length = settingPlaces)
    (hadmit : rowsAdmitted settingRows acc.1) :
    (checkOne acc c).1.length = settingPlaces ∧ rowsAdmitted settingRows (checkOne acc c).1 ∧
      crossPasses (checkOne acc c).1 c.detail = true ∧
      ∀ k, (∀ r ∈ checkRows c, r.id ≠ k) → settingAt (checkOne acc c).1 k = settingAt acc.1 k := by
  unfold checkOne
  split
  · next hpass => exact ⟨hlength, hadmit, hpass, fun _ _ => rfl⟩
  · have hplace : ∀ p ∈ checkRows c, p.id < acc.1.length :=
      fun p hp => hlength ▸ (settingRows_sound p (checkRows_sub c p hp)).2
    have hdflt : ∀ r ∈ checkRows c, settingAt (revertRows (checkRows c) acc.1) r.id = r.dflt :=
      fun r hr => settingAt_revertRows_of_mem hnodup hplace hr
    have hkeep (k : Nat) (hk : ∀ r ∈ checkRows c, r.id ≠ k) :
        settingAt (revertRows (checkRows c) acc.1) k = settingAt acc.1 k :=
      settingAt_revertRows_of_not_mem _ _ hk
    have hpass : crossPasses defaultSettings c.detail = true :=
      List.all_eq_true.1 (Bool.and_eq_true_iff.1 settingsValid_default).2 c hc
    refine ⟨by simpa using hlength, fun r hr => ?_, ?_, hkeep⟩
    · by_cases hid : ∃ q ∈ checkRows c, q.id = r.id
      · obtain ⟨q, hq, hqr⟩ := hid
        have heq : q = r := List.inj_on_of_nodup_map settingRows_nodup (checkRows_sub c q hq) hr hqr
        exact (congrArg r.admits (hdflt r (heq ▸ hq))).trans (settingRows_sound r hr).1
      · have hnot : ∀ q ∈ checkRows c, q.id ≠ r.id := fun q hq hqr => hid ⟨q, hq, hqr⟩
        exact (congrArg r.admits (hkeep r.id hnot)).trans (hadmit r hr)
    · refine (crossPasses_congr hc fun r hr => ?_).trans hpass
      rw [settingAt_default r (List.mem_flatMap.2 ⟨c, hc, hr⟩)]
      exact hdflt r hr

/-- After a list of checks with distinct items each of them passes. -/
theorem foldl_checkOne_spec (checks : List CrossCheck) {acc : Settings × List Nat} (hsub : ∀ c ∈ checks, c ∈ crossChecks)
    (hnodup : (rowIds (checks.flatMap checkRows)).Nodup) (hlength : acc.1.length = settingPlaces)
    (hadmit : rowsAdmitted settingRows acc.1) :
    (checks.foldl checkOne acc).1.length = settingPlaces ∧ rowsAdmitted settingRows (checks.foldl checkOne acc).1 ∧
      (∀ c ∈ checks, crossPasses (checks.foldl checkOne acc).1 c.detail = true) ∧
      ∀ k, (∀ r ∈ checks.flatMap checkRows, r.id ≠ k) →
        settingAt (checks.foldl checkOne acc).1 k = settingAt acc.1 k := by
  induction checks generalizing acc with
  | nil => exact ⟨hlength, hadmit, fun c hc => (by cases hc), fun _ _ => rfl⟩
  | cons c rest ih =>
    simp only [List.flatMap_cons, rowIds, List.map_append, List.nodup_append, List.mem_append] at hnodup ⊢
    obtain ⟨hc, hrest, hdisjoint⟩ := hnodup
    obtain ⟨hlen, hadm, hpass, hkeep⟩ := checkOne_spec (hsub c (by simp)) hc hlength hadmit
    obtain ⟨hlen', hadm', hpass', hkeep'⟩ := ih (fun q hq => hsub q (List.mem_cons_of_mem c hq)) hrest hlen hadm
    refine ⟨hlen', hadm', fun q hq => ?_, fun k hk => ?_⟩
    · obtain rfl | hq := List.mem_cons.1 hq
      · refine (crossPasses_congr (hsub q (by simp)) fun r hr => hkeep' r.id fun p hp => ?_).trans hpass
        exact Ne.symm (hdisjoint _ (List.mem_map_of_mem hr) _ (List.mem_map_of_mem hp))
      · exact hpass' q hq
    · exact (hkeep' k fun r hr => hk r (.inr hr)).trans (hkeep k fun r hr => hk r (.inl hr))

theorem checkCross_eq (t : Settings) : checkCross t = crossChecks.foldl checkOne (t, []) := rfl

/-- After step 3 every item lies in its range and every check passes. -/
theorem checkCross_spec {t : Settings} (hlength : t.length = settingPlaces) (hadmit : rowsAdmitted settingRows t) :
    (checkCross t).1.length = settingPlaces ∧ rowsAdmitted settingRows (checkCross t).1 ∧
      ∀ c ∈ crossChecks, crossPasses (checkCross t).1 c.detail = true := by
  rw [checkCross_eq]
  obtain ⟨hlen, hadm, hpass, -⟩ :=
    foldl_checkOne_spec crossChecks (acc := (t, [])) (fun _ hc => hc) checkRows_nodup hlength hadmit
  exact ⟨hlen, hadm, hpass⟩

theorem settingsValid_iff (t : Settings) : settingsValid t = true ↔
    t.length = settingPlaces ∧ rowsAdmitted settingRows t ∧ ∀ c ∈ crossChecks, crossPasses t c.detail = true := by
  simp only [settingsValid, rowsAdmitted, Bool.and_eq_true, beq_iff_eq, List.all_eq_true, and_assoc]

/-! ### The load (R169) -/

/-- Whatever is stored, the settings loaded are valid. -/
theorem settingsValid_loadSettings (stored : StoredTable) : settingsValid (loadSettings stored).1 = true := by
  unfold loadSettings
  split
  · obtain ⟨hlength, hadmit⟩ := checkGroups_spec (storedItems_length stored.items)
    dsimp only
    exact (settingsValid_iff _).2 (checkCross_spec hlength hadmit)
  · exact settingsValid_default

/-- A list of groups whose rows lie in their ranges changes nothing. -/
theorem foldl_checkGroup_of_admitted (groups : List (Nat × List SettingRow)) {acc : Settings × List Nat}
    (h : rowsAdmitted (groups.flatMap Prod.snd) acc.1) : groups.foldl checkGroup acc = acc := by
  induction groups with
  | nil => rfl
  | cons g rest ih =>
    have hg : checkGroup acc g = acc :=
      if_pos (List.all_eq_true.2 fun r hr => h r (List.mem_append.2 (.inl hr)))
    rw [List.foldl_cons, hg]
    exact ih fun r hr => h r (List.mem_append.2 (.inr hr))

/-- A list of checks that pass changes nothing. -/
theorem foldl_checkOne_of_passing (checks : List CrossCheck) {acc : Settings × List Nat}
    (h : ∀ c ∈ checks, crossPasses acc.1 c.detail = true) : checks.foldl checkOne acc = acc := by
  induction checks with
  | nil => rfl
  | cons c rest ih =>
    have hc : checkOne acc c = acc := if_pos (h c (by simp))
    rw [List.foldl_cons, hc]
    exact ih fun q hq => h q (List.mem_cons_of_mem c hq)

/-- A good table that passes every check is loaded as it stands. -/
theorem loadSettings_of_valid {stored : StoredTable} (hgood : stored.good = true)
    (h : settingsValid (storedItems stored.items) = true) :
    loadSettings stored = (storedItems stored.items, []) := by
  obtain ⟨-, hadmit, hpass⟩ := (settingsValid_iff _).1 h
  have hgroups : checkGroups (storedItems stored.items) = (storedItems stored.items, []) :=
    foldl_checkGroup_of_admitted settingGroups (acc := (storedItems stored.items, [])) (settingGroups_rows ▸ hadmit)
  have hcross : checkCross (storedItems stored.items) = (storedItems stored.items, []) :=
    foldl_checkOne_of_passing crossChecks (acc := (storedItems stored.items, [])) hpass
  simp [loadSettings, hgood, hgroups, hcross]

end Sys2Proof.Machine

open Sys2Proof Sys2Proof.Machine

/-- Settles O21: a revert puts a group, or the items of a check, at defaults that are in range and pass; the groups and
the checks name different items, so what passed stays passed. -/
theorem loadedSettingsValid : Obligations.LoadedSettingsValid := by
  intro stored
  exact ⟨settingsValid_loadSettings stored, fun hbad => by simp [loadSettings, hbad], loadSettings_of_valid⟩
end

section
/-! The servo rule (R90, R92, R169): settings that passed the checks of START order ServoMin, ServoCentre and ServoMax, so
every shadow and every step toward it lies within them; then the obligation. -/

namespace Sys2Proof.Machine

/-! ### The servo limits of valid settings -/

/-- A width within the servo limits. -/
def servoWithin (s : State) (w : Int) : Prop := servoMin s ≤ w ∧ w ≤ servoMax s

theorem settingsSafe_iff (s : State) : settingsSafe s = true ↔
    settingsValid s.ctl.held = true ∧ s.ctl.working.length = settingPlaces := by
  simp [settingsSafe]

/-- Cross-item check 8: ServoCentre lies within the servo limits (R169). -/
theorem servoWithin_centre {s : State} (hs : settingsSafe s = true) : servoWithin s (servoCentre s) := by
  obtain ⟨hvalid, -⟩ := (settingsSafe_iff s).1 hs
  obtain ⟨-, -, hcross⟩ := (settingsValid_iff _).1 hvalid
  have h := hcross ⟨8, [41, 39, 42]⟩ (List.mem_cons_self ..)
  simpa [crossPasses, servoWithin, servoMin, servoMax, servoCentre, cfg] using h

theorem slewStep_nonneg {s : State} (hs : settingsSafe s = true) : 0 ≤ slewStep s := by
  obtain ⟨hvalid, -⟩ := (settingsSafe_iff s).1 hs
  obtain ⟨-, hadmit, -⟩ := (settingsValid_iff _).1 hvalid
  have h := hadmit ⟨45, 0, 200, 0⟩ (by decide)
  exact (SettingRow.admits_iff.1 h).1

theorem servoWithin_servoWidth {s : State} (hs : settingsSafe s = true) (t : Int) : servoWithin s (servoWidth s t) := by
  obtain ⟨hlow, hhigh⟩ := servoWithin_centre hs
  exact limitTo_mem (hlow.trans hhigh) _

/-- A step toward a target never leaves the range between the two. -/
theorem moveToward_between {lo hi step x target : Int} (hx : lo ≤ x ∧ x ≤ hi) (ht : lo ≤ target ∧ target ≤ hi)
    (hstep : 0 ≤ step) :
    lo ≤ moveToward step x target ∧ moveToward step x target ≤ hi := by
  simp only [moveToward]
  split_ifs <;> omega

/-! ### The rule -/

theorem servoSafe_iff (s : State) : servoSafe s = true ↔
    (isAxle s = true → inRun s = true → servoWithin s s.steer.shadow ∧ servoWithin s s.steer.output) := by
  cases ha : isAxle s <;> cases hr : inRun s <;> simp [servoSafe, servoWithin, ha, hr, and_assoc]

/-- Both rules of the settings and the servo (R90, R92, R169). -/
def servoRule (s : State) : Prop := settingsSafe s = true ∧ servoSafe s = true

/-- The role, the station state and the settings held, which the servo limits are read by. -/
def sameMode (s t : State) : Prop :=
  t.ctl.role = s.ctl.role ∧ t.ctl.radio = s.ctl.radio ∧ t.ctl.station = s.ctl.station ∧ t.ctl.held = s.ctl.held

theorem sameMode.axle {s t : State} (h : sameMode s t) : isAxle t = isAxle s ∧ inRun t = inRun s := by
  obtain ⟨hrole, -, hstation, -⟩ := h
  exact ⟨by simp [isAxle, roleIs_congr hrole], inRun_congr hstation⟩

theorem servoWithin_congr {s t : State} (h : t.ctl.held = s.ctl.held) (w : Int) : servoWithin t w ↔ servoWithin s w := by
  simp [servoWithin, servoMin, servoMax, cfg_congr h]

/-- A change that keeps the mode, the working copy's places, and leaves both widths within the limits. -/
theorem servoRule_of_widths {s t : State} (hmode : sameMode s t)
    (hworking : t.ctl.working.length = s.ctl.working.length)
    (hshadow : isAxle s = true → inRun s = true → servoWithin s t.steer.shadow)
    (houtput : isAxle s = true → inRun s = true → servoWithin s t.steer.output) (hs : servoRule s) : servoRule t := by
  obtain ⟨hsettings, -⟩ := hs
  obtain ⟨haxle, hrun⟩ := hmode.axle
  obtain ⟨-, -, -, hheld⟩ := hmode
  rw [settingsSafe_iff] at hsettings
  refine ⟨(settingsSafe_iff t).2 (by rw [hheld, hworking]; exact hsettings), (servoSafe_iff t).2 ?_⟩
  rw [haxle, hrun, servoWithin_congr hheld, servoWithin_congr hheld]
  exact fun ha hr => ⟨hshadow ha hr, houtput ha hr⟩

theorem servoRule_of_same {s t : State} (hmode : sameMode s t) (hworking : t.ctl.working.length = s.ctl.working.length)
    (hshadow : t.steer.shadow = s.steer.shadow) (houtput : t.steer.output = s.steer.output) (hs : servoRule s) :
    servoRule t := by
  have hwidths := (servoSafe_iff s).1 hs.2
  exact servoRule_of_widths hmode hworking (fun ha hr => hshadow ▸ (hwidths ha hr).1)
    (fun ha hr => houtput ▸ (hwidths ha hr).2) hs

theorem servoRule_of_changes {ps : List Piece} {s t : State} (h : Changes ps s t)
    (hfree : ∀ p ∈ ps, p ∉ ([.steer, .mode, .working] : List Piece)) (hs : servoRule s) : servoRule t := by
  have hsteer : t.steer = s.steer := h .steer fun hp => hfree _ hp (by decide)
  have hmode : sameMode s t := h .mode fun hp => hfree _ hp (by decide)
  have hworking : t.ctl.working = s.ctl.working := h .working fun hp => hfree _ hp (by decide)
  exact servoRule_of_same hmode (by rw [hworking]) (by rw [hsteer]) (by rw [hsteer]) hs

/-- The settings rule alone, where the station is not in RUN. -/
theorem servoRule_of_not_run {s t : State} (hheld : t.ctl.held = s.ctl.held) (hworking : t.ctl.working = s.ctl.working)
    (hrun : t.ctl.station ≠ .run) (hs : servoRule s) : servoRule t := by
  refine ⟨(settingsSafe_iff t).2 ?_, (servoSafe_iff t).2 fun _ hr => absurd (by simpa [inRun] using hr) hrun⟩
  rw [hheld, hworking]
  exact (settingsSafe_iff s).1 hs.1

/-! ### The steering unit's operations (R84 to R92) -/

/-- A refresh leaves the output and puts the shadow at ServoCentre or at a limited width (R89, R90). -/
theorem steerRefresh_widths (s : State) : (steerRefresh s).steer.output = s.steer.output ∧
    ((steerRefresh s).steer.shadow = servoCentre s ∨ ∃ t, (steerRefresh s).steer.shadow = servoWidth s t) := by
  unfold steerRefresh
  split
  · exact ⟨rfl, .inr ⟨_, rfl⟩⟩
  · exact ⟨rfl, .inl rfl⟩

theorem servoRule_steerRefresh {s : State} (hs : servoRule s) : servoRule (steerRefresh s) := by
  obtain ⟨houtput, hshadow⟩ := steerRefresh_widths s
  refine servoRule_of_widths (steerRefresh_changes s .mode (by decide))
    (congrArg List.length (steerRefresh_changes s .working (by decide))) (fun _ _ => ?_)
    (fun ha hr => houtput ▸ ((servoSafe_iff s).1 hs.2 ha hr).2) hs
  obtain h | ⟨t, h⟩ := hshadow <;> rw [h]
  · exact servoWithin_centre hs.1
  · exact servoWithin_servoWidth hs.1 t

/-- A change of the steering unit that leaves both widths as they are. -/
theorem servoRule_setSteer {s : State} {x : Steering} (hshadow : x.shadow = s.steer.shadow)
    (houtput : x.output = s.steer.output) (hs : servoRule s) : servoRule (s.setSteer x) :=
  servoRule_of_same (s := s) ⟨rfl, rfl, rfl, rfl⟩ rfl hshadow houtput hs

theorem servoRule_splitEvaluate {s : State} (hs : servoRule s) : servoRule (splitEvaluate s) := by
  unfold splitEvaluate
  split_ifs
  · exact hs
  · exact servoRule_setSteer rfl rfl hs
  · exact hs
  · exact servoRule_setSteer rfl rfl hs

theorem servoRule_splitCheck {s : State} (hs : servoRule s) : servoRule (splitCheck s) := by
  unfold splitCheck
  split
  · exact servoRule_steerRefresh (servoRule_splitEvaluate hs)
  · exact hs

theorem servoRule_stageBank {s : State} (hs : servoRule s) : servoRule (stageBank s) := by
  have hset (p : Nat × Option Nat) : servoRule (s.setSteer { s.steer with active := p.1, pending := p.2 }) :=
    servoRule_setSteer rfl rfl hs
  unfold stageBank
  dsimp only
  split
  · exact hset _
  · exact servoRule_splitEvaluate (hset _)

theorem servoRule_steerReact (accepted : Bool) {s : State} (hs : servoRule s) : servoRule (steerReact accepted s) := by
  unfold steerReact
  split
  · refine servoRule_steerRefresh ?_
    split
    · exact servoRule_stageBank hs
    · exact hs
  · exact hs

/-- A frame start steps the output toward the shadow (R92). -/
theorem servoRule_startFrame (late : Int) {s : State} (hs : servoRule s) : servoRule (startFrame late s) := by
  have hwidths := (servoSafe_iff s).1 hs.2
  refine servoRule_of_widths (s := s) ⟨rfl, rfl, rfl, rfl⟩ rfl (fun ha hr => (hwidths ha hr).1) (fun ha hr => ?_) hs
  obtain ⟨hshadow, houtput⟩ := hwidths ha hr
  show servoWithin s (servoStep s)
  unfold servoStep
  split
  · exact hshadow
  · exact moveToward_between houtput hshadow (slewStep_nonneg hs.1)

/-! ### The events -/

theorem servoRule_demandReact (accepted : Bool) {s : State} (hs : servoRule s) : servoRule (demandReact accepted s) := by
  have hreact : servoRule (steerReact accepted (evalConditions s)) :=
    servoRule_steerReact accepted (servoRule_of_changes (evalConditions_changes s) (by decide) hs)
  have hsteer : (demandReact accepted s).steer = (steerReact accepted (evalConditions s)).steer := by simp [demandReact]
  have hctl : (demandReact accepted s).ctl = (steerReact accepted (evalConditions s)).ctl := by simp [demandReact]
  exact servoRule_of_same ⟨by rw [hctl], by rw [hctl], by rw [hctl], by rw [hctl]⟩ (by rw [hctl]) (by rw [hsteer])
    (by rw [hsteer]) hreact

theorem servoRule_acceptDemand (p : Publisher) (d : List Byte) {s : State} (hs : servoRule s) :
    servoRule (acceptDemand p d s) := by
  unfold acceptDemand
  dsimp only
  refine servoRule_demandReact true ?_
  split
  · exact hs
  · exact servoRule_of_changes (noteDemandLost_changes _ _ _) (by decide) hs

theorem servoRule_demandArrives (p : Publisher) (d : List Byte) {s : State} (hs : servoRule s) :
    servoRule (demandArrives p d s) := by
  have hnote : servoRule (noteConflict p s) := servoRule_of_changes (noteConflict_changes p s) (by decide) hs
  obtain ⟨-, h⟩ | ⟨-, h⟩ := demandArrives_cases p d s
  · rw [h]; exact servoRule_acceptDemand p d hnote
  · rw [h]; exact hnote

theorem servoRule_evalIsolated {s : State} (hs : servoRule s) : servoRule (evalIsolated s) := by
  have hset (b : Bool) (l : IncidentLog) : servoRule ((s.setCtl { s.ctl with isolated := b }).setLog l) :=
    servoRule_of_same (s := s) ⟨rfl, rfl, rfl, rfl⟩ rfl rfl rfl hs
  obtain ⟨-, h⟩ | ⟨-, -, h⟩ := evalIsolated_cases s
  · rw [h]; exact hs
  · rw [h]; exact servoRule_demandReact false (hset _ _)

theorem servoRule_splitExpired {s : State} (hs : servoRule s) : servoRule (splitExpired s) := by
  have hstop : servoRule (s.setSteer { s.steer with splitTimer := none }) := servoRule_setSteer rfl rfl hs
  unfold splitExpired
  dsimp only
  split_ifs
  · refine servoRule_steerRefresh (servoRule_of_changes (noteSplit_changes _) (by decide) ?_)
    exact servoRule_setSteer rfl rfl hstop
  · exact hstop
  · exact hs

theorem servoRule_servoFrameExpired {s : State} (hs : servoRule s) : servoRule (servoFrameExpired s) := by
  unfold servoFrameExpired
  split
  · split
    · exact servoRule_startFrame _ hs
    · exact hs
  · exact hs

theorem servoRule_presenceChanged (r : Role) {s : State} (hs : servoRule s) : servoRule (presenceChanged r s) := by
  have hcues (p : Peers) : servoRule (evalCues (s.setPeers p)) :=
    servoRule_of_changes (evalCues_changes (s.setPeers p)) (by decide) hs
  unfold presenceChanged
  dsimp only
  split_ifs
  · exact servoRule_splitCheck (hcues _)
  · exact hcues _
  · exact hs

theorem alignBlink_changes (r : Role) (s : State) : Changes [.lamp] s (alignBlink r s) :=
  .of (by simp [allPieces, Piece.same])

theorem servoRule_deliverStation (source : BitVec 4) (d : List Byte) {s : State} (hs : servoRule s) :
    servoRule (deliverStation source d s) := by
  have hcues (p : Peers) (r : Role) : servoRule (alignBlink r (evalCues (s.setPeers p))) :=
    servoRule_of_changes (alignBlink_changes r _) (by decide)
      (servoRule_of_changes (evalCues_changes (s.setPeers p)) (by decide) hs)
  unfold deliverStation
  split
  · dsimp only
    split
    · exact servoRule_splitCheck (hcues _ _)
    · exact hcues _ _
  · exact hs

/-! ### RUN entry and the resets -/

/-- RUN entry starts the first frame at ServoCentre (R91). -/
theorem servoRule_steerEnterRun {s : State} (hs : settingsSafe s = true) : servoRule (steerEnterRun s) := by
  unfold steerEnterRun
  split
  · have hcentre := servoWithin_centre hs
    refine servoRule_splitCheck ?_
    have hx (x : Steering) (hout : x.output = servoCentre s) : servoRule (steerRefresh (s.setSteer x)) := by
      obtain ⟨houtput, hshadow⟩ := steerRefresh_widths (s.setSteer x)
      have hmode := steerRefresh_changes (s.setSteer x) .mode (by decide)
      obtain ⟨-, -, -, hheld⟩ := hmode
      have hworking := steerRefresh_changes (s.setSteer x) .working (by decide)
      have hsettings : settingsSafe (s.setSteer x) = true := hs
      refine ⟨(settingsSafe_iff _).2 ?_, (servoSafe_iff _).2 fun _ _ => ⟨?_, ?_⟩⟩
      · rw [hheld, show (steerRefresh (s.setSteer x)).ctl.working = s.ctl.working from hworking]
        exact (settingsSafe_iff s).1 hs
      · rw [servoWithin_congr hheld]
        obtain h | ⟨t, h⟩ := hshadow <;> rw [h]
        · exact servoWithin_centre hsettings
        · exact servoWithin_servoWidth hsettings t
      · rw [servoWithin_congr hheld, houtput]
        show servoWithin s x.output
        rw [hout]
        exact hcentre
    exact hx _ rfl
  · next h => exact ⟨hs, (servoSafe_iff s).2 fun ha => absurd ha h⟩

theorem servoRule_enterRun {s : State} (hs : servoRule s) : servoRule (enterRun s) := by
  have hctl : settingsSafe (controllerEnterRun s) = true := by
    rw [controllerEnterRun_eq]
    exact hs.1
  have hqueue : settingsSafe (queueStation (controllerEnterRun s)) = true := by
    obtain ⟨-, -, -, hheld⟩ := queueStation_changes (controllerEnterRun s) .mode (by decide)
    have hworking : (queueStation (controllerEnterRun s)).ctl.working = (controllerEnterRun s).ctl.working :=
      queueStation_changes (controllerEnterRun s) .working (by decide)
    rw [settingsSafe_iff, hheld, hworking]
    exact (settingsSafe_iff _).1 hctl
  have hblocks : servoRule (blocksEnterRun s) := by
    refine servoRule_of_changes (lampsEnterRun_changes _) (by decide) ?_
    refine servoRule_of_changes (packEnterRun_changes _) (by decide) ?_
    refine servoRule_of_changes (winchEnterRun_changes _) (by decide) ?_
    refine servoRule_of_changes (bridgeEnterRun_changes _) (by decide) ?_
    exact servoRule_steerEnterRun hqueue
  have hdemand : servoRule (demandEnterRun (blocksEnterRun s)) :=
    demandEnterRun_keeps (fun _ _ hu => hu)
      (fun d u hu => servoRule_of_changes (queueFrame_changes .demand d u) (by decide) hu)
      (fun p d _ hu => servoRule_demandArrives p d hu) hblocks
  rw [enterRun_eq]
  exact servoRule_of_changes (shareEnterRun_changes _) (by decide) hdemand

theorem servoRule_reset (kind : ResetKind) (pins : Pins) {s : State} (hs : servoRule s) :
    servoRule (resetStation kind pins s) := by
  have hsettings : settingsSafe (resetStation kind pins s) = true := by
    rw [settingsSafe_iff]
    cases h : strapFault pins
    · obtain ⟨d, hd⟩ := resetStation_of_valid kind s h
      rw [hd]
      have hvalid := settingsValid_loadSettings (abandonedNvm s)
      exact ⟨hvalid, ((settingsValid_iff _).1 hvalid).1⟩
    · rw [resetStation_of_fault kind s h]
      exact (settingsSafe_iff s).1 hs.1
  refine ⟨hsettings, (servoSafe_iff _).2 fun _ hr => ?_⟩
  exact absurd (by simpa [inRun] using hr) (resetStation_not_run kind pins s)

/-- A SETTING writes one place of the working copy (R166). -/
theorem servoRule_takeSetting (id : Byte) (value : Half) (source : BitVec 4) {s : State} (hs : servoRule s) :
    servoRule (takeSetting id value source s) := by
  have hwrite : servoRule (writeSetting id.toNat value s) := by
    unfold writeSetting
    split
    · exact servoRule_of_same (s := s) ⟨rfl, rfl, rfl, rfl⟩ (by simp) rfl rfl hs
    · exact hs
  rw [takeSetting_eq]
  exact servoRule_of_changes (answer_changes _ _ _ _ _ _) (by decide) hwrite

theorem servoRule_live (c : Instr) (s : State) (hc : compound c = false) (hs : servoRule s) :
    servoRule (liveEffect c s) := by
  cases c
  case startTimerExpiry | commitEnd | frameSendEnd | demandTimerExpiry => cases hc
  case demandRecordStale =>
    show servoRule (demandStale s)
    unfold demandStale
    dsimp only
    split
    · exact servoRule_demandReact false hs
    · exact hs
  case demandRecordLost =>
    show servoRule (demandLostNow s)
    unfold demandLostNow
    dsimp only
    split
    · exact servoRule_demandReact false (servoRule_of_changes (noteDemandLost_changes _ _ _) (by decide) hs)
    · exact hs
  case peerPresenceChange r => exact servoRule_presenceChanged r hs
  case splitTimerExpiry => exact servoRule_splitExpired hs
  case servoFrameTimerExpiry => exact servoRule_servoFrameExpired hs
  case servoPulseEnd => exact servoRule_setSteer rfl rfl hs
  all_goals exact servoRule_of_changes (liveEffect_changes _ s) (of_decide_eq_true rfl) hs

theorem servoRule_deliver (v : Delivery) (source : BitVec 4) (data : List Byte) (s : State) (hv : v.single = true)
    (hs : servoRule s) : servoRule (v.run source data s) := by
  cases v
  case demand | echoOnly | hold | release | restart | fetch => cases hv
  case station => exact servoRule_deliverStation source data hs
  case setting id value => exact serve_keeps source data hs (servoRule_takeSetting id value source hs)
  all_goals exact servoRule_of_changes (Delivery.run_changes _ source data s) (of_decide_eq_true rfl) hs

theorem servoRule_rule : StepRule [.steer, .mode, .working] servoRule where
  stable h hfree hs := servoRule_of_changes h hfree hs
  ages _ hs := hs
  timers s hs := servoRule_of_same (s := s) (t := advanceTimers s) ⟨rfl, rfl, rfl, rfl⟩ rfl rfl rfl hs
  reset kind pins _ hs := servoRule_reset kind pins hs
  halt s hs := servoRule_of_not_run (by rw [enterHalt_ctl]) (by rw [enterHalt_ctl]) (by rw [enterHalt_ctl]; simp) hs
  run _ _ hs := servoRule_enterRun hs
  setup s _ hs := by
    obtain ⟨-, -, hstation, hheld⟩ := enterSetup_changes s .mode (by decide)
    have hworking := enterSetup_changes s .working (by decide)
    exact servoRule_of_not_run (s := s) hheld hworking (by rw [hstation]; simp) hs
  arrives p d _ hs := servoRule_demandArrives p d hs
  isolated _ hs := servoRule_evalIsolated hs
  live c s hc hs := servoRule_live c s hc hs
  deliver v source data s hv hs := servoRule_deliver v source data s hv hs

end Sys2Proof.Machine

open Sys2Proof Sys2Proof.Machine

/-- Settles O58: the settings in force come from START's checks alone; a shadow is ServoCentre or a limited width, and an
output is ServoCentre or a step toward the shadow. -/
theorem servoRuleKept : Obligations.ServoRuleKept := by
  intro s t hsettings hservo h
  exact servoRule_rule.keeps_step (by decide) ⟨hsettings, hservo⟩ h
end

section
/-! The three conditions (R8, R10): clear outside RUN, and FAILSAFE and DEMAND-HOLD never both. -/

namespace Sys2Proof.Machine

theorem conditionsSafe_iff (s : State) : conditionsSafe s = true ↔
    ¬ (s.ctl.failsafe = true ∧ s.ctl.demandHold = true) ∧
      (s.ctl.station ≠ .run → s.ctl.failsafe = false ∧ s.ctl.demandHold = false ∧ s.ctl.isolated = false) := by
  cases hf : s.ctl.failsafe <;> cases hh : s.ctl.demandHold <;> cases hi : s.ctl.isolated <;>
    simp [conditionsSafe, hf, hh, hi]

/-- The rule reads the conditions, ISOLATED and the station state. -/
theorem conditionsSafe_of_eq {s t : State} (hfailsafe : t.ctl.failsafe = s.ctl.failsafe)
    (hhold : t.ctl.demandHold = s.ctl.demandHold) (hisolated : t.ctl.isolated = s.ctl.isolated)
    (hstation : t.ctl.station = s.ctl.station) (hs : conditionsSafe s = true) : conditionsSafe t = true := by
  rw [conditionsSafe_iff] at hs ⊢
  rw [hfailsafe, hhold, hisolated, hstation]
  exact hs

theorem conditionsSafe_of_changes {ps : List Piece} {s t : State} (h : Changes ps s t)
    (hfree : ∀ p ∈ ps, p ∉ ([.conditions, .isolated, .mode] : List Piece)) (hs : conditionsSafe s = true) :
    conditionsSafe t = true := by
  obtain ⟨hfailsafe, hhold⟩ := h .conditions fun hp => hfree _ hp (by decide)
  have hisolated : t.ctl.isolated = s.ctl.isolated := h .isolated fun hp => hfree _ hp (by decide)
  obtain ⟨-, -, hstation, -⟩ := h .mode fun hp => hfree _ hp (by decide)
  exact conditionsSafe_of_eq hfailsafe hhold hisolated hstation hs

/-- With the conditions clear the rule holds in every station state. -/
theorem conditionsSafe_of_clear {s : State} (hfailsafe : s.ctl.failsafe = false) (hhold : s.ctl.demandHold = false)
    (hisolated : s.ctl.isolated = false) : conditionsSafe s = true :=
  (conditionsSafe_iff s).2 ⟨by simp [hfailsafe], fun _ => ⟨hfailsafe, hhold, hisolated⟩⟩

/-- In RUN it is enough that FAILSAFE and DEMAND-HOLD are not both set. -/
theorem conditionsSafe_of_run {s : State} (hrun : s.ctl.station = .run)
    (hboth : ¬ (s.ctl.failsafe = true ∧ s.ctl.demandHold = true)) : conditionsSafe s = true :=
  (conditionsSafe_iff s).2 ⟨hboth, fun h => absurd hrun h⟩

theorem conditionsSafe_evalConditions {s : State} (hs : conditionsSafe s = true) :
    conditionsSafe (evalConditions s) = true := by
  cases hr : inRun s
  · have h : evalConditions s = s := by simp [evalConditions, hr]
    rw [h]; exact hs
  · have hctl : (evalConditions s).ctl = { s.ctl with failsafe := failsafeCause s, demandHold := holdCause s } := by
      rw [evalConditions_ctl, hr]; rfl
    have hboth := hold_not_failsafe s
    refine conditionsSafe_of_run (by rw [hctl]; simpa [inRun] using hr) ?_
    rw [hctl]
    rintro ⟨hf, hh⟩
    have hf' : failsafeCause s = true := hf
    have hh' : holdCause s = true := hh
    simp [hf', hh'] at hboth

theorem conditionsSafe_demandReact (accepted : Bool) {s : State} (hs : conditionsSafe s = true) :
    conditionsSafe (demandReact accepted s) = true := by
  have hctl := demandReact_ctl accepted s
  exact conditionsSafe_of_eq (by rw [hctl]) (by rw [hctl]) (by rw [hctl]) (by rw [hctl])
    (conditionsSafe_evalConditions hs)

theorem conditionsSafe_demandArrives (p : Publisher) (d : List Byte) {s : State} (hs : conditionsSafe s = true) :
    conditionsSafe (demandArrives p d s) = true := by
  have hnote : conditionsSafe (noteConflict p s) = true :=
    conditionsSafe_of_changes (noteConflict_changes p s) (by decide) hs
  have haccept (u : State) (hu : conditionsSafe u = true) : conditionsSafe (acceptDemand p d u) = true := by
    unfold acceptDemand
    dsimp only
    refine conditionsSafe_demandReact true ?_
    split
    · exact hu
    · exact conditionsSafe_of_changes (noteDemandLost_changes _ _ _) (by decide) hu
  obtain ⟨-, h⟩ | ⟨-, h⟩ := demandArrives_cases p d s
  · rw [h]; exact haccept _ hnote
  · rw [h]; exact hnote

theorem conditionsSafe_evalIsolated {s : State} (hs : conditionsSafe s = true) :
    conditionsSafe (evalIsolated s) = true := by
  obtain ⟨-, h⟩ | ⟨hrun, -, h⟩ := evalIsolated_cases s
  · rw [h]; exact hs
  · have hset (b : Bool) (l : IncidentLog) :
        conditionsSafe ((s.setCtl { s.ctl with isolated := b }).setLog l) = true :=
      conditionsSafe_of_run (by simpa [inRun] using hrun) ((conditionsSafe_iff s).1 hs).1
    rw [h]
    exact conditionsSafe_demandReact false (hset _ _)

theorem conditionsSafe_enterRun (s : State) : conditionsSafe (enterRun s) = true := by
  have hctl : conditionsSafe (controllerEnterRun s) = true := by
    rw [controllerEnterRun_eq]
    exact conditionsSafe_of_run rfl (by simp)
  have hblocks := conditionsSafe_of_changes (blocksEnterRun_changes s) (by decide) hctl
  have hdemand : conditionsSafe (demandEnterRun (blocksEnterRun s)) = true :=
    demandEnterRun_keeps (inv := fun u => conditionsSafe u = true) (fun _ _ hu => hu)
      (fun d u hu => conditionsSafe_of_changes (queueFrame_changes .demand d u) (by decide) hu)
      (fun p d _ hu => conditionsSafe_demandArrives p d hu) hblocks
  rw [enterRun_eq]
  exact conditionsSafe_of_changes (shareEnterRun_changes _) (by decide) hdemand

theorem conditionsSafe_reset (kind : ResetKind) (pins : Pins) (s : State) :
    conditionsSafe (resetStation kind pins s) = true := by
  cases h : strapFault pins
  · obtain ⟨d, hd⟩ := resetStation_of_valid kind s h
    rw [hd]
    exact conditionsSafe_of_clear rfl rfl rfl
  · rw [resetStation_of_fault kind s h]
    exact conditionsSafe_of_clear rfl rfl rfl

theorem conditionsSafe_enterSetup {s : State} (hstart : s.ctl.station = .start) (hs : conditionsSafe s = true) :
    conditionsSafe (enterSetup s) = true := by
  obtain ⟨-, hclear⟩ := (conditionsSafe_iff s).1 hs
  obtain ⟨hfailsafe, hhold, hisolated⟩ := hclear (by simp [hstart])
  exact conditionsSafe_of_changes (enterSetup_changes s) (by decide)
    (conditionsSafe_of_clear (s := s.setCtl { s.ctl with station := .setup, startTimer := none }) hfailsafe hhold
      hisolated)

theorem conditionsSafe_live (c : Instr) (s : State) (hc : compound c = false) (hs : conditionsSafe s = true) :
    conditionsSafe (liveEffect c s) = true := by
  cases c
  case startTimerExpiry | commitEnd | frameSendEnd | demandTimerExpiry => cases hc
  case demandRecordStale =>
    show conditionsSafe (demandStale s) = true
    unfold demandStale
    dsimp only
    split
    · exact conditionsSafe_demandReact false hs
    · exact hs
  case demandRecordLost =>
    show conditionsSafe (demandLostNow s) = true
    unfold demandLostNow
    dsimp only
    split
    · exact conditionsSafe_demandReact false
        (conditionsSafe_of_changes (noteDemandLost_changes _ _ _) (by decide) hs)
    · exact hs
  all_goals exact conditionsSafe_of_changes (liveEffect_changes _ s) (of_decide_eq_true rfl) hs

theorem conditionsSafe_rule : StepRule [.conditions, .isolated, .mode] fun s => conditionsSafe s = true where
  stable h hfree hs := conditionsSafe_of_changes h hfree hs
  ages _ hs := hs
  timers s hs := conditionsSafe_of_eq (s := s) (t := advanceTimers s) rfl rfl rfl rfl hs
  reset kind pins s _ := conditionsSafe_reset kind pins s
  halt s _ := conditionsSafe_of_clear (by rw [enterHalt_ctl]) (by rw [enterHalt_ctl]) (by rw [enterHalt_ctl])
  run s _ _ := conditionsSafe_enterRun s
  setup _ hstart hs := conditionsSafe_enterSetup hstart hs
  arrives p d _ hs := conditionsSafe_demandArrives p d hs
  isolated _ hs := conditionsSafe_evalIsolated hs
  live c s hc hs := conditionsSafe_live c s hc hs
  deliver v source data s hv hs := by
    refine conditionsSafe_of_changes (v.run_changes source data s) ?_ hs
    cases v
    case demand | echoOnly | hold | release | restart | fetch => cases hv
    all_goals exact of_decide_eq_true rfl

end Sys2Proof.Machine
end

section
/-! The safe output set (R3, R144): outside RUN the gates are off, the lamps dark, no servo pulse is driven and the switch
is open; what each operation does there; then the obligation. -/

namespace Sys2Proof.Machine

/-! ### Lamp records by output (R132) -/

theorem getD_tab {α : Type} (m : Nat) (f : Nat → α) (n : Nat) (x : α) :
    (tab m f).getD n x = if n < m then f n else x := by
  by_cases h : n < m <;> simp [tab, List.getD_eq_getElem?_getD, h]

/-- The record of output `n` in a list written output by output. -/
theorem lampAt_tab {s : State} {f : Nat → Lamp} (h : s.lamp.lamps = tab 8 f) (n : Nat) :
    lampAt s n = if n < 8 then f n else {} := by
  rw [lampAt, h, getD_tab]

/-- The fade levels are 0 (R140). -/
def levelsDark (s : State) : Prop := ∀ n, (lampAt s n).level = 0

theorem lampsDark_tab {s : State} {f : Nat → Lamp} (h : s.lamp.lamps = tab 8 f)
    (hdark : ∀ n, (f n).effective = 0 ∧ (f n).level = 0) : lampsDark s = true := by
  simp only [lampsDark, h, tab, List.all_map, List.all_eq_true, Function.comp_apply, Bool.and_eq_true, beq_iff_eq]
  exact fun n _ => hdark n

theorem levelsDark_of_lampsDark {s : State} (h : lampsDark s = true) : levelsDark s := by
  intro n
  unfold lampAt
  rw [List.getD_eq_getElem?_getD]
  cases hn : s.lamp.lamps[n]? with
  | none => rfl
  | some l =>
    have hl := List.all_eq_true.1 h l (List.mem_of_getElem? hn)
    simpa using (Bool.and_eq_true_iff.1 hl).2

theorem lampsDark_of_lamps {s t : State} (h : t.lamp.lamps = s.lamp.lamps) (hs : lampsDark s = true) :
    lampsDark t = true := by
  simpa [lampsDark, h] using hs

theorem levelsDark_of_lamps {s t : State} (h : t.lamp.lamps = s.lamp.lamps) (hs : levelsDark s) : levelsDark t := by
  intro n
  rw [show lampAt t n = lampAt s n by simp [lampAt, h]]
  exact hs n

theorem effectiveTarget_of_not_run {s : State} (h : inRun s = false) (n base : Nat) (shed : Bool) :
    effectiveTarget s n base shed = 0 := by
  simp [effectiveTarget, h]

/-- Outside RUN every effective target is 0 (R139). -/
theorem lampsDark_refreshEffective {s : State} (hrun : inRun s = false) (hlevels : levelsDark s) :
    lampsDark (refreshEffective s) = true :=
  lampsDark_tab (s := refreshEffective s)
    (f := fun n => { lampAt s n with effective := effectiveTarget s n (lampAt s n).base (lampAt s n).shed }) rfl
    fun n => ⟨effectiveTarget_of_not_run hrun n (lampAt s n).base (lampAt s n).shed, hlevels n⟩

theorem lampsDark_darkenLamps (s : State) : lampsDark (darkenLamps s) = true :=
  lampsDark_tab (s := darkenLamps s) (f := fun n => { lampAt s n with effective := 0, level := 0 }) rfl
    fun _ => ⟨rfl, rfl⟩

theorem lampsDark_evalCues {s : State} (hrun : inRun s = false) (hdark : lampsDark s = true) :
    lampsDark (evalCues s) = true := by
  have hlevels := levelsDark_of_lampsDark hdark
  refine lampsDark_refreshEffective hrun fun n => ?_
  rw [lampAt_tab (f := fun n => { lampAt s n with base := baseTarget (computeCues s) (functionOf s n) }) rfl]
  split
  · exact hlevels n
  · rfl

theorem lampsDark_setPhase (phase : Nat) {s : State} (hrun : inRun s = false) (hdark : lampsDark s = true) :
    lampsDark (setPhase phase s) = true := by
  unfold setPhase
  dsimp only
  split
  · exact hdark
  · exact lampsDark_refreshEffective hrun (levelsDark_of_lamps (s := s) rfl (levelsDark_of_lampsDark hdark))

theorem lampsDark_alignBlink (r : Role) {s : State} (hrun : inRun s = false) (hdark : lampsDark s = true) :
    lampsDark (alignBlink r s) = true := by
  unfold alignBlink
  dsimp only
  split_ifs
  · exact lampsDark_setPhase _ hrun hdark
  · exact hdark
  · exact hdark

/-! ### Operations that do nothing outside RUN -/

section
variable {s : State} (hrun : inRun s = false)
include hrun

theorem evalConditions_of_not_run : evalConditions s = s := by simp [evalConditions, hrun]

theorem steerReact_of_not_run (b : Bool) : steerReact b s = s := by simp [steerReact, hrun]

theorem bridgeReact_of_not_run (b : Bool) : bridgeReact b s = s := by simp [bridgeReact, hrun]

theorem winchReact_of_not_run (b : Bool) : winchReact b s = s := by simp [winchReact, hrun]

theorem splitCheck_of_not_run : splitCheck s = s := by simp [splitCheck, hrun]

/-- Outside RUN a DEMAND's hand-on moves the quiet timer and the cues alone (R16). -/
theorem demandReact_of_not_run (b : Bool) : demandReact b s = evalCues (packQuiet s) := by
  unfold demandReact
  rw [evalConditions_of_not_run hrun, steerReact_of_not_run hrun, bridgeReact_of_not_run hrun,
    winchReact_of_not_run hrun]

theorem takeTrip_of_not_run : takeTrip s = s.setShare { s.share with tripHold := true } := by
  have h : inRun (s.setShare { s.share with tripHold := true }) = false := hrun
  simp [takeTrip, h]

end

/-- The events that act in RUN alone. -/
def runOnly : Instr → Bool
  | .checkTimerExpiry | .cutgraceExpiry | .holdTimerExpiry | .quietTimerExpiry | .shareTimerExpiry
  | .demandTimerExpiry | .splitTimerExpiry | .servoFrameTimerExpiry | .periodStart | .dutyStep _ | .cycleLimit _
  | .oneShotTrip _ | .dwellTimerExpiry | .rearmTimerExpiry | .stallTimerExpiry | .starveTimerExpiry
  | .winchTimerExpiry | .fadeTimerExpiry => true
  | _ => false

theorem liveEffect_of_not_run {c : Instr} (hc : runOnly c = true) {s : State} (hrun : inRun s = false) :
    liveEffect c s = s := by
  cases c
  case checkTimerExpiry => simp [liveEffect, checkExpired, hrun]
  case cutgraceExpiry => simp [liveEffect, graceExpired, hrun]
  case holdTimerExpiry => simp [liveEffect, holdExpired, hrun]
  case quietTimerExpiry => simp [liveEffect, quietExpired, hrun]
  case shareTimerExpiry => simp [liveEffect, shareExpired, hrun]
  case demandTimerExpiry => simp [liveEffect, demandTimerExpired, hrun]
  case splitTimerExpiry => simp [liveEffect, splitExpired, hrun]
  case servoFrameTimerExpiry =>
    show servoFrameExpired s = s
    unfold servoFrameExpired
    split <;> simp [hrun]
  case periodStart => simp [liveEffect, periodStarted, hrun]
  case dutyStep => simp [liveEffect, dutyStepped, hrun]
  case cycleLimit => simp [liveEffect, cycleLimited, hrun]
  case oneShotTrip => simp [liveEffect, oneShotTripped, hrun]
  case dwellTimerExpiry => simp [liveEffect, dwellExpired, hrun]
  case rearmTimerExpiry => simp [liveEffect, rearmExpired, hrun]
  case stallTimerExpiry => simp [liveEffect, stallExpired, hrun]
  case starveTimerExpiry => simp [liveEffect, starveExpired, hrun]
  case winchTimerExpiry => simp [liveEffect, winchTimerExpired, hrun]
  case fadeTimerExpiry => simp [liveEffect, fadeExpired, hrun]
  all_goals cases hc

/-! ### The gates (R97, R111) -/

theorem gatesOff_iff (s : State) : gatesOff s = true ↔
    s.bridge.driveState = .off ∧ s.bridge.applied = {} ∧ s.bridge.outDuty = 0 := by
  simp [gatesOff, and_assoc]

theorem gatesOff_of_bridge {s t : State} (h : t.bridge = s.bridge) (hs : gatesOff s = true) : gatesOff t = true := by
  simpa [gatesOff, h] using hs

/-- Putting OFF into effect: no duty, no brake, the shadow empty (R96, R97). -/
theorem applyChoice_off {c : Choice} (hstate : c.state = .off) (hlevel : c.level = 0) (ms : Nat) (duty : Option Int)
    (b : Bridge) : (applyChoice ms c duty b).driveState = .off ∧ (applyChoice ms c duty b).outDuty = 0 ∧
      (applyChoice ms c duty b).shadow = {} ∧ (applyChoice ms c duty b).applied = b.applied := by
  simp [applyChoice, writeShadow, hstate, hlevel, DriveState.drives]

/-- Outside RUN a selection leaves the gates off, and nothing in the shadow of a bridge in use (R100, R112). -/
theorem selectDrive_of_not_run {s : State} (hrun : inRun s = false) (hgates : gatesOff s = true) :
    gatesOff (selectDrive s) = true ∧ (bridgeInUse s = true → (selectDrive s).bridge.shadow = {}) := by
  obtain ⟨-, happlied, -⟩ := (gatesOff_iff s).1 hgates
  have haxle : (chooseAxle s true).state = .off ∧ (chooseAxle s true).level = 0 := by simp [chooseAxle, hrun]
  have hwinch : (chooseWinch s).state = .off ∧ (chooseWinch s).level = 0 := by simp [chooseWinch, hrun]
  have hset (x : Bridge) : (cueEvent s (s.setBridge x)).bridge = x := by simp
  unfold selectDrive
  dsimp only
  split_ifs with ha hw
  · obtain ⟨h1, h2, h3, h4⟩ := applyChoice_off haxle.1 haxle.2 (reverseDwell s) none s.bridge
    rw [gatesOff_iff, hset]
    exact ⟨⟨h1, h4.trans happlied, h2⟩, fun _ => h3⟩
  · obtain ⟨h1, h2, h3, h4⟩ := applyChoice_off hwinch.1 hwinch.2 0 (some (winchDrive s).2)
      { s.bridge with d := (winchDrive s).2 }
    rw [gatesOff_iff, hset]
    exact ⟨⟨h1, h4.trans happlied, h2⟩, fun _ => h3⟩
  · exact ⟨hgates, fun h => by simp [bridgeInUse, ha, hw] at h⟩

/-! ### The safe output set -/

/-- The outputs stand at the safe output set (R3). -/
def Idle (s : State) : Prop :=
  gatesOff s = true ∧ lampsDark s = true ∧ servoQuiet s = true ∧ s.pack.closed = false

theorem outputsSafe_iff (s : State) : outputsSafe s = true ↔ (inRun s = false → Idle s) := by
  cases hr : inRun s <;> simp [outputsSafe, Idle, hr, and_assoc]

theorem Idle.of_blocks {s t : State} (hbridge : t.bridge = s.bridge) (hlamps : t.lamp.lamps = s.lamp.lamps)
    (hsteer : t.steer = s.steer) (hclosed : t.pack.closed = s.pack.closed) (hs : Idle s) : Idle t := by
  obtain ⟨h1, h2, h3, h4⟩ := hs
  exact ⟨gatesOff_of_bridge hbridge h1, by simpa [lampsDark, hlamps] using h2, by simpa [servoQuiet, hsteer] using h3,
    hclosed.trans h4⟩

theorem Idle.of_changes {ps : List Piece} {s t : State} (h : Changes ps s t)
    (hfree : ∀ p ∈ ps, p ∉ ([.steer, .bridge, .pack, .lamp] : List Piece)) (hs : Idle s) : Idle t := by
  have hbridge : t.bridge = s.bridge := h .bridge fun hp => hfree _ hp (by decide)
  have hlamp : t.lamp = s.lamp := h .lamp fun hp => hfree _ hp (by decide)
  have hsteer : t.steer = s.steer := h .steer fun hp => hfree _ hp (by decide)
  have hpack : t.pack = s.pack := h .pack fun hp => hfree _ hp (by decide)
  exact .of_blocks hbridge (by rw [hlamp]) hsteer (by rw [hpack]) hs

theorem Idle.packQuiet {s : State} (hs : Idle s) : Idle (packQuiet s) := by
  obtain ⟨q, hq⟩ := packQuiet_pack s
  exact .of_blocks (by simp) (by simp) (by simp) (by rw [hq]) hs

/-- With the gates off nothing drives past an end of the line. -/
theorem Idle.brakeAtEnd {s : State} (hs : Idle s) : Idle (brakeAtEnd s) := by
  obtain ⟨-, happlied, -⟩ := (gatesOff_iff s).1 hs.1
  have h : drivesPastEnd s = false := by simp [drivesPastEnd, happlied]
  simpa [Machine.brakeAtEnd, h] using hs

theorem Idle.evalAssist {s : State} (hs : Idle s) : Idle (evalAssist s) := by
  obtain ⟨hstate, happlied, hduty⟩ := (gatesOff_iff s).1 hs.1
  have hgates : gatesOff (Machine.evalAssist s) = true := by
    unfold Machine.evalAssist
    dsimp only
    split
    · split <;> simp [gatesOff, hstate, happlied, hduty]
    · exact hs.1
  exact ⟨hgates, by simpa [lampsDark] using hs.2.1, by simpa [servoQuiet] using hs.2.2.1, by simpa using hs.2.2.2⟩

section
variable {s : State} (hrun : inRun s = false)
include hrun

theorem Idle.evalCues (hs : Idle s) : Idle (evalCues s) := by
  obtain ⟨h1, h2, h3, h4⟩ := hs
  exact ⟨gatesOff_of_bridge (by simp) h1, lampsDark_evalCues hrun h2, by simpa [servoQuiet] using h3, by simpa using h4⟩

theorem Idle.cueEvent (before : State) (hs : Idle s) : Idle (cueEvent before s) := by
  unfold Machine.cueEvent
  split
  · exact hs
  · exact hs.evalCues hrun

theorem Idle.setPhase (phase : Nat) (hs : Idle s) : Idle (setPhase phase s) := by
  obtain ⟨h1, h2, h3, h4⟩ := hs
  exact ⟨gatesOff_of_bridge (by simp) h1, lampsDark_setPhase phase hrun h2, by simpa [servoQuiet] using h3,
    by simpa using h4⟩

theorem Idle.alignBlink (r : Role) (hs : Idle s) : Idle (alignBlink r s) := by
  obtain ⟨h1, h2, h3, h4⟩ := hs
  exact ⟨gatesOff_of_bridge (by simp) h1, lampsDark_alignBlink r hrun h2, by simpa [servoQuiet] using h3,
    by simpa using h4⟩

theorem Idle.demandReact (b : Bool) (hs : Idle s) : Idle (demandReact b s) := by
  have hquiet : inRun (Machine.packQuiet s) = false := (inRun_congr (by simp)).trans hrun
  rw [demandReact_of_not_run hrun]
  exact hs.packQuiet.evalCues hquiet

/-- Outside RUN a selection leaves the safe output set. -/
theorem Idle.selectDrive (hs : Idle s) : Idle (selectDrive s) := by
  obtain ⟨hgates, -⟩ := selectDrive_of_not_run hrun hs.1
  have hset (x : Bridge) : lampsDark (Machine.cueEvent s (s.setBridge x)) = true := by
    unfold Machine.cueEvent
    split
    · exact hs.2.1
    · exact lampsDark_evalCues (s := s.setBridge x) hrun hs.2.1
  have hdark : lampsDark (Machine.selectDrive s) = true := by
    unfold Machine.selectDrive
    dsimp only
    split_ifs
    · exact hset _
    · exact hset _
    · exact hs.2.1
  exact ⟨hgates, hdark, by simpa [servoQuiet] using hs.2.2.1, by simpa using hs.2.2.2⟩

/-- Outside RUN the brake that a selection gives is no brake: the gates stay off (R96, R100). -/
theorem Idle.brakeGates_selectDrive (huse : bridgeInUse s = true) (hs : Idle s) :
    Idle (brakeGates (Machine.selectDrive s)) := by
  obtain ⟨hgates, hshadow⟩ := selectDrive_of_not_run hrun hs.1
  obtain ⟨hstate, -, hduty⟩ := (gatesOff_iff _).1 hgates
  obtain ⟨-, h2, h3, h4⟩ := hs.selectDrive hrun
  exact ⟨(gatesOff_iff _).2 ⟨hstate, hshadow huse, hduty⟩, h2, h3, h4⟩

theorem Idle.enterWinch (new : WinchState) (hw : roleIs s .winch = true) (hs : Idle s) : Idle (enterWinch new s) := by
  have hset (w : Winch) : Idle (s.setWinch w) := hs
  have huse (w : Winch) : bridgeInUse (s.setWinch w) = true := by
    have h : roleIs (s.setWinch w) .winch = true := hw
    simp [bridgeInUse, h]
  have hpublish (u : State) (hu : Idle u) : Idle (publishWinch u) := .of_changes (publishWinch_changes u) (by decide) hu
  have hcue (b u : State) (hr : inRun u = false) (hu : Idle u) : Idle (Machine.cueEvent b u) := hu.cueEvent hr b
  have hrunS (w : Winch) : inRun (Machine.selectDrive (s.setWinch w)) = false := (inRun_congr (by simp)).trans hrun
  unfold Machine.enterWinch
  dsimp only
  split
  · exact hs
  · refine hpublish _ (hcue _ _ ?_ ?_)
    · split
      · exact (inRun_congr (by simp)).trans hrun
      · exact (inRun_congr (by simp)).trans hrun
    · split
      · exact Idle.brakeGates_selectDrive (s := s.setWinch _) hrun (huse _) (hset _)
      · exact Idle.selectDrive (s := s.setWinch _) hrun (hset _)

/-! ### The events outside RUN -/

theorem Idle.acceptAllowance (d : List Byte) (hs : Idle s) : Idle (acceptAllowance d s) := by
  let a := (s.setLatest { s.latest with allowance := readAllowance d }).setShare { s.share with tripHold := false }
  have ha : inRun a = false := hrun
  have hb : inRun (Machine.evalCues a) = false := (inRun_congr (by simp)).trans ha
  have heq : Machine.acceptAllowance d s = Machine.evalCues a := by
    unfold Machine.acceptAllowance
    simp only [a] at ha hb
    simp only [ha, Bool.false_and, Bool.false_eq_true, if_false]
    exact winchReact_of_not_run hb false
  rw [heq]
  exact Idle.evalCues (s := a) ha hs

theorem Idle.hallEdged (stamp : Half) (hs : Idle s) : Idle (hallEdged stamp s) := by
  cases hw : roleIs s .winch
  · simpa [Machine.hallEdged, hw] using hs
  · have hcount : Idle (hallCounted stamp s) := hs
    rw [hallEdged_eq stamp hw]
    refine Idle.brakeAtEnd ?_
    split
    · exact Idle.enterWinch (s := hallCounted stamp s) hrun _ hw hcount
    · exact hcount

theorem Idle.homeActivated (hs : Idle s) : Idle (homeActivated s) := by
  cases hw : roleIs s .winch
  · simpa [Machine.homeActivated, hw] using hs
  · have hcount : Idle (homeCounted s) := hs
    rw [homeActivated_eq hw]
    refine Idle.brakeAtEnd ?_
    split
    · exact Idle.enterWinch (s := homeCounted s) hrun _ hw hcount
    · split
      · exact Idle.enterWinch (s := homeCounted s) hrun _ hw hcount
      · exact Idle.selectDrive (s := homeCounted s) hrun hcount
    all_goals exact hcount

theorem Idle.scanCompleted (scan : Scan) (hs : Idle s) : Idle (scanCompleted scan s) := by
  have hnote : Idle (noteSensor (s.setPack (scannedPack scan s))) :=
    .of_changes (noteSensor_changes (s.setPack (scannedPack scan s))) (by decide) hs
  have hr : inRun (noteSensor (s.setPack (scannedPack scan s))) = false :=
    (inRun_congr (noteSensor_changes (s.setPack (scannedPack scan s)) .mode (by decide)).2.2.1).trans hrun
  unfold Machine.scanCompleted
  dsimp only
  rw [hr]
  split
  · exact hnote
  · exact hs

theorem Idle.queueTrip (p : PackState) (c : TripCause) (hs : Idle s) : Idle (queueTrip p c s) := by
  have hr : inRun (queueFrame .trip [p.code, c.code] s) = false := (inRun_congr (by simp)).trans hrun
  have hq : Idle (queueFrame .trip [p.code, c.code] s) := .of_changes (queueFrame_changes _ _ s) (by decide) hs
  unfold Machine.queueTrip
  rw [takeTrip_of_not_run hr]
  exact hq

omit hrun in
theorem Idle.packTripped (i : Current) (hs : Idle s) : Idle (packTripped i s) := by
  obtain ⟨h1, h2, h3, h4⟩ := hs
  simp only [Machine.packTripped, h4, Bool.and_false, Bool.false_and, Bool.false_eq_true, if_false]
  exact ⟨h1, h2, h3, h4⟩

theorem Idle.presenceChanged (r : Role) (hs : Idle s) : Idle (presenceChanged r s) := by
  have hcues (p : Peers) : Idle (Machine.evalCues (s.setPeers p)) := Idle.evalCues (s := s.setPeers p) hrun hs
  have hr (p : Peers) : inRun (Machine.evalCues (s.setPeers p)) = false := (inRun_congr (by simp)).trans hrun
  unfold Machine.presenceChanged
  dsimp only
  split_ifs
  · rw [splitCheck_of_not_run (hr _)]; exact hcues _
  · exact hcues _
  · exact hs

theorem Idle.deliverStation (source : BitVec 4) (d : List Byte) (hs : Idle s) : Idle (deliverStation source d s) := by
  have hr (p : Peers) : inRun (Machine.evalCues (s.setPeers p)) = false := (inRun_congr (by simp)).trans hrun
  have halign (p : Peers) (r : Role) : Idle (Machine.alignBlink r (Machine.evalCues (s.setPeers p))) :=
    (Idle.evalCues (s := s.setPeers p) hrun hs).alignBlink (hr p) r
  have hr' (p : Peers) (r : Role) : inRun (Machine.alignBlink r (Machine.evalCues (s.setPeers p))) = false :=
    (inRun_congr (by simp)).trans hrun
  unfold Machine.deliverStation
  split
  · dsimp only
    split
    · rw [splitCheck_of_not_run (hr' _ _)]; exact halign _ _
    · exact halign _ _
  · exact hs

theorem Idle.demandArrives (p : Publisher) (d : List Byte) (hs : Idle s) : Idle (demandArrives p d s) := by
  have hnote : Idle (noteConflict p s) := .of_changes (noteConflict_changes p s) (by decide) hs
  have hr : inRun (noteConflict p s) = false :=
    (inRun_congr (noteConflict_changes p s .mode (by decide)).2.2.1).trans hrun
  have haccept (u : State) (hu : inRun u = false) (hi : Idle u) : Idle (acceptDemand p d u) := by
    have hset (l : Latest) : Idle (u.setLatest l) := hi
    have hrun (l : Latest) : inRun (u.setLatest l) = false := hu
    have hlost (a b : Band) (l : Latest) : Idle (noteDemandLost a b (u.setLatest l)) :=
      (hset l).of_changes (noteDemandLost_changes a b _) (by decide)
    have hlostRun (a b : Band) (l : Latest) : inRun (noteDemandLost a b (u.setLatest l)) = false :=
      (inRun_congr (by simp)).trans (hrun l)
    unfold acceptDemand
    dsimp only
    split
    · exact (hset _).demandReact (hrun _) true
    · exact (hlost _ _ _).demandReact (hlostRun _ _ _) true
  obtain ⟨-, h⟩ | ⟨-, h⟩ := demandArrives_cases p d s
  · rw [h]; exact haccept _ hr hnote
  · rw [h]; exact hnote

theorem Idle.demandStale (hs : Idle s) : Idle (demandStale s) := by
  have hset (l : Latest) : Idle (s.setLatest l) := hs
  have hr (l : Latest) : inRun (s.setLatest l) = false := hrun
  unfold Machine.demandStale
  dsimp only
  split
  · exact (hset _).demandReact (hr _) false
  · exact hs

theorem Idle.demandLostNow (hs : Idle s) : Idle (demandLostNow s) := by
  have hset (a b : Band) (l : Latest) : Idle (noteDemandLost a b (s.setLatest l)) :=
    Idle.of_changes (s := s.setLatest l) (noteDemandLost_changes a b _) (by decide) hs
  have hr (a b : Band) (l : Latest) : inRun (noteDemandLost a b (s.setLatest l)) = false :=
    (inRun_congr (by simp)).trans hrun
  unfold Machine.demandLostNow
  dsimp only
  split
  · exact (hset _ _ _).demandReact (hr _ _ _) false
  · exact hs

/-- Every event but RUN entry, the end of a commit and of an own frame leaves the safe output set outside RUN. -/
theorem Idle.liveEffect (c : Instr) (hc : compound c = false) (hs : Idle s) : Idle (liveEffect c s) := by
  by_cases honly : runOnly c = true
  · rw [liveEffect_of_not_run honly hrun]; exact hs
  · cases c
    case startTimerExpiry | commitEnd | frameSendEnd => cases hc
    case checkTimerExpiry | cutgraceExpiry | holdTimerExpiry | quietTimerExpiry | shareTimerExpiry | demandTimerExpiry
        | splitTimerExpiry | servoFrameTimerExpiry | periodStart | dutyStep | cycleLimit | oneShotTrip
        | dwellTimerExpiry | rearmTimerExpiry | stallTimerExpiry | starveTimerExpiry | winchTimerExpiry
        | fadeTimerExpiry => exact absurd rfl honly
    case demandRecordStale => exact hs.demandStale hrun
    case demandRecordLost => exact hs.demandLostNow hrun
    case allowanceRecordLost =>
      have hcues (l : Latest) : Idle (Machine.evalCues (s.setLatest l)) := Idle.evalCues (s := s.setLatest l) hrun hs
      have hr (l : Latest) : inRun (Machine.evalCues (s.setLatest l)) = false := (inRun_congr (by simp)).trans hrun
      show Idle (allowanceLost s)
      unfold allowanceLost
      dsimp only
      split
      · rw [winchReact_of_not_run (hr _)]; exact hcues _
      · exact hs
    case winchRecordLost =>
      show Idle (winchRecordLost s)
      unfold winchRecordLost
      dsimp only
      split
      · exact Idle.evalAssist (s := s.setLatest _) hs
      · exact hs
    case peerPresenceChange r => exact hs.presenceChanged hrun r
    case scanCompletion scan => exact hs.scanCompleted hrun scan
    case packTrip i => exact hs.packTripped i
    case servoPulseEnd =>
      have hquiet : s.steer.output = 0 := by simpa [servoQuiet] using (Bool.and_eq_true_iff.1 hs.2.2.1).2
      exact ⟨hs.1, hs.2.1, by simp [Machine.liveEffect, servoPulseEnded, servoQuiet, hquiet], hs.2.2.2⟩
    case windowTimerExpiry => exact hs
    case drivenTimerExpiry => exact Idle.cueEvent (s := s.setBridge { s.bridge with drivenTimer := none }) hrun s hs
    case hallEdge stamp => exact hs.hallEdged hrun stamp
    case homeActivation => exact hs.homeActivated hrun
    case blinkStep => exact Idle.setPhase (s := s.setLamp { s.lamp with blinkTimer := some 3 }) hrun _ hs
    all_goals exact hs.of_changes (liveEffect_changes _ s) (of_decide_eq_true rfl)

end

/-! ### HALT and the resets (R3, R7, R170) -/

/-- HALT puts every output at the safe output set (R3, R111, R144). -/
theorem enterHalt_idle (s : State) : Idle (enterHalt s) := by
  have hbridge : (enterHalt s).bridge = (bridgeStop s).bridge := by simp [enterHalt, bridgeStop]
  refine ⟨?_, ?_, ?_, by simp [enterHalt, haltPack]⟩
  · rw [gatesOff_iff, hbridge]
    exact ⟨rfl, rfl, rfl⟩
  · obtain ⟨u, hu⟩ : ∃ u, (enterHalt s).lamp = (darkenLamps u).lamp := ⟨_, rfl⟩
    exact lampsDark_of_lamps (s := darkenLamps u) (by rw [hu]) (lampsDark_darkenLamps u)
  · have hsteer (u : State) (h : u.steer.srv = false) (ho : u.steer.output = 0) : servoQuiet (steerRefresh u) = true := by
      unfold steerRefresh
      split <;> simp [servoQuiet, h, ho]
    have heq : (enterHalt s).steer = (steerStop ((s.setNvm (abandonedNvm s)).setCtl { s.ctl with
        station := .halt, failsafe := false, demandHold := false, isolated := false, startTimer := none
        stationTimer := none, commit := none } |>.setPort (haltPort s.port))).steer := by simp [enterHalt]
    simp only [servoQuiet, heq]
    exact hsteer _ rfl rfl

theorem resetStation_idle (kind : ResetKind) (pins : Pins) (s : State) : Idle (resetStation kind pins s) := by
  have hidle : Idle {} := ⟨by decide, by decide, rfl, rfl⟩
  cases h : strapFault pins
  · obtain ⟨d, hd⟩ := resetStation_of_valid kind s h
    rw [hd]
    exact ⟨gatesOff_of_bridge (s := {}) rfl hidle.1, lampsDark_of_lamps (s := {}) rfl hidle.2.1, rfl, rfl⟩
  · rw [resetStation_of_fault kind s h]
    exact hidle

theorem outputsSafe_of_idle {s : State} (h : Idle s) : outputsSafe s = true := (outputsSafe_iff s).2 fun _ => h

/-- An event that leaves the station state keeps the rule where it leaves the safe output set outside RUN. -/
theorem outputsSafe_of_mode {s t : State} (hstation : t.ctl.station = s.ctl.station)
    (h : inRun s = false → Idle s → Idle t) (hs : outputsSafe s = true) : outputsSafe t = true := by
  rw [outputsSafe_iff] at hs ⊢
  rw [inRun_congr hstation]
  exact fun hr => h hr (hs hr)

theorem outputsSafe_of_changes {ps : List Piece} {s t : State} (h : Changes ps s t)
    (hfree : ∀ p ∈ ps, p ∉ ([.steer, .bridge, .pack, .lamp, .mode] : List Piece)) (hs : outputsSafe s = true) :
    outputsSafe t = true := by
  obtain ⟨-, -, hstation, -⟩ := h .mode fun hp => hfree _ hp (by decide)
  refine outputsSafe_of_mode hstation (fun _ hi => hi.of_changes h fun p hp hmem => hfree p hp ?_) hs
  simp only [List.mem_cons, List.not_mem_nil, or_false] at hmem ⊢
  tauto

theorem liveEffect_station {c : Instr} (hc : compound c = false) (s : State) :
    (liveEffect c s).ctl.station = s.ctl.station := by
  have h := liveEffect_changes c s .mode
  cases c
  case startTimerExpiry | commitEnd | frameSendEnd => cases hc
  all_goals exact (h (of_decide_eq_false rfl)).2.2.1

theorem outputsSafe_enterSetup {s : State} (hstart : s.ctl.station = .start) (hs : outputsSafe s = true) :
    outputsSafe (enterSetup s) = true := by
  have hidle : Idle s := (outputsSafe_iff s).1 hs (by simp [inRun, hstart])
  have hcues : Idle (evalCues (s.setCtl { s.ctl with station := .setup, startTimer := none })) :=
    Idle.evalCues (s := s.setCtl { s.ctl with station := .setup, startTimer := none }) rfl hidle
  exact outputsSafe_of_idle (hcues.of_changes (queueStation_changes _) (by decide))

theorem outputsSafe_deliver (v : Delivery) (source : BitVec 4) (data : List Byte) (s : State)
    (hv : v.single = true) (hs : outputsSafe s = true) : outputsSafe (v.run source data s) = true := by
  have hmode := v.run_changes source data s .mode
  cases v
  case demand | echoOnly | hold | release | restart | fetch => cases hv
  case station =>
    exact outputsSafe_of_mode (hmode (by decide)).2.2.1 (fun hr hi => hi.deliverStation hr source data) hs
  case allowance =>
    refine outputsSafe_of_mode (hmode (by decide)).2.2.1 (fun hr hi => ?_) hs
    show Idle (deliverAllowance source data s)
    unfold deliverAllowance
    split
    · exact hi.acceptAllowance hr data
    · exact hi
  case winch =>
    refine outputsSafe_of_mode (hmode (by decide)).2.2.1 (fun hr hi => ?_) hs
    show Idle (deliverWinch source data s)
    unfold deliverWinch
    split
    · exact Idle.evalAssist (s := s.setLatest _) hi
    · exact hi
  case trip =>
    refine outputsSafe_of_mode (hmode (by decide)).2.2.1 (fun hr hi => ?_) hs
    show Idle (deliverTrip source data s)
    unfold deliverTrip
    split
    · rw [takeTrip_of_not_run hr]; exact hi
    · exact hi
  case setting =>
    exact outputsSafe_of_changes (Delivery.run_changes _ source data s) (of_decide_eq_true rfl) hs

theorem outputsSafe_rule : StepRule [.steer, .bridge, .pack, .lamp, .mode] fun s => outputsSafe s = true where
  stable h hfree hs := outputsSafe_of_changes h hfree hs
  ages _ hs := hs
  timers s hs := outputsSafe_of_mode (s := s) (t := advanceTimers s) rfl (fun _ hi => hi) hs
  reset kind pins s _ := outputsSafe_of_idle (resetStation_idle kind pins s)
  halt s _ := outputsSafe_of_idle (enterHalt_idle s)
  run s _ _ := (outputsSafe_iff _).2 fun h => by simp [inRun, (enterRun_mode s).2.2.1] at h
  setup _ hstart hs := outputsSafe_enterSetup hstart hs
  arrives p d s hs := outputsSafe_of_mode (demandArrives_station p d s) (fun hr hi => hi.demandArrives hr p d) hs
  isolated s hs := outputsSafe_of_mode (evalIsolated_station s)
    (fun hr hi => by simpa [evalIsolated, hr] using hi) hs
  live c s hc hs := outputsSafe_of_mode (liveEffect_station hc s) (fun hr hi => hi.liveEffect hr c hc) hs
  deliver v source data s hv hs := outputsSafe_deliver v source data s hv hs

end Sys2Proof.Machine

open Sys2Proof Sys2Proof.Machine

/-- Settles O55: outside RUN no operation drives a gate, a lamp, the servo or the switch, and leaving RUN stops them all;
the conditions are set in RUN alone, DEMAND-HOLD only without FAILSAFE. -/
theorem safeOutputsKept : Obligations.SafeOutputsKept := by
  intro s t houtputs hconditions h
  exact ⟨outputsSafe_rule.keeps_step (by decide) houtputs h, conditionsSafe_rule.keeps_step (by decide) hconditions h⟩
end

section
/-! What the operations queue: from one station to the next the port moves only by frames queued on the listed topics
(R160). -/

namespace Sys2Proof.Machine

/-- From `s` to `t` the port moves by queuing frames of the listed topics alone: every property of a port that such a
queuing keeps is kept. -/
def Queues (ts : List TxTopic) (s t : State) : Prop :=
  ∀ P : BusPort → Prop, (∀ topic ∈ ts, ∀ d u, P u.port → P (queueFrame topic d u).port) → P s.port → P t.port

namespace Queues

variable {ts us : List TxTopic} {s t u : State}

theorem of_eq (h : t.port = s.port) : Queues ts s t := fun _ _ hs => h.symm ▸ hs

theorem refl (ts : List TxTopic) (s : State) : Queues ts s s := .of_eq rfl

theorem trans (h : Queues ts s t) (h' : Queues ts t u) : Queues ts s u := fun P hq hs => h' P hq (h P hq hs)

theorem mono (h : Queues ts s t) (hsub : ts ⊆ us) : Queues us s t :=
  fun P hq hs => h P (fun topic ht => hq topic (hsub ht)) hs

theorem of_changes {ps : List Piece} (h : Changes ps s t) (hp : .port ∉ ps) : Queues ts s t := .of_eq (h .port hp)

theorem queueFrame {topic : TxTopic} (d : List Byte) (s : State) (h : topic ∈ ts) :
    Queues ts s (queueFrame topic d s) := fun _ hq hs => hq topic h d s hs

end Queues

/-! ### The winch controller (R129) -/

theorem publishWinch_queues (s : State) : Queues [.winch] s (publishWinch s) := by
  have hset (w : Winch) : Queues [.winch] s (s.setWinch w) := .of_eq rfl
  have hlatest (u : State) (l : Latest) : Queues [.winch] u (u.setLatest l) := .of_eq rfl
  exact ((hset _).trans (.queueFrame _ _ (by decide))).trans (hlatest _ _)

theorem enterWinch_queues (new : WinchState) (s : State) : Queues [.winch] s (enterWinch new s) := by
  unfold enterWinch
  dsimp only
  split
  · exact .refl _ _
  · refine .trans (.of_eq ?_) (publishWinch_queues _)
    split <;> simp

theorem winchEvaluate_queues (s : State) : Queues [.winch] s (winchEvaluate s) := by
  unfold winchEvaluate
  exact .trans (.of_eq (by simp)) (enterWinch_queues _ _)

theorem winchReact_queues (b : Bool) (s : State) : Queues [.winch] s (winchReact b s) :=
  winchReact_keeps (P := Queues [.winch] s) b (.refl _ _) (fun _ _ => .of_eq rfl)
    (fun h => h.trans (enterWinch_queues _ _)) fun _ h => h.trans (winchEvaluate_queues _)

theorem winchHandOver_queues (s : State) : Queues [.winch] s (winchHandOver s) := by
  obtain h | ⟨-, -, -, ⟨-, -, h⟩ | ⟨-, -, h⟩⟩ | ⟨-, -, -, h⟩ := winchHandOver_cases s
  · rw [h]; exact .refl _ _
  · rw [h]; exact enterWinch_queues _ _
  · rw [h]; exact enterWinch_queues _ _
  · rw [h]; exact .of_eq rfl

theorem winchTripped_queues (s : State) : Queues [.winch] s (winchTripped s) := by
  have hset (w : Winch) : Queues [.winch] s (s.setWinch w) := .of_eq rfl
  unfold winchTripped
  dsimp only
  split
  · have henter : Queues [.winch] s (enterWinch .hold (s.setWinch { s.winch with holdOff := true })) :=
      (hset _).trans (enterWinch_queues _ _)
    split
    case h_1 | h_2 | h_3 => exact henter
    all_goals exact hset _
  · exact .refl _ _

theorem brakeAtEnd_queues {s t : State} (h : Queues [.winch] s t) : Queues [.winch] s (brakeAtEnd t) :=
  h.trans (.of_eq (by simp))

theorem hallEdged_queues (stamp : Half) (s : State) : Queues [.winch] s (hallEdged stamp s) := by
  cases hw : roleIs s .winch
  · exact .of_eq (by simp [hallEdged, hw])
  · rw [hallEdged_eq stamp hw]
    have hcount : Queues [.winch] s (hallCounted stamp s) := .of_eq rfl
    refine brakeAtEnd_queues ?_
    split
    · exact hcount.trans (enterWinch_queues _ _)
    · exact hcount

theorem homeActivated_queues (s : State) : Queues [.winch] s (homeActivated s) := by
  cases hw : roleIs s .winch
  · exact .of_eq (by simp [homeActivated, hw])
  · rw [homeActivated_eq hw]
    have hcount : Queues [.winch] s (homeCounted s) := .of_eq rfl
    refine brakeAtEnd_queues ?_
    split
    · exact hcount.trans (enterWinch_queues _ _)
    · split
      · exact hcount.trans (enterWinch_queues _ _)
      · exact hcount.trans (.of_eq (by simp))
    all_goals exact hcount

/-! ### The share unit and the pack monitor (R18, R45, R46) -/

theorem shareCompute_queues (c : ShareCause) (s : State) : Queues [.winch] s (shareCompute c s) := by
  unfold shareCompute
  exact .trans (.of_eq (by simp)) (winchHandOver_queues _)

theorem takeTrip_queues (s : State) : Queues [.winch] s (takeTrip s) := by
  have hset (x : Share) : Queues [.winch] s (s.setShare x) := .of_eq rfl
  unfold takeTrip
  dsimp only
  split
  · exact (hset _).trans (shareCompute_queues _ _)
  · exact hset _

theorem queueTrip_queues (p : PackState) (c : TripCause) (s : State) : Queues [.trip, .winch] s (queueTrip p c s) :=
  (Queues.queueFrame _ s (by decide)).trans ((takeTrip_queues _).mono (by decide))

theorem acceptAllowance_queues (d : List Byte) (s : State) : Queues [.winch] s (acceptAllowance d s) := by
  have hset (l : Latest) (x : Share) : Queues [.winch] s ((s.setLatest l).setShare x) := .of_eq rfl
  have hreact (u : State) : Queues [.winch] u (winchReact false (evalCues u)) :=
    .trans (.of_eq (by simp)) (winchReact_queues false _)
  unfold acceptAllowance
  dsimp only
  split
  · exact ((hset _ _).trans (shareCompute_queues _ _)).trans (hreact _)
  · exact (hset _ _).trans (hreact _)

theorem packRules_queues (s : State) : Queues [.trip, .winch] s (packRules s) := by
  have h := packRules_outcome s
  generalize packRules s = u at h ⊢
  cases h with
  | unchanged => exact .refl _ _
  | cutoff => exact .trans (.of_eq (by rfl)) (queueTrip_queues _ _ _)
  | moved => exact .of_eq rfl

theorem publishAllowance_queues (s : State) : Queues [.allowance, .winch] s (publishAllowance s) := by
  have hset (x : Pack) : Queues [.allowance, .winch] s (s.setPack x) := .of_eq rfl
  exact ((hset _).trans (.queueFrame _ _ (by decide))).trans ((acceptAllowance_queues _ _).mono (by decide))

theorem scanCompleted_queues (scan : Scan) (s : State) :
    Queues [.allowance, .trip, .winch] s (scanCompleted scan s) := by
  have hnote : Queues [.allowance, .trip, .winch] s (noteSensor (s.setPack (scannedPack scan s))) := .of_eq (by simp)
  unfold scanCompleted
  dsimp only
  split
  · split
    · exact (hnote.trans ((packRules_queues _).mono (by decide))).trans ((publishAllowance_queues _).mono (by decide))
    · exact hnote
  · exact .refl _ _

theorem checkExpired_queues (s : State) : Queues [.trip, .winch] s (checkExpired s) := by
  unfold checkExpired
  dsimp only
  split_ifs
  · exact .of_eq rfl
  · exact .trans (.of_eq (by rfl)) (queueTrip_queues _ _ _)
  · exact .refl _ _

theorem packTripped_queues (i : Current) (s : State) : Queues [.trip, .winch] s (packTripped i s) := by
  unfold packTripped
  dsimp only
  split_ifs
  · exact .of_eq rfl
  · exact .trans (.of_eq (by rfl)) (queueTrip_queues _ _ _)
  · exact .trans (.of_eq (by rfl)) (queueTrip_queues _ _ _)
  · exact .refl _ _

theorem shareExpired_queues (s : State) : Queues [.winch] s (shareExpired s) := by
  unfold shareExpired
  split
  · exact .trans (.of_eq (by rfl)) (shareCompute_queues _ _)
  · exact .refl _ _

/-! ### DEMAND (R16, R20, R78) -/

theorem demandReact_queues (b : Bool) (s : State) : Queues [.winch] s (demandReact b s) := by
  have hbefore : Queues [.winch] s (bridgeReact b (steerReact b (evalConditions s))) := .of_eq (by simp)
  have hafter (u : State) : Queues [.winch] u (evalCues (packQuiet u)) := .of_eq (by simp)
  unfold demandReact
  exact (hbefore.trans (winchReact_queues b _)).trans (hafter _)

theorem acceptDemand_queues (p : Publisher) (d : List Byte) (s : State) : Queues [.winch] s (acceptDemand p d s) := by
  unfold acceptDemand
  dsimp only
  split
  · exact .trans (.of_eq (by simp)) (demandReact_queues true _)
  · exact .trans (.of_eq (by simp)) (demandReact_queues true _)

theorem demandArrives_queues (p : Publisher) (d : List Byte) (s : State) :
    Queues [.winch] (noteConflict p s) (demandArrives p d s) := by
  have hset (l : Latest) : Queues [.winch] (noteConflict p s) ((noteConflict p s).setLatest l) := .of_eq rfl
  obtain ⟨-, h⟩ | ⟨-, h⟩ := demandArrives_cases p d s
  · rw [h]; exact (hset _).trans (acceptDemand_queues p d _)
  · rw [h]; exact hset _

/-- A DEMAND of another publisher leaves the port of the RADIO station or withdraws its own (R20). -/
theorem noteConflict_port (p : Publisher) (s : State) :
    (noteConflict p s).port = s.port ∨ (noteConflict p s).port = (withdrawDemand s).port := by
  unfold noteConflict
  dsimp only
  split_ifs
  · exact .inr rfl
  · exact .inr rfl
  · exact .inl rfl
  · exact .inl rfl
  · exact .inl rfl

theorem demandStale_queues (s : State) : Queues [.winch] s (demandStale s) := by
  unfold demandStale
  dsimp only
  split
  · exact .trans (.of_eq (by rfl)) (demandReact_queues false _)
  · exact .refl _ _

theorem demandLostNow_queues (s : State) : Queues [.winch] s (demandLostNow s) := by
  unfold demandLostNow
  dsimp only
  split
  · exact .trans (.of_eq (by simp)) (demandReact_queues false _)
  · exact .refl _ _

theorem allowanceLost_queues (s : State) : Queues [.winch] s (allowanceLost s) := by
  unfold allowanceLost
  dsimp only
  split
  · exact .trans (.of_eq (by simp)) (winchReact_queues false _)
  · exact .refl _ _

theorem evalIsolated_queues (s : State) : Queues [.winch] s (evalIsolated s) := by
  obtain ⟨-, h⟩ | ⟨-, -, h⟩ := evalIsolated_cases s
  · rw [h]; exact .refl _ _
  · rw [h]; exact .trans (.of_eq (by rfl)) (demandReact_queues false _)

/-! ### The events of the bridge and the winch -/

theorem oneShotTripped_queues (i : Current) (s : State) : Queues [.winch] s (oneShotTripped i s) := by
  unfold oneShotTripped
  dsimp only
  split
  · refine .trans (.of_eq ?_) (winchTripped_queues _)
    split <;> simp
  · exact .refl _ _

theorem stallExpired_queues (s : State) : Queues [.winch] s (stallExpired s) := by
  unfold stallExpired
  split
  · exact .trans (.of_eq (by rfl)) (enterWinch_queues _ _)
  · exact .refl _ _

theorem starveExpired_queues (s : State) : Queues [.winch] s (starveExpired s) := by
  unfold starveExpired
  split
  · exact enterWinch_queues _ _
  · exact .refl _ _

theorem winchTimerExpired_queues (s : State) : Queues [.winch] s (winchTimerExpired s) := by
  unfold winchTimerExpired
  split
  · exact publishWinch_queues s
  · exact .refl _ _

/-! ### The station controller (R6, R11) -/

theorem queueStation_queues (s : State) : Queues [.station] s (queueStation s) :=
  have hset (c : Controller) : Queues [.station] s (s.setCtl c) := .of_eq rfl
  (hset _).trans (.queueFrame _ _ (by decide : TxTopic.station ∈ [TxTopic.station]))

theorem stationTimerExpired_queues (s : State) : Queues [.station] s (stationTimerExpired s) := by
  unfold stationTimerExpired
  split
  · exact queueStation_queues s
  · exact .refl _ _

theorem enterSetup_queues (s : State) : Queues [.station] s (enterSetup s) :=
  .trans (.of_eq (by simp)) (queueStation_queues _)

theorem winchEnterRun_queues (s : State) : Queues [.winch] s (winchEnterRun s) := by
  unfold winchEnterRun
  split
  · exact .trans (.of_eq (by rfl)) (publishWinch_queues _)
  · exact .refl _ _

theorem blocksEnterRun_queues (s : State) : Queues [.station, .winch] s (blocksEnterRun s) := by
  have hctl : Queues [.station, .winch] s (controllerEnterRun s) := .of_eq (by rw [controllerEnterRun_eq])
  unfold blocksEnterRun
  refine Queues.trans ?_ (.of_changes (lampsEnterRun_changes _) (by decide))
  refine Queues.trans ?_ (.of_changes (packEnterRun_changes _) (by decide))
  refine Queues.trans ?_ ((winchEnterRun_queues _).mono (by decide))
  refine Queues.trans ?_ (.of_changes (bridgeEnterRun_changes _) (by decide))
  refine Queues.trans ?_ (.of_changes (steerEnterRun_changes _) (by decide))
  exact hctl.trans ((queueStation_queues _).mono (by decide))

theorem shareEnterRun_queues (s : State) : Queues [.winch] s (shareEnterRun s) := by
  unfold shareEnterRun
  exact .trans (shareCompute_queues _ _) (.of_eq rfl)

end Sys2Proof.Machine
end

section
/-! The rule of the bus port (O60): queuing and withdrawing keep it, and every event of the port restores it. -/

namespace Sys2Proof.Machine

/-! ### The transmit queue (R160) -/

theorem Slots.first_eq_none_iff (q : Slots) : q.first = none ↔ ∀ t, q.at t = none := by
  refine ⟨fun h t => ?_, fun h => ?_⟩
  · have hall := List.findSome?_eq_none_iff.1 h t (by cases t <;> decide)
    simpa using hall
  · exact List.findSome?_eq_none_iff.2 fun t _ => by simp [h t]

theorem Slots.first_put_none {q : Slots} (h : q.first = none) (t : TxTopic) : (q.put t none).first = none := by
  rw [Slots.first_eq_none_iff] at h ⊢
  intro u
  by_cases hu : u = t
  · subst hu; simp
  · rw [Slots.at_put_of_ne _ _ hu]; exact h u

/-! ### The rule, said of the port alone -/

/-- The unheard count and the isolation flag of R9. -/
def UnheardOk (p : BusPort) : Prop := p.unheard ≤ 16 ∧ p.isolation = (p.unheard == 16)

/-- The shift buffer is full exactly in SEND, an idle port has an empty queue, the isolation flag is the count at 16. -/
def PortOk (p : BusPort) : Prop :=
  (p.shift.isSome = true ↔ p.port = .send) ∧ (p.port = .idle → p.slots.first = none) ∧ UnheardOk p

/-- A port that neither sends nor is idle: whatever is queued waits in its slot. -/
def PortWaits (p : BusPort) : Prop := p.shift = none ∧ p.port ≠ .send ∧ p.port ≠ .idle ∧ UnheardOk p

theorem portSafe_iff (s : State) : portSafe s = true ↔ PortOk s.port := by
  have hshift : ((s.port.port == .send) = s.port.shift.isSome) ↔ (s.port.shift.isSome = true ↔ s.port.port = .send) := by
    rw [Bool.eq_iff_iff, beq_iff_eq]
    exact iff_comm
  have hqueue : (!queueFull s.port) = true ↔ s.port.slots.first = none := by simp [queueFull]
  simp only [portSafe, PortOk, UnheardOk, Bool.and_eq_true, Bool.or_eq_true, bne_iff_ne, decide_eq_true_eq, hqueue,
    ne_eq, ← imp_iff_not_or, and_assoc]
  rw [beq_iff_eq, beq_iff_eq, hshift]

theorem PortWaits.ok {p : BusPort} (h : PortWaits p) : PortOk p := by
  obtain ⟨hshift, hsend, hidle, hu⟩ := h
  exact ⟨by simp [hshift, hsend], fun hi => absurd hi hidle, hu⟩

/-! ### What keeps it -/

/-- A port that starts a Lead from outside SEND: the shift buffer full, or the queue empty (R160). -/
theorem portOk_startSend {s : State} (hshift : s.port.shift = none) (hsend : s.port.port ≠ .send)
    (hu : UnheardOk s.port) : PortOk (startSend s).port := by
  cases h : s.port.slots.first with
  | none => rw [startSend_none s h]; exact ⟨by simp [hshift, hsend], fun _ => h, hu⟩
  | some f => simp only [startSend, h]; exact ⟨by simp, by simp, hu⟩

/-- A property of the port that a queued frame and a withdrawn DEMAND keep. -/
structure PortKept (P : BusPort → Prop) : Prop where
  queue (topic : TxTopic) (d : List Byte) (s : State) : P s.port → P (queueFrame topic d s).port
  withdraw (s : State) : P s.port → P (withdrawDemand s).port

theorem portOk_kept : PortKept PortOk where
  queue topic d s := by
    rintro ⟨hshift, hidle, hu⟩
    by_cases hi : s.port.port = .idle
    · have hnone : s.port.shift = none := by
        rw [← Option.not_isSome_iff_eq_none, hshift, hi]; decide
      unfold queueFrame
      dsimp only
      rw [if_pos (by simp [hi])]
      exact portOk_startSend hnone (by simp [hi]) hu
    · rw [queueFrame_of_busy topic d s hi]
      exact ⟨hshift, fun h => absurd h hi, hu⟩
  withdraw s := by
    rintro ⟨hshift, hidle, hu⟩
    exact ⟨by simpa [withdrawDemand] using hshift, fun h => Slots.first_put_none (hidle h) _, hu⟩

theorem portWaits_kept : PortKept PortWaits where
  queue topic d s := by
    rintro ⟨hshift, hsend, hidle, hu⟩
    rw [queueFrame_of_busy topic d s hidle]
    exact ⟨hshift, hsend, hidle, hu⟩
  withdraw s := by
    rintro ⟨hshift, hsend, hidle, hu⟩
    exact ⟨by simp [withdrawDemand, hshift], hsend, hidle, hu⟩

namespace PortKept

variable {P : BusPort → Prop} (kept : PortKept P)
include kept

theorem queues {ts : List TxTopic} {s t : State} (h : Queues ts s t) (hs : P s.port) : P t.port :=
  h P (fun topic _ => kept.queue topic) hs

theorem noteConflict (p : Publisher) {s : State} (hs : P s.port) : P (noteConflict p s).port := by
  obtain h | h := noteConflict_port p s
  · exact h.symm ▸ hs
  · exact h.symm ▸ kept.withdraw s hs

theorem demandArrives (p : Publisher) (d : List Byte) (s : State) (hs : P s.port) :
    P (demandArrives p d s).port := kept.queues (demandArrives_queues p d s) (kept.noteConflict p hs)

theorem publishDemand {s : State} (hs : P s.port) : P (publishDemand s).port :=
  publishDemand_keeps (inv := fun s => P s.port) (fun _ _ h => h) (fun d s => kept.queue .demand d s)
    kept.demandArrives hs

theorem demandEnterRun {s : State} (hs : P s.port) : P (demandEnterRun s).port :=
  demandEnterRun_keeps (inv := fun s => P s.port) (fun _ _ h => h) (fun d s => kept.queue .demand d s)
    kept.demandArrives hs

theorem enterRun {s : State} (hs : P s.port) : P (enterRun s).port := by
  rw [enterRun_eq]
  exact kept.queues (shareEnterRun_queues _) (kept.demandEnterRun (kept.queues (blocksEnterRun_queues s) hs))

theorem demandTimerExpired {s : State} (hs : P s.port) : P (demandTimerExpired s).port := by
  unfold Machine.demandTimerExpired
  split
  · exact kept.publishDemand (s := s.setDem { s.dem with demandTimer := some 20 }) hs
  · exact hs

theorem answer (asker : BitVec 4) (kind : BitVec 5) (result : AnswerResult) (index : Byte) (payload : List Byte)
    {s : State} (hs : P s.port) : P (answer asker kind result index payload s).port := kept.queue _ _ _ hs

end PortKept

/-! ### HALT, the resets and the end of an own frame -/

theorem portWaits_enterHalt {s : State} (h : UnheardOk s.port) : PortWaits (enterHalt s).port := by
  obtain ⟨-, -, -, -, -, -, -, -, hport, -⟩ := enterHalt_blocks s
  rw [hport]
  exact ⟨rfl, by simp [haltPort], by simp [haltPort], h⟩

theorem portWaits_reset (kind : ResetKind) (pins : Pins) (s : State) : PortWaits (resetStation kind pins s).port := by
  have hslots (q : Slots) : PortWaits { slots := q } := ⟨rfl, by simp, by simp, Nat.zero_le _, rfl⟩
  cases h : strapFault pins
  · obtain ⟨d, hd⟩ := resetStation_of_valid kind s h
    rw [hd]
    exact hslots _
  · rw [resetStation_of_fault kind s h]
    exact hslots {}

/-- The unheard count stops at 16, where the isolation flag is set (R9). -/
theorem unheardOk_countHeard (heard : Bool) {p : BusPort} (h : UnheardOk p) : UnheardOk (countHeard heard p) := by
  obtain ⟨hle, hflag⟩ := h
  cases heard
  · refine ⟨Nat.min_le_left _ _, ?_⟩
    show (p.isolation || min 16 (p.unheard + 1) == 16) = (min 16 (p.unheard + 1) == 16)
    by_cases hfull : p.unheard = 16
    · simp [hflag, hfull]
    · simp [hflag, hfull]
  · exact ⟨Nat.zero_le _, rfl⟩

theorem portWaits_frameComplete (heard mark : Bool) {s : State} (h : UnheardOk s.port) :
    PortWaits (frameComplete heard mark s).port := by
  have hstart : PortWaits { countHeard heard s.port with port := .waitIdle, recessive := 0, shift := none } :=
    ⟨rfl, by simp, by simp, unheardOk_countHeard heard h⟩
  have hisolated := portWaits_kept.queues (evalIsolated_queues (s.setPort _)) hstart
  unfold frameComplete
  dsimp only
  split
  · exact portWaits_enterHalt hisolated.2.2.2
  · exact hisolated

theorem handBack_unheard (p : BusPort) :
    (handBack p).unheard = p.unheard ∧ (handBack p).isolation = p.isolation := by
  unfold handBack
  split
  · exact ⟨rfl, rfl⟩
  · split <;> exact ⟨rfl, rfl⟩

theorem handBack_shift (p : BusPort) : (handBack p).shift = none := by
  cases h : p.shift with
  | none => simp [handBack, h]
  | some b => exact (handBack_slots p b h).1

/-- A frame handed back leaves a port that waits (R157, R158, R161). -/
theorem portWaits_handBack {p q : BusPort} (h : UnheardOk p) (hshift : q.shift = (handBack p).shift)
    (hport : q.port = .waitIdle ∨ q.port = .receive) (hunheard : q.unheard = (handBack p).unheard)
    (hisolation : q.isolation = (handBack p).isolation) : PortWaits q := by
  obtain ⟨hu, hi⟩ := handBack_unheard p
  refine ⟨hshift.trans (handBack_shift p), ?_, ?_, ?_⟩
  · obtain hp | hp := hport <;> simp [hp]
  · obtain hp | hp := hport <;> simp [hp]
  · unfold UnheardOk
    rw [hunheard, hisolation, hu, hi]
    exact h

theorem portOk_sendEnded (how : SendEnd) {s : State} (hs : PortOk s.port) : PortOk (sendEnded how s).port := by
  have hu : UnheardOk { s.port with paceSpan := (ownSpan how).getD s.port.paceSpan } := hs.2.2
  unfold sendEnded
  dsimp only
  split
  · split
    · exact PortWaits.ok (portWaits_handBack hu rfl (.inl rfl) rfl rfl)
    · cases how with
      | complete span heard mark => exact PortWaits.ok (portWaits_frameComplete heard mark (s := s.setPort _) hu)
      | lostArbitration span => exact PortWaits.ok (portWaits_handBack hu rfl (.inr rfl) rfl rfl)
      | bitCollision span => exact PortWaits.ok (portWaits_handBack hu rfl (.inl rfl) rfl rfl)
      | stuck => exact PortWaits.ok (portWaits_handBack hu rfl (.inl rfl) rfl rfl)
  · exact hs

/-! ### The port's own events (R147, R152, R155, R156) -/

/-- Outside SEND the shift buffer is empty. -/
theorem PortOk.shift_eq_none {p : BusPort} (h : PortOk p) (hsend : p.port ≠ .send) : p.shift = none := by
  rw [← Option.not_isSome_iff_eq_none, h.1]
  exact hsend

theorem portOk_becameIdle {s : State} (hs : PortOk s.port) : PortOk (becameIdle s).port := by
  unfold becameIdle
  split
  · next hw =>
    have hnone : s.port.shift = none := hs.shift_eq_none (by simp [beq_iff_eq.1 hw])
    exact portOk_startSend hnone (by simp) hs.2.2
  · exact hs

theorem portOk_leadBegins (steps : Nat) {s : State} (hs : PortOk s.port) : PortOk (leadBegins steps s).port := by
  unfold leadBegins
  dsimp only
  split
  · next hw =>
    have hnone : s.port.shift = none := hs.shift_eq_none (by rintro hsend; simp [hsend] at hw)
    split
    · exact portOk_startSend hnone (by simp) hs.2.2
    · exact PortWaits.ok ⟨hnone, by simp, by simp, hs.2.2⟩
  · exact hs

theorem portOk_lineStuck {s : State} (hs : PortOk s.port) : PortOk (lineStuck s).port := by
  unfold lineStuck
  dsimp only
  split
  · exact hs
  · next hw =>
    have hnone : s.port.shift = none := hs.shift_eq_none (by simpa using hw)
    refine PortWaits.ok ⟨?_, by simp, by simp, ?_⟩
    · split
      · exact hnone
      · exact hnone
    · split
      · exact hs.2.2
      · exact hs.2.2

theorem portOk_shortRun {s : State} (hs : PortOk s.port) : PortOk (shortRun s).port := by
  unfold shortRun
  split
  · exact hs
  · next hw =>
    have hnone : s.port.shift = none := hs.shift_eq_none (by rintro hsend; simp [hsend] at hw)
    exact PortWaits.ok ⟨hnone, by simp, by simp, hs.2.2⟩

theorem portOk_tickPort (t : Nat) {p : BusPort} (h : PortOk p) : PortOk (tickPort t p) := by
  unfold tickPort
  split
  · exact h
  · exact h

/-! ### Events and frames -/

theorem portOk_commitEnded (stored : StoredTable) (pins : Pins) {s : State} (hs : PortOk s.port) :
    PortOk (commitEnded stored pins s).port := by
  unfold commitEnded
  split
  · exact hs
  · dsimp only
    split
    · exact (portWaits_reset _ _ _).ok
    · exact portOk_kept.answer _ _ _ _ _ (s := (s.setNvm stored).setCtl { s.ctl with commit := none }) hs

/-- Every event keeps the rule of the port. -/
theorem portOk_liveEffect (c : Instr) (s : State) (hs : PortOk s.port) : PortOk (liveEffect c s).port := by
  have hfree (h : .port ∉ liveChanges c) : PortOk (liveEffect c s).port := by
    rw [liveEffect_changes c s .port h]; exact hs
  cases c
  case startTimerExpiry =>
    show PortOk (startTimerExpired s).port
    unfold startTimerExpired
    split
    · exact portOk_kept.enterRun hs
    · exact hs
  case commitEnd stored pins => exact portOk_commitEnded stored pins hs
  case frameSendEnd how => exact portOk_sendEnded how hs
  case demandTimerExpiry => exact portOk_kept.demandTimerExpired hs
  case stationTimerExpiry => exact portOk_kept.queues (stationTimerExpired_queues s) hs
  case demandRecordStale => exact portOk_kept.queues (demandStale_queues s) hs
  case demandRecordLost => exact portOk_kept.queues (demandLostNow_queues s) hs
  case allowanceRecordLost => exact portOk_kept.queues (allowanceLost_queues s) hs
  case scanCompletion scan => exact portOk_kept.queues (scanCompleted_queues scan s) hs
  case checkTimerExpiry => exact portOk_kept.queues (checkExpired_queues s) hs
  case packTrip i => exact portOk_kept.queues (packTripped_queues i s) hs
  case shareTimerExpiry => exact portOk_kept.queues (shareExpired_queues s) hs
  case oneShotTrip i => exact portOk_kept.queues (oneShotTripped_queues i s) hs
  case stallTimerExpiry => exact portOk_kept.queues (stallExpired_queues s) hs
  case hallEdge stamp => exact portOk_kept.queues (hallEdged_queues stamp s) hs
  case homeActivation => exact portOk_kept.queues (homeActivated_queues s) hs
  case starveTimerExpiry => exact portOk_kept.queues (starveExpired_queues s) hs
  case winchTimerExpiry => exact portOk_kept.queues (winchTimerExpired_queues s) hs
  case busIdle => exact portOk_becameIdle hs
  case joinWindow steps => exact portOk_leadBegins steps hs
  case lineStuck => exact portOk_lineStuck hs
  case shortDominantRun => exact portOk_shortRun hs
  all_goals exact hfree (of_decide_eq_true rfl)

/-- A delivery leaves a port that waits waiting. -/
theorem portWaits_delivery (v : Delivery) (source : BitVec 4) (data : List Byte) {s : State} (hs : PortWaits s.port) :
    PortWaits (v.run source data s).port := by
  have hfree (h : .port ∉ v.changes) : PortWaits (v.run source data s).port := by
    rw [v.run_changes source data s .port h]; exact hs
  have hanswer (kind : BitVec 5) (result : AnswerResult) (index : Byte) (payload : List Byte) {u : State}
      (hu : PortWaits u.port) : PortWaits (answer source kind result index payload u).port :=
    portWaits_kept.answer _ _ _ _ _ hu
  cases v
  case demand =>
    show PortWaits (deliverDemand source data s).port
    unfold deliverDemand
    split
    · exact portWaits_kept.demandArrives _ _ _ hs
    · exact hs
  case allowance =>
    show PortWaits (deliverAllowance source data s).port
    unfold deliverAllowance
    split
    · exact portWaits_kept.queues (acceptAllowance_queues _ _) hs
    · exact hs
  case trip =>
    show PortWaits (deliverTrip source data s).port
    unfold deliverTrip
    split
    · exact portWaits_kept.queues (takeTrip_queues _) hs
    · exact hs
  case hold =>
    refine serve_keeps (inv := fun u => PortWaits u.port) source data hs ?_
    unfold takeHold
    split
    · exact hanswer _ _ _ _ (portWaits_kept.queues (enterSetup_queues s) hs)
    · exact hanswer _ _ _ _ hs
  case setting id value =>
    refine serve_keeps (inv := fun u => PortWaits u.port) source data hs (hanswer _ _ _ _ ?_)
    split
    · exact hs
    · exact hs
  case release =>
    refine serve_keeps (inv := fun u => PortWaits u.port) source data hs ?_
    unfold takeRelease
    split_ifs
    · exact hanswer _ _ _ _ hs
    · exact hanswer _ _ _ _ hs
    · exact hs
  case restart pins =>
    refine serve_keeps (inv := fun u => PortWaits u.port) source data hs ?_
    unfold takeRestart
    split
    · exact hanswer _ _ _ _ hs
    · exact portWaits_reset _ _ _
  case fetch kind index =>
    refine serve_keeps (inv := fun u => PortWaits u.port) source data hs ?_
    unfold takeFetch
    split
    · exact hanswer _ _ _ _ hs
    · exact hanswer _ _ _ _ hs
  case station | winch | echoOnly => exact hfree (by decide)

/-- Every frame keeps the rule of the port. -/
theorem portOk_frameArrives (first : Byte) (rx : Rx) (data : List Byte) (v : Delivery) (s : State)
    (hs : PortOk s.port) : PortOk (frameArrives first rx data v.run s).port := by
  unfold frameArrives
  dsimp only
  split
  · next hl =>
    have hsend : s.port.port ≠ .send := by
      simp only [listening, Bool.and_eq_true, bne_iff_ne] at hl
      exact hl.2
    have hnone : s.port.shift = none := hs.shift_eq_none hsend
    have ha : PortWaits (beginReceive rx.span s).port := ⟨hnone, by simp [beginReceive], by simp [beginReceive], hs.2.2⟩
    have hecho (u : State) (hu : PortWaits u.port) : PortOk (endEcho rx.span u).port := by
      unfold endEcho
      split
      · exact hu.ok
      · exact PortWaits.ok ⟨hu.1, by simp, by simp, hu.2.2.2⟩
    split
    · exact PortWaits.ok ⟨hnone, by simp [receiveError], by simp [receiveError], hs.2.2⟩
    · split
      · have hu : UnheardOk ((beginReceive rx.span s).setPort
            { (beginReceive rx.span s).port with echo := .clashMark }).port := hs.2.2
        exact (portWaits_enterHalt hu).ok
      · refine hecho _ ?_
        split
        · exact portWaits_delivery v _ _ ha
        · exact ha
  · exact hs

end Sys2Proof.Machine

open Sys2Proof Sys2Proof.Machine

/-- Settles O60: queuing and withdrawing keep the rule, a frame taken in finds the shift buffer empty and leaves a port
that waits, and an own frame leaves the shift buffer with SEND. -/
theorem portRuleKept : Obligations.PortRuleKept := by
  intro s t hs h
  rw [portSafe_iff] at hs ⊢
  exact step_keeps (inv := fun s => PortOk s.port)
    (exec_keeps (fun kind pins s _ => (portWaits_reset kind pins s).ok) (fun c s _ => portOk_liveEffect c s)
      portOk_frameArrives)
    (fun s hs => portOk_tickPort _ hs) (fun _ hs => hs) (fun _ _ hs => hs) hs h
end

section
/-! How a rule about the motors is kept: by the operations that the share unit, the records and the pack monitor reach
them through, and a rule of the bridge unit by every step. -/

namespace Sys2Proof.Machine

/-! ### The way to the motors (R16, R18, R52, R124) -/

/-- A rule that reads the mode, the conditions, the pins, the bridge unit and the winch controller, kept where the winch
controller reacts and takes a grant. -/
structure MotorKept (P : State → Prop) : Prop where
  stable {ps : List Piece} {s t : State} :
    Changes ps s t → (∀ p ∈ ps, p ∉ ([.mode, .conditions, .pins, .bridge, .winch] : List Piece)) → P s → P t
  react (accepted : Bool) (s : State) : P s → P (winchReact accepted s)
  handOver (s : State) : P s → P (winchHandOver s)

namespace MotorKept

variable {P : State → Prop} (kept : MotorKept P)
include kept

theorem setShare (x : Share) {s : State} (hs : P s) : P (s.setShare x) :=
  kept.stable (ps := [.share]) (.of (by simp [allPieces, Piece.same])) (by decide) hs

theorem setPack (x : Pack) {s : State} (hs : P s) : P (s.setPack x) :=
  kept.stable (ps := [.pack]) (.of (by simp [allPieces, Piece.same])) (by decide) hs

theorem setLatest (x : Latest) {s : State} (hs : P s) : P (s.setLatest x) :=
  kept.stable (ps := [.records, .winchRecord]) (.of (by simp [allPieces, Piece.same])) (by decide) hs

theorem evalCues {s : State} (hs : P s) : P (evalCues s) := kept.stable (evalCues_changes s) (by decide) hs

theorem record (c : IncidentCode) (d : Half) {s : State} (hs : P s) : P (record c d s) :=
  kept.stable (record_changes c d s) (by decide) hs

theorem setFaults (f : FaultSet) {s : State} (hs : P s) : P (setFaults f s) :=
  kept.stable (setFaults_changes f s) (by decide) hs

theorem shareCompute (c : ShareCause) {s : State} (hs : P s) : P (shareCompute c s) := by
  have hlamps (u : State) : Changes [.lamp] u (lampHandOver u.share.grants u) := .of (by simp [allPieces, Piece.same])
  exact kept.handOver _ (kept.stable (hlamps _) (by decide) (kept.setShare _ hs))

theorem takeTrip {s : State} (hs : P s) : P (takeTrip s) := by
  unfold Machine.takeTrip
  dsimp only
  split
  · exact kept.shareCompute _ (kept.setShare _ hs)
  · exact kept.setShare _ hs

theorem queueTrip (p : PackState) (c : TripCause) {s : State} (hs : P s) : P (queueTrip p c s) :=
  kept.takeTrip (kept.stable (queueFrame_changes _ _ s) (by decide) hs)

theorem acceptAllowance (d : List Byte) {s : State} (hs : P s) : P (acceptAllowance d s) := by
  unfold Machine.acceptAllowance
  dsimp only
  refine kept.react _ _ (kept.evalCues ?_)
  split
  · exact kept.shareCompute _ (kept.setShare _ (kept.setLatest _ hs))
  · exact kept.setShare _ (kept.setLatest _ hs)

theorem allowanceLost {s : State} (hs : P s) : P (allowanceLost s) := by
  unfold Machine.allowanceLost
  dsimp only
  split
  · exact kept.react _ _ (kept.evalCues (kept.setLatest _ hs))
  · exact hs

theorem packRules {s : State} (hs : P s) : P (packRules s) := by
  have h := packRules_outcome s
  generalize Machine.packRules s = u at h ⊢
  cases h with
  | unchanged => exact hs
  | cutoff => exact kept.queueTrip _ _ (kept.setPack _ (kept.record _ _ hs))
  | moved into back log =>
    exact kept.stable (ps := [.pack, .log]) (.of (by simp [allPieces, Piece.same])) (by decide) hs

theorem publishAllowance {s : State} (hs : P s) : P (publishAllowance s) :=
  kept.acceptAllowance _ (kept.stable (queueFrame_changes _ _ _) (by decide) (kept.setPack _ hs))

theorem scanCompleted (scan : Scan) {s : State} (hs : P s) : P (scanCompleted scan s) := by
  have hnote : P (noteSensor (s.setPack (scannedPack scan s))) :=
    kept.stable (noteSensor_changes _) (by decide) (kept.setPack _ hs)
  unfold Machine.scanCompleted
  dsimp only
  split
  · split
    · exact kept.publishAllowance (kept.packRules hnote)
    · exact hnote
  · exact hs

theorem checkExpired {s : State} (hs : P s) : P (checkExpired s) := by
  unfold Machine.checkExpired
  dsimp only
  split_ifs
  · exact kept.setPack _ hs
  · exact kept.queueTrip _ _ (kept.record _ _ (kept.setFaults _ (kept.setPack _ hs)))
  · exact hs

theorem packTripped (i : Current) {s : State} (hs : P s) : P (packTripped i s) := by
  unfold Machine.packTripped
  dsimp only
  split_ifs
  · exact kept.setPack _ (kept.record _ _ hs)
  · exact kept.queueTrip _ _ (kept.record _ _ (kept.setPack _ (kept.record _ _ hs)))
  · exact kept.queueTrip _ _ (kept.setPack _ (kept.record _ _ hs))
  · exact hs

theorem shareExpired {s : State} (hs : P s) : P (shareExpired s) := by
  unfold Machine.shareExpired
  split
  · exact kept.shareCompute _ (kept.setShare _ hs)
  · exact hs

theorem shareEnterRun {s : State} (hs : P s) : P (shareEnterRun s) :=
  kept.setShare _ (kept.shareCompute _ hs)

end MotorKept

/-! ### The way of a DEMAND to the blocks (R9, R16, R17) -/

/-- A rule that reads the mode, the conditions, the pins and the motors, kept by the reaction to a DEMAND. -/
structure DemandKept (P : State → Prop) : Prop where
  stable {ps : List Piece} {s t : State} :
    Changes ps s t → (∀ p ∈ ps, p ∉ ([.mode, .conditions, .pins, .steer, .bridge, .winch] : List Piece)) → P s → P t
  react (accepted : Bool) (s : State) : P s → P (demandReact accepted s)

namespace DemandKept

variable {P : State → Prop} (kept : DemandKept P)
include kept

theorem setLatest (x : Latest) {s : State} (hs : P s) : P (s.setLatest x) :=
  kept.stable (ps := [.records, .winchRecord]) (.of (by simp [allPieces, Piece.same])) (by decide) hs

theorem demandArrives (p : Publisher) (d : List Byte) (s : State) (hs : P s) : P (demandArrives p d s) := by
  have hnote : P (noteConflict p s) := kept.stable (noteConflict_changes p s) (by decide) hs
  have haccept (u : State) (hu : P u) : P (acceptDemand p d u) := by
    unfold acceptDemand
    dsimp only
    refine kept.react true _ ?_
    split
    · exact kept.setLatest _ hu
    · exact kept.stable (noteDemandLost_changes _ _ _) (by decide) (kept.setLatest _ hu)
  obtain ⟨-, h⟩ | ⟨-, h⟩ := demandArrives_cases p d s
  · rw [h]; exact haccept _ (kept.setLatest _ hnote)
  · rw [h]; exact kept.setLatest _ hnote

theorem evalIsolated {s : State} (hs : P s) : P (evalIsolated s) := by
  have hset (b : Bool) (l : IncidentLog) : P ((s.setCtl { s.ctl with isolated := b }).setLog l) :=
    kept.stable (ps := [.isolated, .log]) (.of (by simp [allPieces, Piece.same])) (by decide) hs
  obtain ⟨-, h⟩ | ⟨-, -, h⟩ := evalIsolated_cases s
  · rw [h]; exact hs
  · rw [h]; exact kept.react false _ (hset _ _)

theorem demandStale {s : State} (hs : P s) : P (demandStale s) := by
  unfold Machine.demandStale
  dsimp only
  split
  · exact kept.react false _ (kept.setLatest _ hs)
  · exact hs

theorem demandLostNow {s : State} (hs : P s) : P (demandLostNow s) := by
  unfold Machine.demandLostNow
  dsimp only
  split
  · exact kept.react false _ (kept.stable (noteDemandLost_changes _ _ _) (by decide) (kept.setLatest _ hs))
  · exact hs

theorem demandEnterRun {s : State} (hs : P s) : P (demandEnterRun s) :=
  demandEnterRun_keeps
    (fun u x hu => kept.stable (ps := [.dem]) (s := u) (.of (by simp [allPieces, Piece.same])) (by decide) hu)
    (fun d u hu => kept.stable (queueFrame_changes .demand d u) (by decide) hu) kept.demandArrives hs

end DemandKept

/-! ### A rule of the bridge unit -/

theorem advanceAges_changes (s : State) : Changes [.peers, .records, .winchRecord, .cap] s (advanceAges s) :=
  .of (by simp [allPieces, Piece.same, advanceAges])

/-- The fields that a rule of the bridge unit reads stand as they were. -/
def Bridge.sameDrive (b x : Bridge) : Prop :=
  x.driveState = b.driveState ∧ x.brakeLevel = b.brakeLevel ∧ x.tripped = b.tripped ∧ x.latched = b.latched ∧
    x.d = b.d ∧ x.dwellTimer = b.dwellTimer ∧ x.pendingSign = b.pendingSign

/-- A rule that reads the mode, the conditions and the bridge unit's drive: a selection brings it from what `weak` leaves
of it, and the bridge unit's own events keep it. -/
structure BridgeRule (weak P : State → Prop) : Prop where
  stable {ps : List Piece} {s t : State} :
    Changes ps s t → (∀ p ∈ ps, p ∉ ([.mode, .conditions, .bridge] : List Piece)) → P s → P t
  stableWeak {ps : List Piece} {s t : State} :
    Changes ps s t → (∀ p ∈ ps, p ∉ ([.mode, .conditions, .bridge] : List Piece)) → weak s → weak t
  minor (x : Bridge) (s : State) : s.bridge.sameDrive x → P s → P (s.setBridge x)
  weaken (s : State) : P s → weak s
  select (s : State) : weak s → P (selectDrive s)
  demand (accepted : Bool) (s : State) : P s → P (bridgeReact accepted (steerReact accepted (evalConditions s)))
  dwell (s : State) : P s → P (dwellExpired s)
  rearm (s : State) : P s → weak (s.setBridge { s.bridge with tripped := false, rearmTimer := none })
  trip (s : State) : P s → weak (s.setBridge (trippedBridge s.bridge))
  enter (s : State) : P (bridgeEnterRun s)
  setup (s : State) : P s → P (s.setCtl { s.ctl with station := .setup, startTimer := none })
  halt (s : State) : P s → P (enterHalt s)
  reset (kind : ResetKind) (pins : Pins) (s : State) : P (resetStation kind pins s)
  timers (s : State) : P s → P (advanceTimers s)

namespace BridgeRule

variable {weak P : State → Prop} (rule : BridgeRule weak P)
include rule

theorem setWinch (x : Winch) {s : State} (hs : P s) : P (s.setWinch x) :=
  rule.stable (ps := [.winch]) (.of (by simp [allPieces, Piece.same])) (by decide) hs

theorem selected {s : State} (hs : P s) : P (selectDrive s) := rule.select s (rule.weaken s hs)

theorem brakeGates {s : State} (hs : P s) : P (brakeGates s) := rule.minor _ s ⟨rfl, rfl, rfl, rfl, rfl, rfl, rfl⟩ hs

theorem brakeAtEnd {s : State} (hs : P s) : P (brakeAtEnd s) := by
  unfold Machine.brakeAtEnd
  split
  · exact rule.brakeGates hs
  · exact hs

theorem enterWinch (new : WinchState) {s : State} (hs : P s) : P (enterWinch new s) := by
  unfold Machine.enterWinch
  dsimp only
  split
  · exact hs
  · have hselected := rule.selected (rule.setWinch (starveRule (winchMinimum s)
      (tierGrant (s.setWinch (changedState new s.winch))) (changedState new s.winch)) hs)
    refine rule.stable (publishWinch_changes _) (by decide) (rule.stable (cueEvent_changes s _) (by decide) ?_)
    split
    · exact rule.brakeGates hselected
    · exact hselected

theorem endHoldOff {s : State} (hs : P s) : P (endHoldOff s) :=
  rule.stable (ps := [.winch]) (.of (by simp [allPieces, Piece.same])) (by decide) hs

theorem motor : MotorKept P where
  stable h hfree hs := rule.stable h (fun p hp hmem => hfree p hp (by revert hmem; cases p <;> decide)) hs
  react accepted s hs := winchReact_keeps accepted hs (fun _ _ => rule.setWinch _ hs) (fun hu => rule.enterWinch _ hu)
    fun _ hu => rule.enterWinch _ (rule.endHoldOff hu)
  handOver s hs := by
    obtain h | ⟨-, -, -, ⟨-, -, h⟩ | ⟨-, -, h⟩⟩ | ⟨-, -, -, h⟩ := winchHandOver_cases s
    · rw [h]; exact hs
    · rw [h]; exact rule.enterWinch _ hs
    · rw [h]; exact rule.enterWinch _ hs
    · rw [h]; exact rule.setWinch _ hs

theorem demands : DemandKept P where
  stable h hfree hs := rule.stable h (fun p hp hmem => hfree p hp (by revert hmem; cases p <;> decide)) hs
  react accepted s hs := by
    have hquiet (u : State) : Changes [.pack, .lamp] u (evalCues (packQuiet u)) :=
      .of (by simp [allPieces, Piece.same])
    exact rule.stable (hquiet _) (by decide) (rule.motor.react accepted _ (rule.demand accepted s hs))

theorem enterRun (s : State) : P (enterRun s) := by
  have hblocks : P (blocksEnterRun s) := by
    refine rule.stable (lampsEnterRun_changes _) (by decide) ?_
    refine rule.stable (packEnterRun_changes _) (by decide) ?_
    exact rule.stable (winchEnterRun_changes _) (by decide) (rule.enter _)
  rw [enterRun_eq]
  exact rule.motor.shareEnterRun (rule.demands.demandEnterRun hblocks)

/-! ### The events of the bridge unit and the winch controller -/

theorem evalAssist {s : State} (hs : P s) : P (evalAssist s) := by
  unfold Machine.evalAssist
  split
  · refine rule.minor _ s ?_ hs
    dsimp only
    split
    · split
      · exact ⟨rfl, rfl, rfl, rfl, rfl, rfl, rfl⟩
      · exact ⟨rfl, rfl, rfl, rfl, rfl, rfl, rfl⟩
    · exact ⟨rfl, rfl, rfl, rfl, rfl, rfl, rfl⟩
  · exact hs

theorem winchRecordLost {s : State} (hs : P s) : P (winchRecordLost s) := by
  unfold Machine.winchRecordLost
  dsimp only
  split
  · exact rule.evalAssist (rule.motor.setLatest _ hs)
  · exact hs

theorem periodStarted {s : State} (hs : P s) : P (periodStarted s) := by
  unfold Machine.periodStarted
  split
  · have hlevel : P (s.setBridge { s.bridge with tripLevel := min (motorLimit s) (tierGrant s) }) :=
      rule.minor _ s ⟨rfl, rfl, rfl, rfl, rfl, rfl, rfl⟩ hs
    exact rule.brakeGates (rule.selected hlevel)
  · exact hs

theorem restartDriven {s : State} (hs : P s) : P (s.setBridge (restartDriven s.bridge)) := by
  refine rule.minor _ s ?_ hs
  unfold Machine.restartDriven
  split
  · exact ⟨rfl, rfl, rfl, rfl, rfl, rfl, rfl⟩
  · exact ⟨rfl, rfl, rfl, rfl, rfl, rfl, rfl⟩

theorem rampStepOf (step : Int) {s : State} (hs : P s) : P (s.setBridge (rampStepOf step s.bridge)) := by
  unfold Machine.rampStepOf
  split
  · have hmoved : P (s.setBridge (writeShadow { s.bridge with
        outDuty := moveToward step s.bridge.outDuty (rampTarget s.bridge) })) :=
      rule.minor _ s ⟨rfl, rfl, rfl, rfl, rfl, rfl, rfl⟩ hs
    exact rule.restartDriven hmoved
  · exact hs

theorem dutyStepped (samples : List Int) {s : State} (hs : P s) : P (dutyStepped samples s) := by
  have hcurrent : P (s.setBridge { s.bridge with current := meanCurrent samples }) :=
    rule.minor _ s ⟨rfl, rfl, rfl, rfl, rfl, rfl, rfl⟩ hs
  unfold Machine.dutyStepped
  dsimp only
  split_ifs
  · exact rule.restartDriven (rule.selected (rule.setWinch _ hcurrent))
  · exact rule.rampStepOf _ (rule.selected hcurrent)
  · exact hs

theorem cycleLimited (i : Current) {s : State} (hs : P s) : P (cycleLimited i s) := by
  unfold Machine.cycleLimited
  dsimp only
  split
  · exact rule.minor _ s ⟨rfl, rfl, rfl, rfl, rfl, rfl, rfl⟩ hs
  · exact hs

theorem winchTripped {s : State} (hs : P s) : P (winchTripped s) := by
  have hset (w : Winch) : P (s.setWinch w) := rule.setWinch w hs
  unfold Machine.winchTripped
  dsimp only
  split
  · split
    case h_1 | h_2 | h_3 => exact rule.enterWinch _ (hset _)
    all_goals exact hset _
  · exact hs

theorem oneShotTripped (i : Current) {s : State} (hs : P s) : P (oneShotTripped i s) := by
  unfold Machine.oneShotTripped
  dsimp only
  split
  · have htripped := rule.trip s hs
    have hnoted (f : FaultSet) (c : IncidentCode) :
        weak (record c 0 (setFaults f (s.setBridge (trippedBridge s.bridge)))) :=
      rule.stableWeak (record_changes _ _ _) (by decide) (rule.stableWeak (setFaults_changes _ _) (by decide) htripped)
    refine rule.winchTripped (rule.select _ ?_)
    split
    · exact rule.stableWeak (record_changes _ _ _) (by decide) (hnoted _ _)
    · exact hnoted _ _
  · exact hs

theorem rearmExpired {s : State} (hs : P s) : P (rearmExpired s) := by
  unfold Machine.rearmExpired
  dsimp only
  split
  · have hselected := rule.select _ (rule.rearm s hs)
    split
    · exact rule.endHoldOff hselected
    · exact hselected
  · exact hs

theorem hallEdged (stamp : Half) {s : State} (hs : P s) : P (hallEdged stamp s) := by
  cases hw : roleIs s .winch
  · simpa [Machine.hallEdged, hw] using hs
  · have hcount : P (hallCounted stamp s) :=
      rule.stable (ps := [.cap, .winch]) (.of (by simp [allPieces, Piece.same, hallCounted, stampTimer])) (by decide) hs
    rw [hallEdged_eq stamp hw]
    refine rule.brakeAtEnd ?_
    split
    · exact rule.enterWinch _ hcount
    · exact hcount

theorem homeActivated {s : State} (hs : P s) : P (homeActivated s) := by
  cases hw : roleIs s .winch
  · simpa [Machine.homeActivated, hw] using hs
  · have hcount : P (homeCounted s) :=
      rule.stable (ps := [.pins, .winch]) (.of (by simp [allPieces, Piece.same, homeCounted, setHomeLevel])) (by decide)
        hs
    rw [homeActivated_eq hw]
    refine rule.brakeAtEnd ?_
    split
    · exact rule.enterWinch _ hcount
    · split
      · exact rule.enterWinch _ hcount
      · exact rule.selected hcount
    all_goals exact hcount

theorem stallExpired {s : State} (hs : P s) : P (stallExpired s) := by
  unfold Machine.stallExpired
  split
  · exact rule.enterWinch _ (rule.motor.record _ _ (rule.motor.setFaults _ (rule.setWinch _ hs)))
  · exact hs

theorem starveExpired {s : State} (hs : P s) : P (starveExpired s) := by
  unfold Machine.starveExpired
  split
  · exact rule.enterWinch _ hs
  · exact hs

theorem live (c : Instr) (s : State) (hc : compound c = false) (hs : P s) : P (liveEffect c s) := by
  cases c
  case startTimerExpiry | commitEnd | frameSendEnd | demandTimerExpiry => cases hc
  case demandRecordStale => exact rule.demands.demandStale hs
  case demandRecordLost => exact rule.demands.demandLostNow hs
  case allowanceRecordLost => exact rule.motor.allowanceLost hs
  case winchRecordLost => exact rule.winchRecordLost hs
  case scanCompletion scan => exact rule.motor.scanCompleted scan hs
  case checkTimerExpiry => exact rule.motor.checkExpired hs
  case packTrip i => exact rule.motor.packTripped i hs
  case shareTimerExpiry => exact rule.motor.shareExpired hs
  case periodStart => exact rule.periodStarted hs
  case dutyStep samples => exact rule.dutyStepped samples hs
  case cycleLimit i => exact rule.cycleLimited i hs
  case oneShotTrip i => exact rule.oneShotTripped i hs
  case dwellTimerExpiry => exact rule.dwell s hs
  case rearmTimerExpiry => exact rule.rearmExpired hs
  case windowTimerExpiry =>
    exact rule.minor { s.bridge with windowTimer := none } s ⟨rfl, rfl, rfl, rfl, rfl, rfl, rfl⟩ hs
  case drivenTimerExpiry =>
    exact rule.stable (cueEvent_changes s (s.setBridge { s.bridge with drivenTimer := none })) (by decide)
      (rule.minor { s.bridge with drivenTimer := none } s ⟨rfl, rfl, rfl, rfl, rfl, rfl, rfl⟩ hs)
  case hallEdge stamp => exact rule.hallEdged stamp hs
  case homeActivation => exact rule.homeActivated hs
  case stallTimerExpiry => exact rule.stallExpired hs
  case starveTimerExpiry => exact rule.starveExpired hs
  all_goals exact rule.stable (liveEffect_changes _ s) (of_decide_eq_true rfl) hs

theorem deliver (v : Delivery) (source : BitVec 4) (data : List Byte) (s : State) (hv : v.single = true) (hs : P s) :
    P (v.run source data s) := by
  cases v
  case demand | echoOnly | hold | release | restart | fetch => cases hv
  case allowance =>
    show P (deliverAllowance source data s)
    unfold deliverAllowance
    split
    · exact rule.motor.acceptAllowance _ hs
    · exact hs
  case winch =>
    show P (deliverWinch source data s)
    unfold deliverWinch
    split
    · exact rule.evalAssist (rule.motor.setLatest _ hs)
    · exact hs
  case trip =>
    show P (deliverTrip source data s)
    unfold deliverTrip
    split
    · exact rule.motor.takeTrip hs
    · exact hs
  all_goals exact rule.stable (Delivery.run_changes _ source data s) (of_decide_eq_true rfl) hs

/-- A rule of the bridge unit is kept by every step. -/
theorem toStepRule : StepRule [.mode, .conditions, .bridge] P where
  stable h hfree hs := rule.stable h hfree hs
  ages s hs := rule.stable (advanceAges_changes s) (by decide) hs
  timers s hs := rule.timers s hs
  reset kind pins s _ := rule.reset kind pins s
  halt s hs := rule.halt s hs
  run s _ _ := rule.enterRun s
  setup s _ hs := rule.stable (enterSetup_changes s) (by decide) (rule.setup s hs)
  arrives p d s hs := rule.demands.demandArrives p d s hs
  isolated _ hs := rule.demands.evalIsolated hs
  live c s hc hs := rule.live c s hc hs
  deliver v source data s hv hs := rule.deliver v source data s hv hs

end BridgeRule

end Sys2Proof.Machine
end

section
/-! FAILSAFE in RUN (O56): the bridge brakes and the commanded duty is 0, the wheels are centred, the winch is locked. -/

namespace Sys2Proof.Machine

/-! ### The bridge unit (R98, R100, R112) -/

/-- The commanded duty of an axle is 0 under FAILSAFE in RUN (R98). -/
def DutyHeld (s : State) : Prop :=
  inRun s = true → s.ctl.failsafe = true → isAxle s = true → s.bridge.d = 0

/-- Under FAILSAFE in RUN a bridge in use brakes, and the commanded duty of an axle is 0. -/
def Braked (s : State) : Prop :=
  (inRun s = true → s.ctl.failsafe = true → bridgeInUse s = true → failsafeBraked s = true) ∧ DutyHeld s

/-- A choice that FAILSAFE allows. -/
def Choice.brakes (c : Choice) (b : Bridge) : Prop :=
  (c.state = .brake ∧ c.level = 100) ∨ (c.state = .tripped ∧ b.tripped = true) ∨ (c.state = .latched ∧ b.latched = true)

theorem chooseAxle_brakes (byTrip : Bool) {s : State} (hr : inRun s = true) (hf : s.ctl.failsafe = true) :
    (chooseAxle s byTrip).brakes s.bridge := by
  unfold chooseAxle Choice.brakes
  rw [hr, hf]
  cases hl : s.bridge.latched <;> cases ht : s.bridge.tripped <;> simp [hl, ht]

theorem chooseWinch_brakes {s : State} (hr : inRun s = true) (hf : s.ctl.failsafe = true) :
    (chooseWinch s).brakes s.bridge := by
  unfold chooseWinch Choice.brakes
  rw [hr, hf]
  cases hl : s.bridge.latched <;> cases ht : s.bridge.tripped <;> simp [hl, ht]

theorem failsafeBraked_of_choice {c : Choice} {s : State} (ms : Nat) (running : Bool) (duty : Option Int) {b : Bridge}
    (hb : s.bridge = rearmRule running (applyChoice ms c duty b)) (h : c.brakes b) : failsafeBraked s = true := by
  unfold failsafeBraked
  rw [hb]
  obtain ⟨hstate, hlevel⟩ | ⟨hstate, htrip⟩ | ⟨hstate, hlatch⟩ := h
  · simp [applyChoice, writeShadow, rearmRule, hstate, hlevel]
  · simp [applyChoice, writeShadow, rearmRule, hstate, htrip]
  · simp [applyChoice, writeShadow, rearmRule, hstate, hlatch]

/-- A selection as the bridge unit of an axle shows it. -/
theorem selectDrive_of_axle {s : State} (ha : isAxle s = true) : (selectDrive s).bridge =
    rearmRule (inRun s) (applyChoice (reverseDwell s) (chooseAxle s true) none s.bridge) := by
  simp [selectDrive, ha]

/-- A selection as the bridge unit of the WINCH station shows it. -/
theorem selectDrive_of_winch {s : State} (ha : isAxle s = false) (hw : roleIs s .winch = true) :
    (selectDrive s).bridge = rearmRule (inRun s)
      (applyChoice 0 (chooseWinch s) (some (winchDrive s).2) { s.bridge with d := (winchDrive s).2 }) := by
  simp [selectDrive, ha, hw]

theorem braked_selectDrive {s : State} (hs : DutyHeld s) : Braked (selectDrive s) := by
  obtain ⟨hrole, -, hstation, -⟩ := selectDrive_changes s .mode (by decide)
  obtain ⟨hfailsafe, -⟩ := selectDrive_changes s .conditions (by decide)
  have hrun : inRun (selectDrive s) = inRun s := inRun_congr hstation
  have haxle : isAxle (selectDrive s) = isAxle s := by simp [isAxle, roleIs_congr hrole]
  have huse : bridgeInUse (selectDrive s) = bridgeInUse s := by simp [bridgeInUse, isAxle, roleIs_congr hrole]
  unfold Braked DutyHeld
  rw [hrun, haxle, huse, hfailsafe]
  cases ha : isAxle s
  · refine ⟨fun hr hf hu => ?_, fun _ _ h => absurd h (by decide)⟩
    have hw : roleIs s .winch = true := by simpa [bridgeInUse, ha] using hu
    exact failsafeBraked_of_choice _ _ _ (selectDrive_of_winch ha hw) (chooseWinch_brakes hr hf)
  · have hbridge := selectDrive_of_axle ha
    refine ⟨fun hr hf _ => failsafeBraked_of_choice _ _ _ hbridge (chooseAxle_brakes true hr hf), fun hr hf _ => ?_⟩
    rw [hbridge]
    exact hs hr hf ha

/-- The rule reads the role, the station state, FAILSAFE and the bridge unit's drive. -/
theorem braked_of_eq {s t : State} (hrole : t.ctl.role = s.ctl.role) (hstation : t.ctl.station = s.ctl.station)
    (hfailsafe : t.ctl.failsafe = s.ctl.failsafe) (hdrive : t.bridge.driveState = s.bridge.driveState)
    (hlevel : t.bridge.brakeLevel = s.bridge.brakeLevel) (htripped : t.bridge.tripped = s.bridge.tripped)
    (hlatched : t.bridge.latched = s.bridge.latched) (hd : t.bridge.d = s.bridge.d) (hs : Braked s) : Braked t := by
  unfold Braked DutyHeld bridgeInUse isAxle failsafeBraked at hs ⊢
  rw [inRun_congr hstation, hfailsafe, roleIs_congr hrole, roleIs_congr hrole, roleIs_congr hrole, hdrive, hlevel,
    htripped, hlatched, hd]
  exact hs

theorem dutyHeld_of_eq {s t : State} (hrole : t.ctl.role = s.ctl.role) (hstation : t.ctl.station = s.ctl.station)
    (hfailsafe : t.ctl.failsafe = s.ctl.failsafe) (hd : t.bridge.d = s.bridge.d) (hs : DutyHeld s) : DutyHeld t := by
  unfold DutyHeld isAxle at hs ⊢
  rw [inRun_congr hstation, hfailsafe, roleIs_congr hrole, roleIs_congr hrole, hd]
  exact hs

theorem braked_of_not_run {s : State} (h : s.ctl.station ≠ .run) : Braked s := by
  have hr : inRun s = false := by simpa [inRun] using h
  exact ⟨fun hrun => absurd hrun (by simp [hr]), fun hrun => absurd hrun (by simp [hr])⟩

/-- After a reaction of the bridge unit the commanded duty is the commanded one of R98, 0 under FAILSAFE. -/
theorem braked_bridgeReact (accepted : Bool) (s : State) : Braked (bridgeReact accepted s) := by
  have heval (u : State) : Braked (evalDuty u) := by
    refine braked_selectDrive fun hr hf _ => ?_
    have hr' : inRun u = true := hr
    have hf' : u.ctl.failsafe = true := hf
    have hd : commandedDuty u = 0 := by simp [commandedDuty, hr', hf']
    simp only [State.setBridge_bridge]
    split <;> exact hd
  unfold bridgeReact
  split_ifs with ha hw hw
  · exact heval _
  · exact heval _
  · refine braked_selectDrive fun _ _ hax => ?_
    obtain ⟨-, hr⟩ := Bool.and_eq_true_iff.1 hw
    exact absurd (Bool.and_eq_true_iff.2 ⟨hax, hr⟩) ha
  · refine ⟨fun hr _ hu => ?_, fun hr _ hax => absurd (Bool.and_eq_true_iff.2 ⟨hax, hr⟩) ha⟩
    obtain h | h := Bool.or_eq_true_iff.1 hu
    · exact absurd (Bool.and_eq_true_iff.2 ⟨h, hr⟩) ha
    · exact absurd (Bool.and_eq_true_iff.2 ⟨h, hr⟩) hw

theorem braked_rule : BridgeRule DutyHeld Braked where
  stable {ps s t} h hfree hs := by
    obtain ⟨hrole, -, hstation, -⟩ := h .mode fun hp => hfree _ hp (by decide)
    obtain ⟨hfailsafe, -⟩ := h .conditions fun hp => hfree _ hp (by decide)
    have hbridge : t.bridge = s.bridge := h .bridge fun hp => hfree _ hp (by decide)
    exact braked_of_eq hrole hstation hfailsafe (by rw [hbridge]) (by rw [hbridge]) (by rw [hbridge]) (by rw [hbridge])
      (by rw [hbridge]) hs
  stableWeak {ps s t} h hfree hs := by
    obtain ⟨hrole, -, hstation, -⟩ := h .mode fun hp => hfree _ hp (by decide)
    obtain ⟨hfailsafe, -⟩ := h .conditions fun hp => hfree _ hp (by decide)
    have hbridge : t.bridge = s.bridge := h .bridge fun hp => hfree _ hp (by decide)
    exact dutyHeld_of_eq hrole hstation hfailsafe (by rw [hbridge]) hs
  minor x s hx hs := by
    obtain ⟨hdrive, hlevel, htripped, hlatched, hd, -⟩ := hx
    exact braked_of_eq (s := s) (t := s.setBridge x) rfl rfl rfl hdrive hlevel htripped hlatched hd hs
  weaken s hs := hs.2
  select s hs := braked_selectDrive hs
  demand accepted s _ := braked_bridgeReact accepted _
  dwell s hs := by
    unfold dwellExpired
    split
    · exact braked_selectDrive hs.2
    · exact hs
  rearm s hs := hs.2
  trip s hs := hs.2
  enter s := by
    unfold bridgeEnterRun
    split
    · exact braked_selectDrive fun _ _ _ => rfl
    · next h =>
      refine ⟨fun _ _ hu => absurd hu h, fun _ _ ha => absurd ?_ h⟩
      simp [bridgeInUse, ha]
  setup s _ := braked_of_not_run (by simp)
  halt s _ := braked_of_not_run (by rw [enterHalt_ctl]; simp)
  reset kind pins s := braked_of_not_run (resetStation_not_run kind pins s)
  timers s hs := braked_of_eq (s := s) (t := advanceTimers s) rfl rfl rfl rfl rfl rfl rfl rfl hs

end Sys2Proof.Machine
end

section
/-! The winch controller's state changes said once: what an entry, an evaluation and a selection leave (R112, R117 to
R126). -/

namespace Sys2Proof.Machine

/-! ### An entry (R120 to R124, R129) -/

/-- The starve rule moves the starve timer alone (R124). -/
@[simp] theorem starveRule_fields (minimum grant : Nat) (w : Winch) :
    (starveRule minimum grant w).state = w.state ∧ (starveRule minimum grant w).lock = w.lock ∧
      (starveRule minimum grant w).command = w.command ∧ (starveRule minimum grant w).position = w.position ∧
      (starveRule minimum grant w).homed = w.homed ∧ (starveRule minimum grant w).holdOff = w.holdOff ∧
      (starveRule minimum grant w).starvedFrom = w.starvedFrom ∧ (starveRule minimum grant w).ramp = w.ramp ∧
      (starveRule minimum grant w).stallTimer = w.stallTimer ∧ (starveRule minimum grant w).tension = w.tension ∧
      (starveRule minimum grant w).stallCount = w.stallCount ∧ (starveRule minimum grant w).hallEdges = w.hallEdges ∧
      (starveRule minimum grant w).activations = w.activations := by
  unfold starveRule
  split <;> simp

/-- The winch controller as it enters a state, with its WINCH timer restarted for it (R124, R129). -/
def enteredWinch (new : WinchState) (s : State) : Winch :=
  { starveRule (winchMinimum s) (tierGrant (s.setWinch (changedState new s.winch))) (changedState new s.winch) with
    recordTimer := some (recordPeriod new) }

theorem publishWinch_winch (s : State) :
    (publishWinch s).winch = { s.winch with recordTimer := some (recordPeriod s.winch.state) } := by
  simp [publishWinch]

theorem enterWinch_same {new : WinchState} {s : State} (h : new = s.winch.state) : enterWinch new s = s := if_pos h

theorem enterWinch_winch {new : WinchState} {s : State} (h : new ≠ s.winch.state) :
    (enterWinch new s).winch = enteredWinch new s := by
  have hif (b : Bool) (u : State) : (if b then brakeGates u else u).winch = u.winch := by cases b <;> simp
  unfold enterWinch
  rw [if_neg h]
  dsimp only
  rw [publishWinch_winch]
  simp [hif, enteredWinch, changedState]

@[simp] theorem enterWinch_state (new : WinchState) (s : State) : (enterWinch new s).winch.state = new := by
  by_cases h : new = s.winch.state
  · rw [enterWinch_same h, h]
  · simp [enterWinch_winch h, enteredWinch, changedState]

/-- An entry keeps the line position, the command, the lock condition, the hold-off and the counts. -/
@[simp] theorem enterWinch_kept (new : WinchState) (s : State) :
    (enterWinch new s).winch.lock = s.winch.lock ∧ (enterWinch new s).winch.command = s.winch.command ∧
      (enterWinch new s).winch.position = s.winch.position ∧ (enterWinch new s).winch.homed = s.winch.homed ∧
      (enterWinch new s).winch.holdOff = s.winch.holdOff ∧ (enterWinch new s).winch.stallCount = s.winch.stallCount ∧
      (enterWinch new s).winch.hallEdges = s.winch.hallEdges ∧
      (enterWinch new s).winch.activations = s.winch.activations := by
  by_cases h : new = s.winch.state
  · rw [enterWinch_same h]; simp
  · simp [enterWinch_winch h, enteredWinch, changedState]

/-! ### The hold-off and an evaluation (R117, R126) -/

/-- The trip hold-off alone may end. -/
theorem endHoldOff_winch (s : State) :
    (endHoldOff s).winch = { s.winch with
      holdOff := s.winch.holdOff &&
        !(!s.bridge.tripped && !s.bridge.latched && s.winch.command == .hold) } := by
  unfold endHoldOff
  rw [Bool.and_assoc, Bool.and_assoc, ← Bool.and_assoc (!s.bridge.tripped)]
  generalize (!s.bridge.tripped && !s.bridge.latched && s.winch.command == .hold) = free
  have hkeep (b : Bool) (h : s.winch.holdOff = b) : s.winch = { s.winch with holdOff := b } := by rw [← h]
  cases hh : s.winch.holdOff <;> cases free
  · exact hkeep _ hh
  · exact hkeep _ hh
  · exact hkeep _ hh
  · rfl

@[simp] theorem winchEvaluate_state (s : State) :
    (winchEvaluate s).winch.state = evaluatedState (endHoldOff s) := enterWinch_state _ _

@[simp] theorem winchEvaluate_kept (s : State) :
    (winchEvaluate s).winch.lock = s.winch.lock ∧ (winchEvaluate s).winch.command = s.winch.command ∧
      (winchEvaluate s).winch.position = s.winch.position ∧ (winchEvaluate s).winch.homed = s.winch.homed ∧
      (winchEvaluate s).winch.stallCount = s.winch.stallCount ∧ (winchEvaluate s).winch.hallEdges = s.winch.hallEdges ∧
      (winchEvaluate s).winch.activations = s.winch.activations := by
  simp [winchEvaluate, endHoldOff_winch]

/-- LOCKED ends only where no lock condition stands (R118). -/
theorem evaluatedState_of_locked {s : State} (hstate : s.winch.state = .locked) (hlock : s.winch.lock = true) :
    evaluatedState s = .locked := by
  unfold evaluatedState
  rw [hstate, hlock]
  cases s.winch.command <;> rfl

end Sys2Proof.Machine
end

section
/-! FAILSAFE in RUN (O56): the wheels are centred and the winch is locked; then the obligation. -/

namespace Sys2Proof.Machine

/-! ### The steering unit (R88) -/

/-- Under FAILSAFE in RUN the steering mode of an axle is CENTRE. -/
def Centred (s : State) : Prop :=
  inRun s = true → s.ctl.failsafe = true → isAxle s = true → s.steer.mode = .centre

theorem centred_of_eq {s t : State} (hrole : t.ctl.role = s.ctl.role) (hstation : t.ctl.station = s.ctl.station)
    (hfailsafe : t.ctl.failsafe = s.ctl.failsafe) (hmode : t.steer.mode = s.steer.mode) (hs : Centred s) :
    Centred t := by
  unfold Centred isAxle at hs ⊢
  rw [inRun_congr hstation, hfailsafe, roleIs_congr hrole, roleIs_congr hrole, hmode]
  exact hs

theorem centred_of_changes {ps : List Piece} {s t : State} (h : Changes ps s t)
    (hfree : ∀ p ∈ ps, p ∉ ([.mode, .conditions, .steer] : List Piece)) (hs : Centred s) : Centred t := by
  obtain ⟨hrole, -, hstation, -⟩ := h .mode fun hp => hfree _ hp (by decide)
  obtain ⟨hfailsafe, -⟩ := h .conditions fun hp => hfree _ hp (by decide)
  have hsteer : t.steer = s.steer := h .steer fun hp => hfree _ hp (by decide)
  exact centred_of_eq hrole hstation hfailsafe (by rw [hsteer]) hs

theorem centred_of_not_run {s : State} (h : s.ctl.station ≠ .run) : Centred s :=
  fun hr => absurd (by simpa [inRun] using hr) h

/-- A refresh takes the mode of R88. -/
theorem steerRefresh_mode (s : State) : (steerRefresh s).steer.mode = steerMode s := by
  unfold steerRefresh
  split
  · next h => exact h.symm
  · rfl

theorem centred_steerRefresh (s : State) : Centred (steerRefresh s) := by
  intro hr hf _
  have hctl : (steerRefresh s).ctl = s.ctl := by simp
  have hr' : inRun s = true := by rwa [inRun_congr (congrArg Controller.station hctl)] at hr
  have hf' : s.ctl.failsafe = true := by rwa [hctl] at hf
  rw [steerRefresh_mode]
  simp [steerMode, hr', hf']

theorem centred_splitCheck {s : State} (hs : Centred s) : Centred (splitCheck s) := by
  unfold splitCheck
  split
  · exact centred_steerRefresh _
  · exact hs

/-- A reaction of the steering unit refreshes the mode in RUN (R84, R88). -/
theorem centred_steerReact (accepted : Bool) (s : State) : Centred (steerReact accepted s) := by
  unfold steerReact
  split
  · exact centred_steerRefresh _
  · next h => exact fun hr _ ha => absurd (Bool.and_eq_true_iff.2 ⟨ha, hr⟩) h

theorem centred_demands : DemandKept Centred where
  stable h hfree hs := centred_of_changes h
    (fun p hp hmem => hfree p hp (by revert hmem; cases p <;> decide)) hs
  react accepted s _ := by
    have hsteer : (demandReact accepted s).steer = (steerReact accepted (evalConditions s)).steer := by
      simp [demandReact]
    have hctl : (demandReact accepted s).ctl = (steerReact accepted (evalConditions s)).ctl := by simp [demandReact]
    exact centred_of_eq (by rw [hctl]) (by rw [hctl]) (by rw [hctl]) (by rw [hsteer]) (centred_steerReact accepted _)

theorem centred_presenceChanged (r : Role) {s : State} (hs : Centred s) : Centred (presenceChanged r s) := by
  have hcues (p : Peers) : Centred (evalCues (s.setPeers p)) :=
    centred_of_changes (evalCues_changes (s.setPeers p)) (by decide) hs
  unfold presenceChanged
  dsimp only
  split_ifs
  · exact centred_splitCheck (hcues _)
  · exact hcues _
  · exact hs

theorem centred_deliverStation (source : BitVec 4) (d : List Byte) {s : State} (hs : Centred s) :
    Centred (deliverStation source d s) := by
  have hcues (p : Peers) (r : Role) : Centred (alignBlink r (evalCues (s.setPeers p))) :=
    centred_of_changes (alignBlink_changes r _) (by decide)
      (centred_of_changes (evalCues_changes (s.setPeers p)) (by decide) hs)
  unfold deliverStation
  split
  · dsimp only
    split
    · exact centred_splitCheck (hcues _ _)
    · exact hcues _ _
  · exact hs

theorem centred_splitExpired {s : State} (hs : Centred s) : Centred (splitExpired s) := by
  have hset (x : Steering) (h : x.mode = s.steer.mode) : Centred (s.setSteer x) :=
    centred_of_eq (s := s) (t := s.setSteer x) rfl rfl rfl h hs
  unfold splitExpired
  dsimp only
  split_ifs
  · exact centred_steerRefresh _
  · exact hset _ rfl
  · exact hs

theorem centred_servoFrameExpired {s : State} (hs : Centred s) : Centred (servoFrameExpired s) := by
  have hframe (late : Int) : Centred (startFrame late s) :=
    centred_of_eq (s := s) (t := startFrame late s) rfl rfl rfl rfl hs
  unfold servoFrameExpired
  split
  · split
    · exact hframe _
    · exact hs
  · exact hs

theorem centred_enterRun (s : State) : Centred (enterRun s) := by
  have hsteer (u : State) : Centred (steerEnterRun u) := by
    unfold steerEnterRun
    split
    · exact centred_splitCheck (centred_steerRefresh _)
    · next h => exact fun _ _ ha => absurd ha h
  have hblocks : Centred (blocksEnterRun s) := by
    refine centred_of_changes (lampsEnterRun_changes _) (by decide) ?_
    refine centred_of_changes (packEnterRun_changes _) (by decide) ?_
    refine centred_of_changes (winchEnterRun_changes _) (by decide) ?_
    exact centred_of_changes (bridgeEnterRun_changes _) (by decide) (hsteer _)
  rw [enterRun_eq]
  exact centred_of_changes (shareEnterRun_changes _) (by decide) (centred_demands.demandEnterRun hblocks)

theorem centred_live (c : Instr) (s : State) (hc : compound c = false) (hs : Centred s) : Centred (liveEffect c s) := by
  cases c
  case startTimerExpiry | commitEnd | frameSendEnd | demandTimerExpiry => cases hc
  case demandRecordStale => exact centred_demands.demandStale hs
  case demandRecordLost => exact centred_demands.demandLostNow hs
  case peerPresenceChange r => exact centred_presenceChanged r hs
  case splitTimerExpiry => exact centred_splitExpired hs
  case servoFrameTimerExpiry => exact centred_servoFrameExpired hs
  case servoPulseEnd => exact centred_of_eq (s := s) (t := servoPulseEnded s) rfl rfl rfl rfl hs
  all_goals exact centred_of_changes (liveEffect_changes _ s) (of_decide_eq_true rfl) hs

theorem centred_deliver (v : Delivery) (source : BitVec 4) (data : List Byte) (s : State) (hv : v.single = true)
    (hs : Centred s) : Centred (v.run source data s) := by
  cases v
  case demand | echoOnly | hold | release | restart | fetch => cases hv
  case station => exact centred_deliverStation source data hs
  all_goals exact centred_of_changes (Delivery.run_changes _ source data s) (of_decide_eq_true rfl) hs

theorem centred_rule : StepRule [.mode, .conditions, .steer] Centred where
  stable h hfree hs := centred_of_changes h hfree hs
  ages s hs := centred_of_changes (advanceAges_changes s) (by decide) hs
  timers s hs := centred_of_eq (s := s) (t := advanceTimers s) rfl rfl rfl rfl hs
  reset kind pins s _ := centred_of_not_run (resetStation_not_run kind pins s)
  halt s _ := centred_of_not_run (by rw [enterHalt_ctl]; simp)
  run s _ _ := centred_enterRun s
  setup s _ _ := by
    obtain ⟨-, -, hstation, -⟩ := enterSetup_changes s .mode (by decide)
    exact centred_of_not_run (by rw [hstation]; simp)
  arrives p d s hs := centred_demands.demandArrives p d s hs
  isolated _ hs := centred_demands.evalIsolated hs
  live c s hc hs := centred_live c s hc hs
  deliver v source data s hv hs := centred_deliver v source data s hv hs

/-! ### The winch controller (R118) -/

/-- On WINCH in RUN a lock condition that was taken in means LOCKED. -/
def LockHeld (s : State) : Prop :=
  roleIs s .winch = true → inRun s = true → s.winch.lock = true → s.winch.state = .locked

/-- On WINCH in RUN FAILSAFE, and a lock condition that was taken in, mean LOCKED. -/
def Locked (s : State) : Prop :=
  roleIs s .winch = true → inRun s = true → s.ctl.failsafe = true ∨ s.winch.lock = true → s.winch.state = .locked

theorem Locked.lockHeld {s : State} (hs : Locked s) : LockHeld s := fun hw hr hl => hs hw hr (.inr hl)

theorem lockHeld_of_eq {s t : State} (hrole : t.ctl.role = s.ctl.role) (hstation : t.ctl.station = s.ctl.station)
    (hwinch : t.winch = s.winch) (hs : LockHeld s) : LockHeld t := by
  unfold LockHeld at hs ⊢
  rw [inRun_congr hstation, roleIs_congr hrole, hwinch]
  exact hs

theorem locked_of_eq {s t : State} (hrole : t.ctl.role = s.ctl.role) (hstation : t.ctl.station = s.ctl.station)
    (hfailsafe : t.ctl.failsafe = s.ctl.failsafe) (hlock : t.winch.lock = s.winch.lock)
    (hstate : t.winch.state = s.winch.state) (hs : Locked s) : Locked t := by
  unfold Locked at hs ⊢
  rw [inRun_congr hstation, roleIs_congr hrole, hfailsafe, hlock, hstate]
  exact hs

theorem locked_of_changes {ps : List Piece} {s t : State} (h : Changes ps s t)
    (hfree : ∀ p ∈ ps, p ∉ ([.mode, .conditions, .winch] : List Piece)) (hs : Locked s) : Locked t := by
  obtain ⟨hrole, -, hstation, -⟩ := h .mode fun hp => hfree _ hp (by decide)
  obtain ⟨hfailsafe, -⟩ := h .conditions fun hp => hfree _ hp (by decide)
  have hwinch : t.winch = s.winch := h .winch fun hp => hfree _ hp (by decide)
  exact locked_of_eq hrole hstation hfailsafe (by rw [hwinch]) (by rw [hwinch]) hs

theorem locked_of_not_run {s : State} (h : s.ctl.station ≠ .run) : Locked s :=
  fun _ hr => absurd (by simpa [inRun] using hr) h

/-- A change of the winch controller that leaves the state and the lock condition. -/
theorem locked_setWinch {s : State} {x : Winch} (hlock : x.lock = s.winch.lock) (hstate : x.state = s.winch.state)
    (hs : Locked s) : Locked (s.setWinch x) := locked_of_eq (s := s) (t := s.setWinch x) rfl rfl rfl hlock hstate hs

/-- From a state other than LOCKED no lock condition stands, so any state may be entered. -/
theorem locked_enterWinch {s : State} (new : WinchState) (h : s.winch.state ≠ .locked) (hs : Locked s) :
    Locked (enterWinch new s) := by
  have hctl : (enterWinch new s).ctl = s.ctl := by simp
  intro hw hr hor
  rw [roleIs_congr (congrArg Controller.role hctl)] at hw
  rw [inRun_congr (congrArg Controller.station hctl)] at hr
  obtain ⟨hlock, -⟩ := enterWinch_kept new s
  rw [hctl, hlock] at hor
  exact absurd (hs hw hr hor) h

/-- An evaluation keeps LOCKED while the lock condition stands (R118). -/
theorem winchEvaluate_locked {s : State} (h : s.winch.lock = true → s.winch.state = .locked) :
    (winchEvaluate s).winch.lock = true → (winchEvaluate s).winch.state = .locked := by
  obtain ⟨hkeep, -⟩ := winchEvaluate_kept s
  have hend := endHoldOff_winch s
  intro hl
  rw [hkeep] at hl
  rw [winchEvaluate_state]
  exact evaluatedState_of_locked (by rw [hend]; exact h hl) (by rw [hend]; exact hl)

/-- The reaction takes the lock condition in, and is LOCKED where it stands (R118). -/
theorem locked_winchReact (accepted : Bool) {s : State} (hs : LockHeld s) : Locked (winchReact accepted s) := by
  have hctl : (winchReact accepted s).ctl = s.ctl := by simp
  intro hw hr
  rw [roleIs_congr (congrArg Controller.role hctl)] at hw
  rw [inRun_congr (congrArg Controller.station hctl)] at hr
  rw [hctl, winchReact_eq accepted hw hr]
  have hlocked : (winchLocked s).winch.lock = lockCause s ∧
      ((winchLocked s).winch.lock = true → (winchLocked s).winch.state = .locked) := by
    unfold winchLocked
    split
    · exact ⟨(enterWinch_kept _ _).1, fun _ => enterWinch_state _ _⟩
    · next hbegin =>
      refine ⟨rfl, fun hl => hs hw hr ?_⟩
      have hcause : lockCause s = true := hl
      simpa [hcause] using hbegin
  have hkeeps (u : State) (hu : u.winch.lock = lockCause s ∧ (u.winch.lock = true → u.winch.state = .locked)) :
      (winchEvaluate u).winch.lock = lockCause s ∧
        ((winchEvaluate u).winch.lock = true → (winchEvaluate u).winch.state = .locked) :=
    ⟨(winchEvaluate_kept u).1.trans hu.1, winchEvaluate_locked hu.2⟩
  have hunlocked : (winchUnlocked s).winch.lock = lockCause s ∧
      ((winchUnlocked s).winch.lock = true → (winchUnlocked s).winch.state = .locked) := by
    unfold winchUnlocked
    split
    · exact hkeeps _ hlocked
    · exact hlocked
  have hfinish (u : State) (hu : u.winch.lock = lockCause s ∧ (u.winch.lock = true → u.winch.state = .locked))
      (hor : s.ctl.failsafe = true ∨ u.winch.lock = true) : u.winch.state = .locked := by
    refine hu.2 ?_
    obtain hf | hl := hor
    · rw [hu.1, lockCause, hf]; rfl
    · exact hl
  split
  · exact hfinish _ (hkeeps _ hunlocked)
  · exact hfinish _ hunlocked

theorem locked_motor : MotorKept Locked where
  stable h hfree hs := locked_of_changes h (fun p hp hmem => hfree p hp (by revert hmem; cases p <;> decide)) hs
  react accepted _ hs := locked_winchReact accepted hs.lockHeld
  handOver s hs := by
    obtain h | ⟨-, -, hstarved, ⟨-, -, h⟩ | ⟨-, -, h⟩⟩ | ⟨-, -, -, h⟩ := winchHandOver_cases s
    · rw [h]; exact hs
    · rw [h]; exact locked_enterWinch _ (by simp [hstarved]) hs
    · rw [h]; exact locked_enterWinch _ (by simp [hstarved]) hs
    · obtain ⟨hstate, hlock, -⟩ := starveRule_fields (winchMinimum s) (tierGrant s) s.winch
      rw [h]; exact locked_setWinch hlock hstate hs

theorem locked_demands : DemandKept Locked where
  stable h hfree hs := locked_of_changes h (fun p hp hmem => hfree p hp (by revert hmem; cases p <;> decide)) hs
  react accepted s hs := by
    have hquiet (u : State) : Changes [.pack, .lamp] u (evalCues (packQuiet u)) :=
      .of (by simp [allPieces, Piece.same])
    have hbefore : LockHeld (bridgeReact accepted (steerReact accepted (evalConditions s))) :=
      lockHeld_of_eq (by simp) (by simp) (by simp) hs.lockHeld
    exact locked_of_changes (hquiet _) (by decide) (locked_winchReact accepted hbefore)

theorem locked_enterRun (s : State) : Locked (enterRun s) := by
  have hwinch (u : State) : Locked (winchEnterRun u) := by
    unfold winchEnterRun
    split
    · intro _ _ _
      rw [publishWinch_winch]
      rfl
    · next h => exact fun hw => absurd hw h
  have hblocks : Locked (blocksEnterRun s) := by
    refine locked_of_changes (lampsEnterRun_changes _) (by decide) ?_
    exact locked_of_changes (packEnterRun_changes _) (by decide) (hwinch _)
  rw [enterRun_eq]
  exact locked_motor.shareEnterRun (locked_demands.demandEnterRun hblocks)

theorem locked_publishWinch {s : State} (hs : Locked s) : Locked (publishWinch s) :=
  locked_of_eq (by simp) (by simp) (by simp) (by rw [publishWinch_winch]) (by rw [publishWinch_winch]) hs

theorem locked_endHoldOff {s : State} (hs : Locked s) : Locked (endHoldOff s) :=
  locked_of_eq (by simp) (by simp) (by simp) (by rw [endHoldOff_winch]) (by rw [endHoldOff_winch]) hs

theorem locked_brakeAtEnd {s : State} (hs : Locked s) : Locked (brakeAtEnd s) :=
  locked_of_eq (by simp) (by simp) (by simp) (by simp) (by simp) hs

theorem locked_hallEdged (stamp : Half) {s : State} (hs : Locked s) : Locked (hallEdged stamp s) := by
  cases hw : roleIs s .winch
  · simpa [hallEdged, hw] using hs
  · have hcount : Locked (hallCounted stamp s) :=
      locked_of_eq (s := s) (t := hallCounted stamp s) rfl rfl rfl rfl rfl hs
    rw [hallEdged_eq stamp hw]
    refine locked_brakeAtEnd ?_
    split
    · next h =>
      have hpayout : (hallCounted stamp s).winch.state = .payout := beq_iff_eq.1 (Bool.and_eq_true_iff.1 h).1
      exact locked_enterWinch _ (by simp [hpayout]) hcount
    · exact hcount

theorem locked_homeActivated {s : State} (hs : Locked s) : Locked (homeActivated s) := by
  cases hw : roleIs s .winch
  · simpa [homeActivated, hw] using hs
  · have hcount : Locked (homeCounted s) :=
      locked_of_eq (s := s) (t := homeCounted s) rfl rfl rfl rfl rfl hs
    have hstate : (homeCounted s).winch.state = s.winch.state := rfl
    rw [homeActivated_eq hw]
    refine locked_brakeAtEnd ?_
    split
    · next h => exact locked_enterWinch _ (by simp [hstate, h]) hcount
    · next h =>
      split
      · exact locked_enterWinch _ (by simp [hstate, h]) hcount
      · exact locked_of_changes (selectDrive_changes _) (by decide) hcount
    all_goals exact hcount

theorem locked_stallExpired {s : State} (hs : Locked s) : Locked (stallExpired s) := by
  have hset (n : Nat) (f : FaultSet) (d : Half) : Locked (record .winchStall d (setFaults f
      (s.setWinch { s.winch with stallCount := n }))) :=
    locked_motor.record _ _ (locked_motor.setFaults f (locked_setWinch rfl rfl hs))
  unfold stallExpired
  split
  · next h =>
    obtain ⟨-, hdriving⟩ := Bool.and_eq_true_iff.1 h
    refine locked_enterWinch _ ?_ (hset _ _ _)
    show s.winch.state ≠ .locked
    rintro hl
    simp [hl] at hdriving
  · exact hs

theorem locked_starveExpired {s : State} (hs : Locked s) : Locked (starveExpired s) := by
  unfold starveExpired
  split
  · next h =>
    obtain ⟨-, hdriving⟩ := Bool.and_eq_true_iff.1 h
    refine locked_enterWinch _ ?_ hs
    rintro hl
    simp [hl] at hdriving
  · exact hs

theorem locked_winchTripped {s : State} (hs : Locked s) : Locked (winchTripped s) := by
  have hset : Locked (s.setWinch { s.winch with holdOff := true }) := locked_setWinch rfl rfl hs
  unfold winchTripped
  dsimp only
  split
  · split
    case h_1 h | h_2 h | h_3 h => exact locked_enterWinch _ (by simp_all) hset
    all_goals exact hset
  · exact hs

theorem locked_oneShotTripped (i : Current) {s : State} (hs : Locked s) : Locked (oneShotTripped i s) := by
  have hset (x : Bridge) (f : FaultSet) : Locked (record .bridgeTrip 0 (setFaults f (s.setBridge x))) :=
    locked_motor.record _ _ (locked_motor.setFaults f (locked_of_changes (setBridge_changes x s) (by decide) hs))
  unfold oneShotTripped
  dsimp only
  split
  · refine locked_winchTripped (locked_of_changes (selectDrive_changes _) (by decide) ?_)
    split
    · exact locked_motor.record _ _ (hset _ _)
    · exact hset _ _
  · exact hs

theorem winchDuty_kept (fig : Nat) (s : State) :
    (winchDuty fig s).state = s.winch.state ∧ (winchDuty fig s).lock = s.winch.lock := by
  unfold winchDuty
  dsimp only
  split <;> exact ⟨rfl, rfl⟩

theorem locked_dutyStepped (samples : List Int) {s : State} (hs : Locked s) : Locked (dutyStepped samples s) := by
  have hbridge (u : State) (x : Bridge) (hu : Locked u) : Locked (u.setBridge x) :=
    locked_of_changes (setBridge_changes x u) (by decide) hu
  have hselect (u : State) (hu : Locked u) : Locked (selectDrive u) :=
    locked_of_changes (selectDrive_changes u) (by decide) hu
  have hcurrent := hbridge s { s.bridge with current := meanCurrent samples } hs
  obtain ⟨hstate, hlock⟩ :=
    winchDuty_kept (meanCurrent samples) (s.setBridge { s.bridge with current := meanCurrent samples })
  unfold dutyStepped
  dsimp only
  split_ifs
  · exact hbridge _ _ (hselect _ (locked_setWinch hlock hstate hcurrent))
  · exact hbridge _ _ (hselect _ hcurrent)
  · exact hs

theorem locked_rearmExpired {s : State} (hs : Locked s) : Locked (rearmExpired s) := by
  have hselected (x : Bridge) : Locked (selectDrive (s.setBridge x)) :=
    locked_of_changes (selectDrive_changes _) (by decide) (locked_of_changes (setBridge_changes x s) (by decide) hs)
  unfold rearmExpired
  dsimp only
  split
  · split
    · exact locked_endHoldOff (hselected _)
    · exact hselected _
  · exact hs

theorem locked_winchTimerExpired {s : State} (hs : Locked s) : Locked (winchTimerExpired s) := by
  unfold winchTimerExpired
  split
  · exact locked_publishWinch hs
  · exact hs

theorem locked_live (c : Instr) (s : State) (hc : compound c = false) (hs : Locked s) : Locked (liveEffect c s) := by
  cases c
  case startTimerExpiry | commitEnd | frameSendEnd | demandTimerExpiry => cases hc
  case demandRecordStale => exact locked_demands.demandStale hs
  case demandRecordLost => exact locked_demands.demandLostNow hs
  case allowanceRecordLost => exact locked_motor.allowanceLost hs
  case scanCompletion scan => exact locked_motor.scanCompleted scan hs
  case checkTimerExpiry => exact locked_motor.checkExpired hs
  case packTrip i => exact locked_motor.packTripped i hs
  case shareTimerExpiry => exact locked_motor.shareExpired hs
  case dutyStep samples => exact locked_dutyStepped samples hs
  case oneShotTrip i => exact locked_oneShotTripped i hs
  case rearmTimerExpiry => exact locked_rearmExpired hs
  case hallEdge stamp => exact locked_hallEdged stamp hs
  case homeActivation => exact locked_homeActivated hs
  case stallTimerExpiry => exact locked_stallExpired hs
  case starveTimerExpiry => exact locked_starveExpired hs
  case winchTimerExpiry => exact locked_winchTimerExpired hs
  all_goals exact locked_of_changes (liveEffect_changes _ s) (of_decide_eq_true rfl) hs

theorem locked_deliver (v : Delivery) (source : BitVec 4) (data : List Byte) (s : State) (hv : v.single = true)
    (hs : Locked s) : Locked (v.run source data s) := by
  cases v
  case demand | echoOnly | hold | release | restart | fetch => cases hv
  case allowance =>
    show Locked (deliverAllowance source data s)
    unfold deliverAllowance
    split
    · exact locked_motor.acceptAllowance _ hs
    · exact hs
  case trip =>
    show Locked (deliverTrip source data s)
    unfold deliverTrip
    split
    · exact locked_motor.takeTrip hs
    · exact hs
  all_goals exact locked_of_changes (Delivery.run_changes _ source data s) (of_decide_eq_true rfl) hs

theorem locked_rule : StepRule [.mode, .conditions, .winch] Locked where
  stable h hfree hs := locked_of_changes h hfree hs
  ages s hs := locked_of_changes (advanceAges_changes s) (by decide) hs
  timers s hs := by
    have hwinch : (advanceTimers s).winch.lock = s.winch.lock ∧ (advanceTimers s).winch.state = s.winch.state := by
      unfold advanceTimers
      dsimp only
      split <;> exact ⟨rfl, rfl⟩
    exact locked_of_eq (s := s) (t := advanceTimers s) rfl rfl rfl hwinch.1 hwinch.2 hs
  reset kind pins s _ := locked_of_not_run (resetStation_not_run kind pins s)
  halt s _ := locked_of_not_run (by rw [enterHalt_ctl]; simp)
  run s _ _ := locked_enterRun s
  setup s _ _ := by
    obtain ⟨-, -, hstation, -⟩ := enterSetup_changes s .mode (by decide)
    exact locked_of_not_run (by rw [hstation]; simp)
  arrives p d s hs := locked_demands.demandArrives p d s hs
  isolated _ hs := locked_demands.evalIsolated hs
  live c s hc hs := locked_live c s hc hs
  deliver v source data s hv hs := locked_deliver v source data s hv hs

/-! ### The three together -/

theorem or_not_eq_true_iff (a b : Bool) : (!a || b) = true ↔ (a = true → b = true) := by
  cases a <;> simp

theorem failsafeSafe_lockSafe_iff (s : State) : (failsafeSafe s = true ∧ lockSafe s = true) ↔
    Braked s ∧ Centred s ∧ Locked s := by
  simp only [failsafeSafe, lockSafe, Braked, DutyHeld, Centred, Locked, or_not_eq_true_iff, Bool.and_eq_true, beq_iff_eq]
  tauto

end Sys2Proof.Machine

open Sys2Proof Sys2Proof.Machine

/-- Settles O56: every selection of the drive state brakes under FAILSAFE, every refresh of the steering mode centres, and
the winch controller takes the lock condition in with each reaction. -/
theorem failsafeRuleKept : Obligations.FailsafeRuleKept := by
  intro s t hfailsafe hlock h
  obtain ⟨hbraked, hcentred, hlocked⟩ := (failsafeSafe_lockSafe_iff s).1 ⟨hfailsafe, hlock⟩
  exact (failsafeSafe_lockSafe_iff t).2 ⟨braked_rule.toStepRule.keeps_step (by decide) hbraked h,
    centred_rule.keeps_step (by decide) hcentred h, locked_rule.keeps_step (by decide) hlocked h⟩
end

section
/-! Proofs about HALT, the resets and the end of a commit (R1, R2, R4, R7, R167 to R170): O2 to O5. -/

namespace Sys2Proof.Machine

/-! ### HALT (R7) -/

/-- In HALT a command other than a reset is neither a frame that is taken nor an event that is processed. -/
theorem exec_of_halt {s : State} (h : s.ctl.station = .halt) (c : Instr)
    (hc : ∀ p, c ≠ .powerOnReset p ∧ c ≠ .pinReset p) : exec c s = .next s := by
  have hlive (f : State → State) : live s f = .next s := by simp [live, h]
  have hframe (first : Byte) (rx : Rx) (d : List Byte) (deliver : BitVec 4 → List Byte → State → State) :
      Host.Outcome.next (frameArrives first rx d deliver s) = (.next s : Host.Outcome State Fault Refusal) := by
    simp [frameArrives, listening, h]
  cases c
  case powerOnReset p => exact absurd rfl (hc p).1
  case pinReset p => exact absurd rfl (hc p).2
  case stationFrame | demandFrame | allowanceFrame | winchFrame | tripFrame | answerFrame | unknownTopicFrame | hold
      | setting | release | restart | fetchSummary | fetchPeer | fetchIncident | fetchSetting | fetchShare | fetchCells
      | fetchScan | fetchCapture | fetchWinch | fetchBridge | fetchUnknownKind => exact hframe _ _ _ _
  case windowTimerExpiry => exact hlive (liveEffect .windowTimerExpiry)
  case drivenTimerExpiry => exact hlive (liveEffect .drivenTimerExpiry)
  all_goals exact hlive _

theorem step_of_halt {s : State} (h : s.ctl.station = .halt) (hempty : s.pending = []) : step s = .next s := by
  simp [step, hempty, tick, h]

/-! ### The incidents of START (R169) -/

theorem foldl_append_clock (code : IncidentCode) (details : List Nat) (l : IncidentLog) :
    (details.foldl (fun l d => l.append code (BitVec.ofNat 16 d)) l).clock = l.clock := by
  induction details generalizing l with
  | nil => rfl
  | cons d rest ih => simp [ih]

theorem foldl_append_codes (code : IncidentCode) (details : List Nat) (l : IncidentLog)
    (h : ∀ e ∈ l.entries, e.code = code) :
    ∀ e ∈ (details.foldl (fun l d => l.append code (BitVec.ofNat 16 d)) l).entries, e.code = code := by
  induction details generalizing l with
  | nil => exact h
  | cons d rest ih =>
    refine ih _ fun e he => ?_
    obtain hold | rfl := IncidentLog.mem_append he
    · exact h e hold
    · rfl

/-! ### What every reset leaves (R1, R2, R4, R170) -/

/-- The latched straps, the conditions and a commit after a reset (R1, R170). -/
theorem resetStation_ctl (kind : ResetKind) (pins : Pins) (s : State) :
    (resetStation kind pins s).ctl.role = pins.role ∧ (resetStation kind pins s).ctl.radio = pins.radio ∧
      (resetStation kind pins s).ctl.commit = none ∧ (resetStation kind pins s).ctl.failsafe = false ∧
      (resetStation kind pins s).ctl.demandHold = false ∧ (resetStation kind pins s).ctl.isolated = false := by
  cases h : strapFault pins
  · obtain ⟨d, hd⟩ := resetStation_of_valid kind s h
    rw [hd]
    exact ⟨rfl, rfl, rfl, rfl, rfl, rfl⟩
  · rw [resetStation_of_fault kind s h]
    exact ⟨rfl, rfl, rfl, rfl, rfl, rfl⟩

/-- The Incident List after a reset: the list kept, but at a power-on reset, with the incidents of START appended. -/
theorem resetStation_log_of_valid (kind : ResetKind) {pins : Pins} (s : State) (h : strapFault pins = false) :
    (resetStation kind pins s).log = (loadSettings (abandonedNvm s)).2.foldl
      (fun l d => l.append .settingsDefaulted (BitVec.ofNat 16 d)) (if kind = .powerOn then {} else s.log) := by
  obtain ⟨d, hd⟩ := resetStation_of_valid kind s h
  rw [hd]
  rfl

theorem resetStation_log_of_fault (kind : ResetKind) {pins : Pins} (s : State) (h : strapFault pins = true) :
    (resetStation kind pins s).log = if kind = .powerOn then {} else s.log := by
  rw [resetStation_of_fault kind s h]
  rfl

/-- The incident clock survives every reset but a power-on reset (R170). -/
theorem resetStation_clock (kind : ResetKind) (pins : Pins) (s : State) :
    (resetStation kind pins s).log.clock = if kind = .powerOn then 0 else s.log.clock := by
  have hclock (b : Prop) [Decidable b] : (if b then ({} : IncidentLog) else s.log).clock = if b then 0 else s.log.clock := by
    split <;> rfl
  cases h : strapFault pins
  · rw [resetStation_log_of_valid kind s h, foldl_append_clock, hclock]
  · rw [resetStation_log_of_fault kind s h, hclock]

/-- START after a reset on valid straps. -/
theorem resetStation_start (kind : ResetKind) {pins : Pins} (s : State) (h : strapFault pins = false) :
    let r := resetStation kind pins s
    r.ctl.station = .start ∧ r.winch = (if roleIs r .winch && homeActive r then { homed := true, activations := 1 } else {}) ∧
      r.ctl.startTimer = some 300 ∧ r.ctl.stationTimer = some 20 ∧ r.lamp = { blinkTimer := some 3 } ∧
      r.steer = { shadow := servoCentre r } ∧ (∃ d, r.port = { slots := { station := some d } }) ∧
      r.ctl.held = (loadSettings (abandonedNvm s)).1 ∧ r.ctl.working = r.ctl.held := by
  obtain ⟨d, hd⟩ := resetStation_of_valid kind s h
  rw [hd]
  exact ⟨rfl, rfl, rfl, rfl, rfl, rfl, ⟨d, rfl⟩, rfl, rfl⟩

/-- HALT after a reset on a strap fault (R2). -/
theorem resetStation_halt (kind : ResetKind) {pins : Pins} (s : State) (h : strapFault pins = true) :
    let r := resetStation kind pins s
    r.ctl.station = .halt ∧ r.winch = {} ∧ r.lamp = {} ∧ r.steer = {} ∧ r.ctl.faults = {} ∧ r.port = {} ∧
      r.ctl.startTimer = none ∧ r.ctl.stationTimer = none := by
  rw [resetStation_of_fault kind s h]
  exact ⟨rfl, rfl, rfl, rfl, rfl, rfl, rfl, rfl⟩

theorem abandonedNvm_of_no_commit {s : State} (h : s.ctl.commit = none) : abandonedNvm s = s.nvm := by
  simp [abandonedNvm, h]

/-! ### Service frames for this station (R164, R167) -/

/-- A service frame for this station is taken between the port's RECEIVE and its echo. -/
theorem frameArrives_of_served {s : State} {first : Byte} {rx : Rx} {data : List Byte}
    (take : BitVec 4 → State → State) (h : takesFrame s first rx data = true)
    (hlength : lengthAllowed first data.length = true) (htarget : targeted s (byteAt data 0) = true) :
    frameArrives first rx data (serve take) s = endEcho rx.span (take rx.source (beginReceive rx.span s)) := by
  have hserve : serve take rx.source data (beginReceive rx.span s) = take rx.source (beginReceive rx.span s) :=
    serve_of_targeted _ _ htarget
  rw [frameArrives_of_takesFrame _ h hlength, hserve]

/-- A service frame that is answered without anything else changing. -/
theorem endEcho_answered {s : State} (span : Nat) (asker : BitVec 4) (kind : BitVec 5) (result : AnswerResult)
    (index : Byte) (payload : List Byte) (h : s.ctl.station ≠ .halt) :
    endEcho span (answer asker kind result index payload (beginReceive span s)) =
      { s with port := afterAnswer span (answerData asker kind result index payload) s.port } :=
  endEcho_answer_beginReceive span asker kind result index payload h

/-- A RESTART outside a commit: START with the frame echoed, or HALT without an echo (R2, R7, R167). -/
theorem exec_restart_of_takesFrame {s : State} {rx : Rx} {target : Byte} (p : Pins)
    (h : takesFrame s 0x86 rx [target] = true) (htarget : targeted s target = true) :
    (s.ctl.commit.isSome = true → exec (.restart rx [target] p) s =
      .next { s with port := afterAnswer rx.span [0#4 ++ rx.source, 0x96, 0] s.port }) ∧
    (s.ctl.commit = none → exec (.restart rx [target] p) s = .next (endEcho rx.span (resetStation .restart p s))) := by
  have hexec : exec (.restart rx [target] p) s = .next (frameArrives 0x86 rx [target] (serve (takeRestart p)) s) := rfl
  have hreset : resetStation .restart p (beginReceive rx.span s) = resetStation .restart p s := rfl
  have htake : takeRestart p rx.source (beginReceive rx.span s) =
      if s.ctl.commit.isSome then answer rx.source 22 .busy 0 [] (beginReceive rx.span s)
      else resetStation .restart p (beginReceive rx.span s) := rfl
  rw [hexec, frameArrives_of_served _ h rfl htarget, htake, hreset]
  refine ⟨fun hcommit => ?_, fun hcommit => ?_⟩
  · rw [if_pos hcommit, endEcho_answered _ _ _ _ _ _ (station_ne_halt_of_takesFrame h)]
    rfl
  · rw [if_neg (by simp [hcommit])]

end Sys2Proof.Machine

open Sys2Proof Sys2Proof.Machine

/-- Settles O2: no frame is taken and no event is processed in HALT, and a step on an empty queue stands still. -/
theorem haltChangesNothing : Obligations.HaltChangesNothing :=
  fun _ h => ⟨exec_of_halt h, step_of_halt h⟩

/-- Settles O3: what every reset leaves, what START and HALT add, and the list and clock by the kind of the reset. -/
theorem resetByStraps : Obligations.ResetByStraps := by
  intro s p
  have hkinds {P : State → Prop} (h : ∀ kind, P (resetStation kind p s)) :
      ∀ r ∈ [resetStation .powerOn p s, resetStation .pin p s], P r := by
    intro r hr
    simp only [List.mem_cons, List.not_mem_nil, or_false] at hr
    obtain rfl | rfl := hr
    · exact h .powerOn
    · exact h .pin
  refine ⟨resetStation .powerOn p s, resetStation .pin p s, rfl, rfl, resetStation_clock .powerOn p s, ?codes,
    resetStation_clock .pin p s, hkinds fun kind => ?blocks, fun hvalid => ⟨hkinds fun kind =>
    resetStation_start kind s hvalid, fun hloaded => ?kept⟩, fun hfault => ⟨hkinds fun kind =>
    resetStation_halt kind s hfault, resetStation_log_of_fault .powerOn s hfault,
    resetStation_log_of_fault .pin s hfault⟩⟩
  case codes =>
    cases h : strapFault p
    · rw [resetStation_log_of_valid .powerOn s h]
      exact foldl_append_codes _ _ _ (by simp)
    · rw [resetStation_log_of_fault .powerOn s h]
      simp
  case blocks =>
    obtain ⟨hrole, hradio, hcommit, hfailsafe, hhold, hisolated⟩ := resetStation_ctl kind p s
    obtain ⟨hpending, -, -, hnvm, hpeers, hlatest, hcap, hdem, hbridge, hpack, hshare⟩ := resetStation_blocks kind p s
    exact ⟨hrole, hradio, hcommit, hfailsafe, hhold, hisolated, hpeers, hlatest, hcap, hdem, hbridge, hpack, hshare,
      hnvm, hpending⟩
  case kept =>
    rw [resetStation_log_of_valid .powerOn s hvalid, resetStation_log_of_valid .pin s hvalid, hloaded]
    exact ⟨rfl, rfl⟩

/-- Settles O4: a RESTART is answered BUSY during a commit, and is else a reset, with the echo where START begins. -/
theorem restartOrBusy : Obligations.RestartOrBusy := by
  intro s rx target p htakes htarget
  obtain ⟨hbusy, hrestart⟩ := exec_restart_of_takesFrame p htakes htarget
  cases hcommit : s.ctl.commit with
  | some c =>
    exact ⟨_, hbusy (by simp [hcommit]), fun _ => rfl, fun h => by simp at h, fun h => by simp at h, fun h => by simp at h⟩
  | none =>
    have hnvm := abandonedNvm_of_no_commit hcommit
    obtain ⟨hpending, hticks, hpins, hnvm', hpeers, hlatest, hcap, hdem, hbridge, hpack, hshare⟩ :=
      resetStation_blocks .restart p s
    have hecho (u : State) : (endEcho rx.span u).pending = u.pending ∧ (endEcho rx.span u).ticks = u.ticks ∧
        (endEcho rx.span u).pins = u.pins ∧ (endEcho rx.span u).nvm = u.nvm ∧ (endEcho rx.span u).peers = u.peers ∧
        (endEcho rx.span u).latest = u.latest ∧ (endEcho rx.span u).cap = u.cap ∧ (endEcho rx.span u).dem = u.dem ∧
        (endEcho rx.span u).bridge = u.bridge ∧ (endEcho rx.span u).pack = u.pack ∧
        (endEcho rx.span u).share = u.share := by
      unfold endEcho
      split <;> exact ⟨rfl, rfl, rfl, rfl, rfl, rfl, rfl, rfl, rfl, rfl, rfl⟩
    refine ⟨_, hrestart hcommit, fun h => by simp at h, fun _ => ?blocks, fun _ hvalid => ?start, fun _ hfault => ?halt⟩
    case blocks =>
      obtain ⟨h1, h2, h3, h4, h5, h6, h7, h8, h9, h10, h11⟩ := hecho (resetStation .restart p s)
      exact ⟨h1.trans hpending, h2.trans hticks, h3.trans hpins, (h4.trans hnvm').trans hnvm, h5.trans hpeers,
        h6.trans hlatest, h7.trans hcap, h8.trans hdem, h9.trans hbridge, h10.trans hpack, h11.trans hshare⟩
    case start =>
      obtain ⟨d, hd⟩ := resetStation_of_valid .restart s hvalid
      have hlive : (resetStation .restart p s).ctl.station ≠ .halt := by rw [hd]; simp
      have hend := endEcho_of_not_halt rx.span hlive
      rw [hend, hd, hnvm]
      exact ⟨rfl, rfl, rfl, rfl, rfl, d, rfl⟩
    case halt =>
      rw [resetStation_of_fault .restart s hfault]
      exact ⟨rfl, rfl, rfl, rfl, rfl, rfl⟩

/-- Settles O5: COMMIT_END stores the table; a match is a restart on it, a mismatch an answer and an incident. -/
theorem commitMatchesOrFails : Obligations.CommitMatchesOrFails := by
  intro s c stored p hlive hcommit
  let a := (s.setNvm stored).setCtl { s.ctl with commit := none }
  have hexec : exec (.commitEnd stored p) s = .next (commitEnded stored p s) := by
    show live s (commitEnded stored p) = _
    simp [live, hlive]
  have hended : commitEnded stored p s = if commitMatches s stored then resetStation .restart p a
      else record .settingsWrite 0 (answer c.requester 21 .writeFailed 0 [] a) := by
    simp [commitEnded, hcommit, a]
  have hmatches : commitMatches s stored = true ↔ storedItems stored.items = storedItems s.ctl.working := beq_iff_eq
  refine ⟨_, hexec, fun hmatch hvalid => ?start, fun hmatch hfault => ?halt, fun hmismatch => ?failed⟩
  case start =>
    obtain ⟨d, hd⟩ := resetStation_of_valid .restart a hvalid
    rw [hended, if_pos (hmatches.2 hmatch), hd]
    exact ⟨rfl, rfl, rfl, rfl⟩
  case halt =>
    rw [hended, if_pos (hmatches.2 hmatch), resetStation_of_fault .restart a hfault]
    rfl
  case failed =>
    rw [hended, if_neg fun h => hmismatch (hmatches.1 h)]
    refine ⟨?_, ?_, fun hready => ?_⟩
    · exact ((answer_changes c.requester 21 .writeFailed 0 [] a).mono (by decide : _ ⊆ [.port, .log])
        |>.trans ((record_changes .settingsWrite 0 _).mono (by decide))).eq
    · have hlog : (answer c.requester 21 .writeFailed 0 [] a).log = s.log :=
        answer_changes c.requester 21 .writeFailed 0 [] a .log (by decide)
      rw [record_log, hlog]
      exact IncidentLog.append_last _ _ _
    · exact queueFrame_port (s := a) hready .answer _
end

section
/-! The lamp unit's evaluation and hand-over said field by field (R133 to R143), what follows from a role, and RUN entry
block by block (R6). -/

namespace Sys2Proof.Machine

/-! ### Roles (R1, R19) -/

theorem roleIs_iff (s : State) (r : Role) : roleIs s r = true ↔ roleOf s.ctl.role = some r := beq_iff_eq

/-- A role's address is the station's own (R1). -/
theorem ownAddress_of_role {s : State} {r : Role} (h : roleIs s r = true) : ownAddress s = roleAddress r := by
  have hall (x : BitVec 3) (q : Role) (hq : roleOf x = some q) : x.toNat = roleAddress q := by
    revert hq; revert x q; decide
  exact hall _ _ ((roleIs_iff s r).1 h)

theorem isAxle_of_winch {s : State} (h : roleIs s .winch = true) : isAxle s = false := by
  rw [roleIs_iff] at h
  simp [isAxle, roleIs, h]

theorem winch_of_axle {s : State} (h : isAxle s = true) : roleIs s .winch = false := by
  cases hw : roleIs s .winch
  · rfl
  · rw [isAxle_of_winch hw] at h; exact absurd h (by decide)

/-- WINCH publishes no DEMAND (R78). -/
theorem ownPublisher_of_winch {s : State} (h : roleIs s .winch = true) : ownPublisher s = none := by
  simp [ownPublisher, allPublishers, publisherAddress, ownAddress_of_role h, roleAddress]

theorem ownPublisher_address {s : State} {p : Publisher} (h : ownPublisher s = some p) :
    publisherAddress p = ownAddress s := by
  simpa using List.find?_some h

/-- A station's own DEMAND is no conflict (R20). -/
theorem noteConflict_of_own {s : State} {p : Publisher} (h : publisherAddress p = ownAddress s) :
    noteConflict p s = s := by
  simp [noteConflict, h]

/-! ### Cues, base targets and the hand-over (R133 to R143) -/

theorem evalCues_cues (s : State) : (evalCues s).lamp.cues = computeCues s := rfl

theorem evalCues_base (s : State) {n : Nat} (h : n < 8) :
    (lampAt (evalCues s) n).base = baseTarget (computeCues s) (functionOf s n) := by
  let u := s.setLamp { s.lamp with
    cues := computeCues s
    lamps := tab 8 fun n => { lampAt s n with base := baseTarget (computeCues s) (functionOf s n) }
    wantK := lampWantK s fun n => baseTarget (computeCues s) (functionOf s n)
    wantC := lampWantC s fun n => baseTarget (computeCues s) (functionOf s n) }
  have hbase : (lampAt u n).base = baseTarget (computeCues s) (functionOf s n) := by
    rw [lampAt_tab (s := u) (f := fun n =>
      { lampAt s n with base := baseTarget (computeCues s) (functionOf s n) }) rfl, if_pos h]
  have heval : lampAt (evalCues s) n =
      { lampAt u n with effective := effectiveTarget u n (lampAt u n).base (lampAt u n).shed } := by
    rw [lampAt_tab (s := evalCues s) (f := fun n =>
      { lampAt u n with effective := effectiveTarget u n (lampAt u n).base (lampAt u n).shed }) rfl, if_pos h]
  rw [heval]
  exact hbase

/-- The phase and the two timers of the lamp unit stand as they were. -/
def SameClock (s t : State) : Prop :=
  t.lamp.phase = s.lamp.phase ∧ t.lamp.blinkTimer = s.lamp.blinkTimer ∧ t.lamp.fadeTimer = s.lamp.fadeTimer

theorem SameClock.of_eq {s t : State} (h : t.lamp = s.lamp) : SameClock s t := by
  unfold SameClock
  rw [h]
  exact ⟨rfl, rfl, rfl⟩

theorem SameClock.trans {s t u : State} (h : SameClock s t) (h' : SameClock t u) : SameClock s u :=
  ⟨h'.1.trans h.1, h'.2.1.trans h.2.1, h'.2.2.trans h.2.2⟩

theorem evalCues_clock (s : State) : SameClock s (evalCues s) := ⟨rfl, rfl, rfl⟩

theorem lampHandOver_clock (g : Tiers) (s : State) : SameClock s (lampHandOver g s) := ⟨rfl, rfl, rfl⟩

theorem cueEvent_clock (before s : State) : SameClock s (cueEvent before s) := by
  unfold cueEvent
  split
  · exact .of_eq rfl
  · exact evalCues_clock s

theorem selectDrive_clock (s : State) : SameClock s (selectDrive s) := by
  unfold selectDrive
  dsimp only
  split_ifs
  · exact (SameClock.of_eq (t := s.setBridge _) rfl).trans (cueEvent_clock s _)
  · exact (SameClock.of_eq (t := s.setBridge _) rfl).trans (cueEvent_clock s _)
  · exact .of_eq rfl

theorem bridgeReact_clock (accepted : Bool) (s : State) : SameClock s (bridgeReact accepted s) := by
  have heval (u : State) : SameClock u (evalDuty u) :=
    (SameClock.of_eq (t := u.setBridge _) rfl).trans (selectDrive_clock _)
  unfold bridgeReact
  split_ifs
  · exact (SameClock.of_eq (t := stageDig s) rfl).trans (heval _)
  · exact heval _
  · exact selectDrive_clock s
  · exact .of_eq rfl

/-- Off WINCH the reaction to a DEMAND keeps the lamp unit's phase and timers. -/
theorem demandReact_clock (accepted : Bool) {s : State} (h : roleIs s .winch = false) :
    SameClock s (demandReact accepted s) := by
  have hsteer : SameClock s (steerReact accepted (evalConditions s)) := .of_eq (by simp)
  have hbridge := hsteer.trans (bridgeReact_clock accepted _)
  have hwinch : winchReact accepted (bridgeReact accepted (steerReact accepted (evalConditions s))) =
      bridgeReact accepted (steerReact accepted (evalConditions s)) :=
    winchReact_of_not_winch accepted ((roleIs_congr (by simp) .winch).trans h)
  have hquiet (u : State) : SameClock u (packQuiet u) := .of_eq (by simp)
  unfold demandReact
  rw [hwinch]
  exact (hbridge.trans (hquiet _)).trans (evalCues_clock _)

/-! ### The steering unit (R84 to R90) -/

/-- A refresh: the mode of R88, with target 0 at ServoCentre or the axle target of R89 at its width. -/
theorem steerRefresh_eq (s : State) : steerRefresh s = s.setSteer { s.steer with
    mode := steerMode s
    target := if steerMode s = .follow then axleTarget s.latest.demand.steer (axleFactor s) else 0
    shadow := if steerMode s = .follow then servoWidth s (axleTarget s.latest.demand.steer (axleFactor s))
      else servoCentre s } := by
  unfold steerRefresh
  cases h : steerMode s <;> simp

/-- What a refresh in RUN leaves (R88 to R90). -/
theorem steerRefresh_spec {s : State} (hrun : inRun s = true) :
    let x := (steerRefresh s).steer
    x = { s.steer with mode := x.mode, target := x.target, shadow := x.shadow } ∧
      x.mode = (if s.ctl.failsafe then .centre else if s.steer.split then .split else .follow) ∧
      (x.mode ≠ .follow → x.target = 0 ∧ x.shadow = servoCentre s) ∧
      (x.mode = .follow → x.shadow = servoWidth s x.target ∧
        x.target = Int.tdiv (s.latest.demand.steer * bankFactor s s.steer.active) 1000) := by
  have hmode : steerMode s = if s.ctl.failsafe then .centre else if s.steer.split then .split else .follow := by
    simp [steerMode, hrun]
  rw [← hmode, steerRefresh_eq]
  refine ⟨rfl, rfl, fun h => ⟨if_neg h, if_neg h⟩, fun h => ?_⟩
  have h' : steerMode s = .follow := h
  simp only [h', if_true, State.setSteer_steer, true_and]
  rfl

/-- An evaluation of the split check moves the split timer and the split condition alone, by the table of R86. -/
theorem splitEvaluate_cases {s : State} (hrear : roleIs s .rear = true) (hrun : inRun s = true) :
    ∃ timer split, splitEvaluate s = s.setSteer { s.steer with splitTimer := timer, split := split } ∧
      splitAfter (splitDiffers s) s.steer { s.steer with splitTimer := timer, split := split } := by
  unfold splitEvaluate splitAfter
  rw [if_neg (by simp [hrear, hrun])]
  cases hd : splitDiffers s
  · exact ⟨none, false, by simp, by simp⟩
  · by_cases hstart : s.steer.splitTimer = none ∧ s.steer.split = false
    · exact ⟨some 200, s.steer.split, by simp [hstart.1, hstart.2], by simp [hstart.1, hstart.2]⟩
    · refine ⟨s.steer.splitTimer, s.steer.split, ?_, by simp [hstart]⟩
      rw [if_pos rfl, if_neg (by simpa using hstart)]
      exact (State.setSteer_self s).symm

/-! ### The hand-over to a winch that is locked (R124) -/

theorem winchHandOver_of_locked {s : State} (h : roleIs s .winch = true → s.winch.state = .locked) :
    winchHandOver s = s := by
  cases hw : roleIs s .winch
  · exact winchHandOver_of_not_winch hw
  · have hl := h hw
    cases hr : inRun s
    · simp [winchHandOver, hr]
    · simp [winchHandOver, hw, hr, hl, starveRule]

/-- The ENTRY computation with no winch to hand a grant to: the share unit and the lamps alone. -/
theorem shareEnterRun_of_locked {s : State} (h : roleIs s .winch = true → s.winch.state = .locked) :
    ∃ x : Share, shareEnterRun s = (lampHandOver x.grants (s.setShare x)).setShare { x with timer := some 20 } ∧
      x.cause = some .entry := by
  have hhand : winchHandOver (lampHandOver (computedShare .entry s).grants (s.setShare (computedShare .entry s))) =
      lampHandOver (computedShare .entry s).grants (s.setShare (computedShare .entry s)) :=
    winchHandOver_of_locked fun hw => by
      have hrole : roleIs s .winch = true := (roleIs_congr (by simp) .winch).symm.trans hw
      simpa using h hrole
  have hshare : (lampHandOver (computedShare .entry s).grants (s.setShare (computedShare .entry s))).share =
      computedShare .entry s := by simp
  refine ⟨computedShare .entry s, ?_, rfl⟩
  unfold shareEnterRun shareCompute
  dsimp only
  rw [State.setShare_share, hhand, hshare]

/-! ### The demand builder's first publication (R76, R78) -/

theorem demandEnterRun_of_winch {s : State} (h : roleIs s .winch = true) : Changes [.dem] s (demandEnterRun s) := by
  have hdem (u : State) (x : DemandBuilder) : Changes [.dem] u (u.setDem x) := .of (by simp [allPieces, Piece.same])
  have hpublish (u : State) (hu : roleIs u .winch = true) : Changes [.dem] u (publishDemand u) := by
    obtain ⟨-, he⟩ | ⟨p, hp, -⟩ | ⟨p, hp, -⟩ := publishDemand_cases u
    · rw [he]; exact hdem u _
    · rw [ownPublisher_of_winch hu] at hp; exact absurd hp (by simp)
    · rw [ownPublisher_of_winch hu] at hp; exact absurd hp (by simp)
  unfold demandEnterRun
  split
  · exact (hdem s _).trans ((hdem _ _).trans (hpublish _ h))
  · exact .refl _ _

/-- A DEMAND of the station's own, before any other was heard, is no conflict and loses no record. -/
theorem demandArrives_log_of_own {s : State} {p : Publisher} (d : List Byte) (h : publisherAddress p = ownAddress s)
    (hrecord : s.latest.demand.band.inUse = false) : (demandArrives p d s).log = s.log := by
  have hlost (u : State) (after : Band) : noteDemandLost s.latest.demand.band after u = u := by
    simp [noteDemandLost, hrecord]
  have haccept (l : Latest) (hl : l.demand = s.latest.demand) : (acceptDemand p d (s.setLatest l)).log = s.log := by
    unfold acceptDemand
    dsimp only
    rw [State.setLatest_latest, hl, hlost, demandReact_changes _ _ .log (by decide)]
    split <;> rfl
  obtain ⟨-, he⟩ | ⟨-, he⟩ := demandArrives_cases p d s
  · rw [he, noteConflict_of_own h]
    exact haccept _ (by cases p <;> rfl)
  · rw [he, noteConflict_of_own h]
    rfl

end Sys2Proof.Machine
end

section
/-! The reaction to a DEMAND block by block (R83, R84, R88, R98, R99): what the staging and the refresh leave. -/

namespace Sys2Proof.Machine

/-! ### The bank and the mode (R84 to R90) -/

theorem splitEvaluate_of_not_rear {s : State} (h : roleIs s .rear = false) : splitEvaluate s = s := by
  simp [splitEvaluate, h]

/-- The finding of the check on REAR in RUN (R85). -/
theorem splitDiffers_eq {s : State} (hrear : roleIs s .rear = true) (hrun : inRun s = true) :
    splitDiffers s = banksDiffer s.peers.front s.steer.active := by
  simp [splitDiffers, banksDiffer, hrear, hrun, frontBank]

/-- The bank that a DEMAND taken stages, with the pending one (R84). -/
def stagedBank (s : State) : Nat × Option Nat :=
  stage s.latest.demand.bankRequest.toNat s.steer.active s.steer.pending s.latest.demand.steer.natAbs (centreBand s)

/-- The staging moves the bank, and on REAR a changed bank is an evaluation of the split check (R84). -/
theorem stageBank_cases {s : State} (hrun : inRun s = true) :
    ∃ timer split, stageBank s = s.setSteer { s.steer with
        active := (stagedBank s).1, pending := (stagedBank s).2, splitTimer := timer, split := split } ∧
      (roleIs s .rear = false ∨ (stagedBank s).1 = s.steer.active →
        split = s.steer.split ∧ timer = s.steer.splitTimer) ∧
      (roleIs s .rear = true → (stagedBank s).1 ≠ s.steer.active →
        splitAfter (banksDiffer s.peers.front (stagedBank s).1) s.steer { s.steer with
          active := (stagedBank s).1, pending := (stagedBank s).2, splitTimer := timer, split := split }) := by
  let t := s.setSteer { s.steer with active := (stagedBank s).1, pending := (stagedBank s).2 }
  have hstage : stageBank s = if (stagedBank s).1 = s.steer.active then t else splitEvaluate t := rfl
  by_cases hsame : (stagedBank s).1 = s.steer.active
  · refine ⟨s.steer.splitTimer, s.steer.split, ?_, fun _ => ⟨rfl, rfl⟩, fun _ h => absurd hsame h⟩
    rw [hstage, if_pos hsame]
  · cases hrear : roleIs s .rear
    · refine ⟨s.steer.splitTimer, s.steer.split, ?_, fun _ => ⟨rfl, rfl⟩, fun h => absurd h (by decide)⟩
      rw [hstage, if_neg hsame]
      exact splitEvaluate_of_not_rear (s := t) hrear
    · obtain ⟨timer, split, he, hafter⟩ := splitEvaluate_cases (s := t) hrear hrun
      rw [splitDiffers_eq (s := t) hrear hrun] at hafter
      refine ⟨timer, split, ?_, fun h => ?_, fun _ _ => hafter⟩
      · rw [hstage, if_neg hsame]
        exact he
      · obtain h | h := h
        · exact absurd h (by decide)
        · exact absurd h hsame

/-- Where the steering unit reacts: on an axle in RUN (R83). -/
theorem steerReact_eq (accepted : Bool) {s : State} (haxle : isAxle s = true) (hrun : inRun s = true) :
    steerReact accepted s = steerRefresh (if accepted && demandTaken s then stageBank s else s) :=
  if_pos (by simp [haxle, hrun])

theorem steerReact_of_not (accepted : Bool) {s : State} (h : ¬ (isAxle s = true ∧ inRun s = true)) :
    steerReact accepted s = s := if_neg (by simpa using h)

/-- A reaction keeps the servo output and the frame (R91, R92). -/
theorem steerReact_output (accepted : Bool) (s : State) :
    (steerReact accepted s).steer.srv = s.steer.srv ∧ (steerReact accepted s).steer.output = s.steer.output := by
  by_cases h : isAxle s = true ∧ inRun s = true
  · rw [steerReact_eq accepted h.1 h.2, steerRefresh_eq]
    split
    · obtain ⟨timer, split, he, -⟩ := stageBank_cases h.2
      rw [he]
      exact ⟨rfl, rfl⟩
    · exact ⟨rfl, rfl⟩
  · rw [steerReact_of_not accepted h]
    exact ⟨rfl, rfl⟩

theorem demandReact_output (accepted : Bool) (s : State) :
    (demandReact accepted s).steer.srv = s.steer.srv ∧ (demandReact accepted s).steer.output = s.steer.output := by
  have hsteer : (demandReact accepted s).steer = (steerReact accepted (evalConditions s)).steer := by simp [demandReact]
  have hold : (evalConditions s).steer = s.steer := by simp
  obtain ⟨hsrv, houtput⟩ := steerReact_output accepted (evalConditions s)
  rw [hsteer, hsrv, houtput, hold]
  exact ⟨rfl, rfl⟩

/-! ### An arrival (R16, R17, R19, R20) -/

/-- The Incident List at an acceptance: DEMAND-LOST where a record in use is lost in RUN by link code 2 (R17, log 37). -/
def acceptedLog (record : DemandRecord) (s : State) : IncidentLog :=
  if record.link ≠ 3 ∧ inRun s = true ∧ s.latest.demand.band.inUse = true ∧ record.band = .lost then
    s.log.append .demandLost 0
  else s.log

/-- The station with an accepted DEMAND in its record, before the blocks react to it. -/
def takenDemand (p : Publisher) (d : List Byte) (s : State) : State :=
  (s.setLatest { s.latest with demand := readDemand p d }).setLog (acceptedLog (readDemand p d) s)

theorem acceptDemand_eq (p : Publisher) (d : List Byte) (s : State) :
    acceptDemand p d s = demandReact true (takenDemand p d s) := by
  let t := s.setLatest { s.latest with demand := readDemand p d }
  have hrun : inRun t = inRun s := rfl
  have hself : t = t.setLog s.log := rfl
  have hnote : (if (readDemand p d).link = 3 then t
      else noteDemandLost s.latest.demand.band (readDemand p d).band t) = takenDemand p d s := by
    have hcond : (inRun t && s.latest.demand.band.inUse && (readDemand p d).band == .lost) = true ↔
        (inRun s = true ∧ s.latest.demand.band.inUse = true ∧ (readDemand p d).band = .lost) := by
      simp [hrun, and_assoc]
    unfold takenDemand acceptedLog noteDemandLost
    by_cases hlink : (readDemand p d).link = 3
    · rw [if_pos hlink, if_neg fun h => h.1 hlink]
      exact hself
    · rw [if_neg hlink]
      split
      · next h => rw [if_pos ⟨hlink, hcond.1 h⟩]; rfl
      · next h => rw [if_neg fun hp => h (hcond.2 hp.2)]; exact hself
  show demandReact true (if (readDemand p d).link = 3 then t
      else noteDemandLost s.latest.demand.band (readDemand p d).band t) = _
  rw [hnote]

/-- The station that hears a DEMAND of publisher `p`: the conflict noted, the DEMAND age taken (R19, R20). -/
def heardDemand (p : Publisher) (s : State) : State :=
  (noteConflict p s).setLatest (s.latest.putAge p (some 0))

/-- A DEMAND arrives: it is heard, and accepted where its publisher takes the source (R19). -/
theorem demandArrives_eq (p : Publisher) (d : List Byte) (s : State) : demandArrives p d s =
    if takesSource p s.latest.source then
      demandReact true (takenDemand p d ((heardDemand p s).setLatest { s.latest.putAge p (some 0) with source := some p }))
    else heardDemand p s := by
  obtain ⟨h, he⟩ | ⟨h, he⟩ := demandArrives_cases p d s
  · rw [he, acceptDemand_eq, if_pos h]
    rfl
  · rw [he, if_neg (by simp [h])]
    rfl

theorem heardDemand_changes (p : Publisher) (s : State) :
    Changes [.faults, .records, .port, .log] s (heardDemand p s) :=
  ((noteConflict_changes p s).mono (by decide)).trans (.of (by simp [allPieces, Piece.same, heardDemand]))

theorem takenDemand_changes (p : Publisher) (d : List Byte) (s : State) :
    Changes [.records, .log] s (takenDemand p d s) := .of (by simp [allPieces, Piece.same, takenDemand])

/-- A DEMAND that arrives keeps the ALLOWANCE record, the servo output and, off WINCH, the lamp unit's timers. -/
theorem demandArrives_kept (p : Publisher) (d : List Byte) (s : State) :
    (demandArrives p d s).latest.allowance = s.latest.allowance ∧ (demandArrives p d s).steer.srv = s.steer.srv ∧
      (demandArrives p d s).steer.output = s.steer.output ∧
      (roleIs s .winch = false → (demandArrives p d s).lamp.fadeTimer = s.lamp.fadeTimer) := by
  have hheard := heardDemand_changes p s
  rw [demandArrives_eq]
  split
  · generalize hu : takenDemand p d _ = u
    have hchange : Changes [.faults, .records, .port, .log] s u := by
      rw [← hu]
      refine (hheard.trans ?_).trans ((takenDemand_changes p d _).mono (by decide))
      exact .of (by simp [allPieces, Piece.same, heardDemand])
    have hallow : u.latest.allowance = s.latest.allowance := by rw [← hu]; simp [takenDemand]
    have hsteer : u.steer = s.steer := hchange .steer (by decide)
    obtain ⟨hsrv, houtput⟩ := demandReact_output true u
    refine ⟨by simpa using hallow, by rw [hsrv, hsteer], by rw [houtput, hsteer], fun hw => ?_⟩
    obtain ⟨-, -, hfade⟩ := demandReact_clock true ((roleIs_congr (hchange .mode (by decide)).1 .winch).trans hw)
    rw [hfade, hchange .lamp (by decide)]
  · have hsteer : (heardDemand p s).steer = s.steer := hheard .steer (by decide)
    exact ⟨by simp [heardDemand], by rw [hsteer], by rw [hsteer], fun _ => by rw [hheard .lamp (by decide)]⟩

end Sys2Proof.Machine
end

section
/-! Proof about RUN entry (R6): the controller, the blocks in use, the demand builder, the share unit; O6. -/

namespace Sys2Proof.Machine

/-! ### The blocks in use -/

/-- The blocks' part of RUN entry leaves the role and RUN, and the pieces of the controller's part. -/
theorem blocksEnterRun_role (s : State) (r : Role) : roleIs (blocksEnterRun s) r = roleIs s r :=
  roleIs_congr (blocksEnterRun_mode s).1 r

/-- The state that the bridge unit finds at RUN entry. -/
def beforeBridge (s : State) : State := steerEnterRun (queueStation (controllerEnterRun s))

theorem beforeBridge_changes (s : State) :
    Changes [.stationTimer, .port, .steer] (controllerEnterRun s) (beforeBridge s) :=
  ((queueStation_changes _).mono (by decide)).trans ((steerEnterRun_changes _).mono (by decide))

theorem beforeBridge_ctl (s : State) : (beforeBridge s).ctl = { s.ctl with
    station := .run, startTimer := none, failsafe := true, demandHold := false, isolated := s.port.isolation
    stationTimer := some 20 } := by
  have hctl (u : State) : (steerEnterRun u).ctl = u.ctl := by simp
  have hstation (u : State) : (queueStation u).ctl = { u.ctl with stationTimer := some 20 } := by simp [queueStation]
  unfold beforeBridge
  rw [hctl, hstation, controllerEnterRun_eq]

theorem afterBridge_changes (s : State) :
    Changes [.winchRecord, .port, .winch, .pack, .lamp] (bridgeEnterRun (beforeBridge s)) (blocksEnterRun s) := by
  refine Changes.trans ?_ ((lampsEnterRun_changes _).mono (by decide))
  refine Changes.trans ?_ ((packEnterRun_changes _).mono (by decide))
  exact (winchEnterRun_changes _).mono (by decide)

theorem blocksEnterRun_ctl (s : State) : (blocksEnterRun s).ctl = (beforeBridge s).ctl := by
  have hbridge := (bridgeEnterRun_changes (beforeBridge s)).eq
  have hafter := (afterBridge_changes s).eq
  rw [hafter]
  simp

/-- The bridge unit at RUN entry: under FAILSAFE it brakes at 100 %, with trip level 0 (R111). -/
theorem blocksEnterRun_bridge {s : State} (huse : bridgeInUse s = true) (htripped : s.bridge.tripped = false)
    (hlatched : s.bridge.latched = false) : (blocksEnterRun s).bridge.driveState = .brake ∧
      (blocksEnterRun s).bridge.brakeLevel = 100 ∧ (blocksEnterRun s).bridge.tripLevel = 0 := by
  have hbridge : (blocksEnterRun s).bridge = (bridgeEnterRun (beforeBridge s)).bridge :=
    afterBridge_changes s .bridge (by decide)
  have hold : (beforeBridge s).bridge = s.bridge := by
    rw [beforeBridge_changes s .bridge (by decide), controllerEnterRun_eq]
  have hctl := beforeBridge_ctl s
  have hrole (r : Role) : roleIs (beforeBridge s) r = roleIs s r := roleIs_congr (by rw [hctl]) r
  have haxle : isAxle (beforeBridge s) = isAxle s := by simp [isAxle, hrole]
  have hrun : inRun (beforeBridge s) = true := by simp [inRun, hctl]
  have hfailsafe : (beforeBridge s).ctl.failsafe = true := by rw [hctl]
  have henter : bridgeEnterRun (beforeBridge s) = selectDrive ((beforeBridge s).setBridge { s.bridge with
      periodTimer := true, d := 0, outDuty := 0, tripLevel := 0, pendingDig := none, dwellTimer := none
      pendingSign := none, rearmTimer := none, windowTimer := none, drivenTimer := none }) := by
    unfold bridgeEnterRun
    rw [hold, if_pos (by simpa [bridgeInUse, haxle, hrole] using huse)]
  rw [hbridge, henter]
  generalize hu : (beforeBridge s).setBridge _ = u
  have hru : inRun u = true := by rw [← hu]; exact hrun
  have hfu : u.ctl.failsafe = true := by rw [← hu]; exact hfailsafe
  have htu : u.bridge.tripped = false ∧ u.bridge.latched = false ∧ u.bridge.tripLevel = 0 := by
    rw [← hu]; exact ⟨htripped, hlatched, rfl⟩
  have hau : isAxle u = isAxle s := by rw [← hu]; exact haxle
  have hwu : roleIs u .winch = roleIs s .winch := by rw [← hu]; exact hrole .winch
  obtain ⟨ht, hl, hlevel⟩ := htu
  cases ha : isAxle s
  · have hw : roleIs s .winch = true := by simpa [bridgeInUse, ha] using huse
    rw [selectDrive_of_winch (hau.trans ha) (hwu.trans hw)]
    simp [chooseWinch, hru, hfu, ht, hl, applyChoice, writeShadow, rearmRule, hlevel]
  · rw [selectDrive_of_axle (hau.trans ha)]
    simp [chooseAxle, hru, hfu, ht, hl, applyChoice, writeShadow, rearmRule, hlevel]

/-- The first servo frame at RUN entry (R91), and the mode of R88. -/
theorem blocksEnterRun_steer {s : State} (h : isAxle s = true) : (blocksEnterRun s).steer.srv = true ∧
    (blocksEnterRun s).steer.output = servoCentre s ∧ (blocksEnterRun s).steer.mode = .centre := by
  have hsteer : (blocksEnterRun s).steer = (beforeBridge s).steer :=
    (afterBridge_changes s .steer (by decide)).trans (bridgeEnterRun_changes _ .steer (by decide))
  let u := queueStation (controllerEnterRun s)
  have hqueue := queueStation_changes (controllerEnterRun s)
  obtain ⟨hrole, -, hstation, hheld⟩ := hqueue .mode (by decide)
  have hrole : u.ctl.role = s.ctl.role := hrole.trans (by rw [controllerEnterRun_eq])
  have hstation : u.ctl.station = .run := hstation.trans (by rw [controllerEnterRun_eq])
  have hheld : u.ctl.held = s.ctl.held := hheld.trans (by rw [controllerEnterRun_eq])
  have hfailsafe : u.ctl.failsafe = true := (hqueue .conditions (by decide)).1.trans (by rw [controllerEnterRun_eq])
  have haxle : isAxle u = true := by
    have hrole' (r : Role) : roleIs u r = roleIs s r := roleIs_congr hrole r
    simpa [isAxle, hrole'] using h
  have hrun : inRun u = true := by simp [inRun, hstation]
  have hcentre : servoCentre u = servoCentre s := by simp [servoCentre, cfg_congr hheld]
  have hcheck (v : State) (hm : v.steer.mode = .centre) (hv : inRun v = true) (hf : v.ctl.failsafe = true) :
      (splitCheck v).steer.srv = v.steer.srv ∧ (splitCheck v).steer.output = v.steer.output ∧
        (splitCheck v).steer.mode = .centre := by
    unfold splitCheck
    split
    · next hrear =>
      obtain ⟨timer, split, he, -⟩ := splitEvaluate_cases (Bool.and_eq_true_iff.1 hrear).1 hv
      rw [steerRefresh_eq, he]
      refine ⟨rfl, rfl, ?_⟩
      have hv' : inRun (v.setSteer { v.steer with splitTimer := timer, split := split }) = true := hv
      simp [steerMode, hv', hf]
    · exact ⟨rfl, rfl, hm⟩
  let first : Steering := { u.steer with
    pending := none, splitTimer := none, output := servoCentre u, srv := true, frameTimer := some (framePeriod u)
    pulseTimer := some (servoCentre u) }
  have henter : beforeBridge s = splitCheck (steerRefresh (u.setSteer first)) := by
    unfold beforeBridge steerEnterRun
    exact if_pos haxle
  have hmode : steerMode (u.setSteer first) = .centre := by
    have hrun' : inRun (u.setSteer first) = true := hrun
    simp [steerMode, hrun', hfailsafe]
  have hkept : (steerRefresh (u.setSteer first)).steer.srv = true ∧
      (steerRefresh (u.setSteer first)).steer.output = servoCentre u := by
    rw [steerRefresh_eq]
    exact ⟨rfl, rfl⟩
  rw [hsteer, henter, ← hcentre]
  obtain ⟨hsrv, houtput, hfinal⟩ := hcheck (steerRefresh (u.setSteer first)) (by rw [steerRefresh_mode, hmode])
    (by rw [steerRefresh_eq]; exact hrun) (by rw [steerRefresh_eq]; exact hfailsafe)
  exact ⟨hsrv.trans hkept.1, houtput.trans hkept.2, hfinal⟩

/-- The winch controller at RUN entry: LOCKED (section 7.10). -/
theorem blocksEnterRun_winch {s : State} (h : roleIs s .winch = true) : (blocksEnterRun s).winch.state = .locked := by
  have hafter (u : State) : (lampsEnterRun (packEnterRun u)).winch = u.winch :=
    (lampsEnterRun_changes _ .winch (by decide)).trans (packEnterRun_changes u .winch (by decide))
  have hrole : roleIs (bridgeEnterRun (beforeBridge s)) .winch = true := by
    rw [roleIs_congr (s := s) (by rw [(bridgeEnterRun_changes _ .mode (by decide)).1, beforeBridge_ctl])]
    exact h
  show (lampsEnterRun (packEnterRun (winchEnterRun (bridgeEnterRun (beforeBridge s))))).winch.state = .locked
  rw [hafter, winchEnterRun, if_pos hrole, publishWinch_winch]
  rfl

/-- The CHECK timer starts on PACK (R29). -/
theorem blocksEnterRun_pack (s : State) : (blocksEnterRun s).pack =
    if roleIs s .pack then { s.pack with checkTimer := some 500 } else s.pack := by
  let u := winchEnterRun (bridgeEnterRun (beforeBridge s))
  have hu : Changes [.winchRecord, .stationTimer, .port, .steer, .bridge, .lamp, .winch] (controllerEnterRun s) u := by
    refine Changes.trans ?_ ((winchEnterRun_changes _).mono (by decide))
    refine Changes.trans ?_ ((bridgeEnterRun_changes _).mono (by decide))
    exact (beforeBridge_changes s).mono (by decide)
  have hpack : u.pack = s.pack := by rw [hu .pack (by decide), controllerEnterRun_eq]
  have hrole : roleIs u .pack = roleIs s .pack := by
    refine roleIs_congr ?_ _
    rw [(hu .mode (by decide)).1, controllerEnterRun_eq]
  have hlamps : (blocksEnterRun s).pack = (packEnterRun u).pack := lampsEnterRun_changes _ .pack (by decide)
  rw [hlamps, packEnterRun, hrole]
  split
  · rw [← hpack]; rfl
  · exact hpack

theorem lampsEnterRun_fade (s : State) : (lampsEnterRun s).lamp.fadeTimer = some 4 := rfl

/-- FAILSAFE in RUN is a hazard (R135). -/
theorem lampsEnterRun_hazard {s : State} (hrun : inRun s = true) (hfailsafe : s.ctl.failsafe = true) :
    (lampsEnterRun s).lamp.cues.hazard = true := by
  have hset (l : LampUnit) : (computeCues (s.setLamp l)).hazard = true := by
    have hrun' : inRun (s.setLamp l) = true := hrun
    simp [computeCues, hrun', ownHazard, hfailsafe]
  exact hset _

/-- The lamps at RUN entry: the fade timer starts, and the hazard cue shows FAILSAFE (R135, R145). -/
theorem blocksEnterRun_lamp (s : State) :
    (blocksEnterRun s).lamp.fadeTimer = some 4 ∧ (blocksEnterRun s).lamp.cues.hazard = true := by
  let v := packEnterRun (winchEnterRun (bridgeEnterRun (beforeBridge s)))
  have hlamps : blocksEnterRun s = lampsEnterRun v := rfl
  have hv : Changes [.winchRecord, .port, .winch, .bridge, .lamp, .pack] (beforeBridge s) v := by
    refine Changes.trans ?_ ((packEnterRun_changes _).mono (by decide))
    refine Changes.trans ?_ ((winchEnterRun_changes _).mono (by decide))
    exact (bridgeEnterRun_changes _).mono (by decide)
  obtain ⟨-, -, hstation, -⟩ := hv .mode (by decide)
  obtain ⟨hfailsafe, -⟩ := hv .conditions (by decide)
  rw [beforeBridge_ctl] at hstation hfailsafe
  rw [hlamps]
  exact ⟨lampsEnterRun_fade v, lampsEnterRun_hazard (by simp [inRun, hstation]) hfailsafe⟩

/-! ### The demand builder and the share unit -/

theorem publishDemand_dem (s : State) : ∃ history published, (publishDemand s).dem =
    { s.dem with history := history, published := published } := by
  obtain ⟨-, h⟩ | ⟨p, -, -, h⟩ | ⟨p, -, -, h⟩ := publishDemand_cases s
  · rw [h]; exact ⟨_, s.dem.published, rfl⟩
  · rw [h]; exact ⟨_, false, rfl⟩
  · rw [h, demandArrives_changes _ _ _ .dem (by decide), queueFrame_changes _ _ _ .dem (by decide)]
    exact ⟨_, true, rfl⟩

/-- The demand builder at RUN entry on a RADIO station: unarmed, the demand timer started (R76, R78). -/
theorem demandEnterRun_dem {s : State} (h : s.ctl.radio = true) :
    (demandEnterRun s).dem.demandTimer = some 20 ∧ (demandEnterRun s).dem.armed = false := by
  unfold demandEnterRun
  rw [if_pos h]
  obtain ⟨history, published, hd⟩ := publishDemand_dem (armingRule
    (s.setDem { s.dem with armed := false, armingTimer := none, demandTimer := some 20 }))
  rw [hd]
  exact ⟨rfl, rfl⟩

/-- The first publication moves nothing of the station that the statement of RUN entry names outside the demand builder. -/
theorem demandEnterRun_kept (s : State) :
    (demandEnterRun s).latest.allowance = s.latest.allowance ∧ (demandEnterRun s).lamp.fadeTimer = s.lamp.fadeTimer ∧
      (demandEnterRun s).steer.srv = s.steer.srv ∧ (demandEnterRun s).steer.output = s.steer.output := by
  cases hw : roleIs s .winch
  · have hkept := demandEnterRun_keeps (s := s) (inv := fun u => roleIs u .winch = false ∧
        u.latest.allowance = s.latest.allowance ∧ u.lamp.fadeTimer = s.lamp.fadeTimer ∧ u.steer.srv = s.steer.srv ∧
        u.steer.output = s.steer.output)
      (fun _ _ h => h)
      (fun d u ⟨hr, ha, hl, hv, ho⟩ => by
        have hq := queueFrame_changes .demand d u
        exact ⟨(roleIs_congr (hq .mode (by decide)).1 _).trans hr, by rw [(hq .records (by decide)).2.1]; exact ha,
          by rw [hq .lamp (by decide)]; exact hl, by rw [hq .steer (by decide)]; exact hv,
          by rw [hq .steer (by decide)]; exact ho⟩)
      (fun p d u ⟨hr, ha, hl, hv, ho⟩ => by
        obtain ⟨hallow, hsrv, houtput, hfade⟩ := demandArrives_kept p d u
        obtain ⟨hrole, -⟩ := demandArrives_changes p d u .mode (by decide)
        exact ⟨(roleIs_congr hrole _).trans hr, hallow.trans ha, (hfade hr).trans hl, hsrv.trans hv, houtput.trans ho⟩)
      ⟨hw, rfl, rfl, rfl, rfl⟩
    exact hkept.2
  · have hd := demandEnterRun_of_winch hw
    exact ⟨(hd .records (by decide)).2.1, by rw [hd .lamp (by decide)], by rw [hd .steer (by decide)],
      by rw [hd .steer (by decide)]⟩

/-- No incident but ISOLATED is recorded at RUN entry: the record that RUN starts with is not in use, and the station's
own DEMAND is no conflict. -/
theorem demandEnterRun_log {s : State} (h : s.latest.demand = {}) : (demandEnterRun s).log = s.log := by
  have hpublish (u : State) (hu : u.latest.demand = {}) : (publishDemand u).log = u.log := by
    obtain ⟨-, he⟩ | ⟨p, -, -, he⟩ | ⟨p, hp, -, he⟩ := publishDemand_cases u
    · rw [he]; rfl
    · rw [he]; rfl
    · let v := queueFrame .demand (demandData (advanceHistory u))
        ((advanceHistory u).setDem { (advanceHistory u).dem with published := true })
      have hv : Changes [.dem, .port] u v :=
        .trans (.of (by simp [allPieces, Piece.same, advanceHistory])) ((queueFrame_changes _ _ _).mono (by decide))
      have hown : publisherAddress p = ownAddress v :=
        (ownPublisher_address hp).trans (congrArg BitVec.toNat (hv .mode (by decide)).1).symm
      have hband : v.latest.demand.band.inUse = false := by rw [(hv .records (by decide)).1, hu]; rfl
      rw [he, demandArrives_log_of_own _ hown hband, hv .log (by decide)]
  unfold demandEnterRun
  split
  · exact hpublish _ h
  · rfl

/-! ### The station as RUN begins -/

/-- The winch is LOCKED at the first share computation. -/
theorem demandEnterRun_winch (s : State) (hw : roleIs (demandEnterRun (blocksEnterRun s)) .winch = true) :
    (demandEnterRun (blocksEnterRun s)).winch.state = .locked := by
  have hdemand := demandEnterRun_changes (blocksEnterRun s)
  have hw' : roleIs (blocksEnterRun s) .winch = true := (roleIs_congr (hdemand .mode (by decide)).1 _).symm.trans hw
  rw [demandEnterRun_of_winch hw' .winch (by decide)]
  exact blocksEnterRun_winch ((blocksEnterRun_role s .winch).symm.trans hw')

/-- The last reaction at RUN entry is the share unit's (R53). -/
theorem enterRun_shared (s : State) : ∃ x : Share, enterRun s =
    (lampHandOver x.grants ((demandEnterRun (blocksEnterRun s)).setShare x)).setShare { x with timer := some 20 } ∧
      x.cause = some .entry := by
  obtain ⟨x, hshare, hcause⟩ := shareEnterRun_of_locked (demandEnterRun_winch s)
  exact ⟨x, (enterRun_eq s).trans hshare, hcause⟩

/-- The fade timer at RUN entry (R138). -/
theorem enterRun_fade (s : State) : (enterRun s).lamp.fadeTimer = some 4 := by
  obtain ⟨x, hshare, -⟩ := enterRun_shared s
  obtain ⟨-, hfade, -, -⟩ := demandEnterRun_kept (blocksEnterRun s)
  obtain ⟨hlampFade, -⟩ := blocksEnterRun_lamp s
  obtain ⟨-, -, hclock⟩ := lampHandOver_clock x.grants ((demandEnterRun (blocksEnterRun s)).setShare x)
  rw [hshare, State.setShare_lamp, hclock, State.setShare_lamp, hfade, hlampFade]

/-- The records at RUN entry: the ALLOWANCE record stands (R16). -/
theorem enterRun_allowance (s : State) : (enterRun s).latest.allowance = s.latest.allowance := by
  obtain ⟨hallow, -⟩ := demandEnterRun_kept (blocksEnterRun s)
  rw [enterRun_eq, (shareEnterRun_changes (demandEnterRun (blocksEnterRun s)) .records (by decide)).2.1, hallow,
    (blocksEnterRun_changes s .records (by decide)).2.1, controllerEnterRun_eq]

theorem enterRun_stationTimer (s : State) : (enterRun s).ctl.stationTimer = some 20 := by
  rw [enterRun_eq, shareEnterRun_changes _ .stationTimer (by decide), demandEnterRun_changes _ .stationTimer (by decide),
    blocksEnterRun_ctl, beforeBridge_ctl]

/-- The first servo frame of an axle (R92). -/
theorem enterRun_servo {s : State} (haxle : isAxle s = true) :
    (enterRun s).steer.srv = true ∧ (enterRun s).steer.output = servoCentre s := by
  obtain ⟨-, -, hsrv, houtput⟩ := demandEnterRun_kept (blocksEnterRun s)
  obtain ⟨hblockSrv, hblockOutput, -⟩ := blocksEnterRun_steer haxle
  rw [enterRun_eq, shareEnterRun_changes _ .steer (by decide), hsrv, houtput]
  exact ⟨hblockSrv, hblockOutput⟩

/-- An isolated station records ISOLATED as RUN begins (R8). -/
theorem enterRun_isolated {s : State} (h : s.port.isolation = true) :
    ⟨.isolated, s.log.clock, 0⟩ ∈ (enterRun s).log.entries := by
  have hblocks := blocksEnterRun_changes s
  have hempty : (blocksEnterRun s).latest.demand = {} := by
    rw [(hblocks .records (by decide)).1, controllerEnterRun_eq]
  rw [enterRun_eq, shareEnterRun_changes _ .log (by decide), demandEnterRun_log hempty, hblocks .log (by decide),
    controllerEnterRun_eq]
  simp only [h, if_true]
  exact List.mem_of_getLast? (IncidentLog.append_last _ _ _)

/-- The demand builder of a RADIO station (R74, R78). -/
theorem enterRun_dem {s : State} (h : s.ctl.radio = true) :
    (enterRun s).dem.demandTimer = some 20 ∧ (enterRun s).dem.armed = false := by
  rw [enterRun_eq, shareEnterRun_changes _ .dem (by decide)]
  exact demandEnterRun_dem (by rw [blocksEnterRun_ctl, beforeBridge_ctl]; exact h)

/-- Without RADIO no DEMAND is published: the share unit alone reacts after the blocks. -/
theorem enterRun_of_not_radio {s : State} (h : s.ctl.radio = false) : ∃ x : Share, enterRun s =
    (lampHandOver x.grants ((blocksEnterRun s).setShare x)).setShare { x with timer := some 20 } := by
  obtain ⟨x, hshare, -⟩ := enterRun_shared s
  have hnone : demandEnterRun (blocksEnterRun s) = blocksEnterRun s := by
    unfold demandEnterRun
    rw [if_neg (by rw [blocksEnterRun_ctl, beforeBridge_ctl]; simp [h])]
  rw [hnone] at hshare
  exact ⟨x, hshare⟩

end Sys2Proof.Machine

open Sys2Proof Sys2Proof.Machine

/-- Settles O6: the controller's part, then each block's, and the first publication and the share unit, which leave them. -/
theorem runEntry : Obligations.RunEntry := by
  intro s hstart htimer
  have hexec : exec .startTimerExpiry s = .next (enterRun s) := by
    show live s startTimerExpired = _
    simp [live, startTimerExpired, hstart, htimer]
  have hall := enterRun_changes s
  obtain ⟨y, hshared, hcause⟩ := enterRun_shared s
  obtain ⟨-, -, hrun, -⟩ := enterRun_mode s
  refine ⟨enterRun s, hexec, hrun, ?startTimer, enterRun_stationTimer s, ?isolated, enterRun_allowance s, ?peers, ?cap,
    ?nvm, ?pins, enterRun_fade s, ?shareTimer, ?cause, enterRun_servo, fun h => ⟨_, enterRun_isolated h, rfl, rfl⟩,
    enterRun_dem, fun hradio => ?quiet⟩
  case startTimer => rw [hall .startTimer (by decide), controllerEnterRun_eq]
  case isolated => rw [hall .isolated (by decide), controllerEnterRun_eq]
  case peers => rw [hall .peers (by decide), controllerEnterRun_eq]
  case cap => rw [hall .cap (by decide), controllerEnterRun_eq]
  case nvm => rw [hall .nvm (by decide), controllerEnterRun_eq]
  case pins => rw [hall .pins (by decide), controllerEnterRun_eq]
  case shareTimer => rw [hshared]; rfl
  case cause => rw [hshared]; exact hcause
  case quiet =>
    obtain ⟨x, hx⟩ := enterRun_of_not_radio hradio
    have hblocks := blocksEnterRun_changes s
    have hctl : (enterRun s).ctl = (beforeBridge s).ctl := by rw [hx, ← blocksEnterRun_ctl]; simp
    have hlatest : (enterRun s).latest = (blocksEnterRun s).latest := by rw [hx]; simp
    rw [beforeBridge_ctl] at hctl
    refine ⟨by rw [hctl], by rw [hctl], ?_, ?_, ?_, ?_, ?_, fun huse htripped hlatched => ?_, fun haxle => ?_, fun hw => ?_⟩
    · rw [hlatest, (hblocks .records (by decide)).1, controllerEnterRun_eq]
    · obtain ⟨-, -, -, -, -, hsource⟩ := hblocks .records (by decide)
      rw [hlatest, hsource, controllerEnterRun_eq]
    · have hdem : (enterRun s).dem = (blocksEnterRun s).dem := by rw [hx]; simp
      rw [hdem, hblocks .dem (by decide), controllerEnterRun_eq]
    · rw [hx]
      exact (blocksEnterRun_lamp s).2
    · have hpack : (enterRun s).pack = (blocksEnterRun s).pack := by rw [hx]; simp
      rw [hpack]
      exact blocksEnterRun_pack s
    · have hbridge : (enterRun s).bridge = (blocksEnterRun s).bridge := by rw [hx]; simp
      rw [hbridge]
      exact blocksEnterRun_bridge huse htripped hlatched
    · have hsteer : (enterRun s).steer = (blocksEnterRun s).steer := by rw [hx]; simp
      rw [hsteer]
      exact (blocksEnterRun_steer haxle).2.2
    · have hwinch : (enterRun s).winch = (blocksEnterRun s).winch := by rw [hx]; simp
      rw [hwinch]
      exact blocksEnterRun_winch hw
end

section
/-! Proof about the STATION frame (R11, section 11.2): the bytes of the state, the faults and the cues; O7. -/

namespace Sys2Proof.Machine

/-! ### Bytes written flag by flag -/

/-- Bit 7 is the first flag, bit 0 the last. -/
theorem bitsByte_bits : ∀ b7 b6 b5 b4 b3 b2 b1 b0 : Bool,
    let x := bitsByte [b7, b6, b5, b4, b3, b2, b1, b0]
    x.getLsbD 7 = b7 ∧ x.getLsbD 6 = b6 ∧ x.getLsbD 5 = b5 ∧ x.getLsbD 4 = b4 ∧ x.getLsbD 3 = b3 ∧ x.getLsbD 2 = b2 ∧
      x.getLsbD 1 = b1 ∧ x.getLsbD 0 = b0 := by decide

/-- A state byte: the station state above the three conditions. -/
theorem stateBits : ∀ (code : BitVec 2) (failsafe hold isolated : Bool),
    let x : Byte := code ++ (bitsByte [failsafe, hold, isolated, false, false, false]).extractLsb' 0 6
    shownState x = code ∧ x.getLsbD 5 = failsafe ∧ x.getLsbD 4 = hold ∧ x.getLsbD 3 = isolated := by decide

/-- A bank number below 4 lies under the six cue flags. -/
theorem cueBits : ∀ (b7 b6 b5 b4 b3 b2 : Bool) (bank : Fin 4),
    let x := bitsByte [b7, b6, b5, b4, b3, b2, false, false] ||| natByte bank
    x.getLsbD 7 = b7 ∧ x.getLsbD 6 = b6 ∧ x.getLsbD 5 = b5 ∧ x.getLsbD 4 = b4 ∧ x.getLsbD 3 = b3 ∧ x.getLsbD 2 = b2 ∧
      (x.extractLsb' 0 2).toNat = bank := by decide

/-! ### The publication -/

/-- A STATION frame queued on a port that is ready (R11, R155, R160). -/
theorem queueStation_of_ready {s : State} (h : portReady s = true) : queueStation s = { s with
    ctl := { s.ctl with stationTimer := some 20 }
    port := afterQueue .station (stationData s) (ownAddress s) s.port } := by
  have hport : (queueStation s).port = afterQueue .station (stationData s) (ownAddress s) s.port :=
    queueFrame_port (s := s.setCtl { s.ctl with stationTimer := some 20 }) h .station (stationData s)
  have hctl : (queueStation s).ctl = { s.ctl with stationTimer := some 20 } := by simp [queueStation]
  have heq := (queueStation_changes s).eq
  rw [heq, hport, hctl]
  rfl

end Sys2Proof.Machine

open Sys2Proof Sys2Proof.Machine

/-- Settles O7: the queued bytes are those of the state, the fault set, the cue flags, the phase and the wants. -/
theorem stationPublished : Obligations.StationPublished := by
  intro s hlive htimer hready
  have hexec : exec .stationTimerExpiry s = .next (queueStation s) := by
    show live s stationTimerExpired = _
    simp [live, hlive, stationTimerExpired, htimer]
  obtain ⟨hshown, hfailsafe, hhold, hisolated⟩ :=
    stateBits s.ctl.station.code s.ctl.failsafe s.ctl.demandHold s.ctl.isolated
  obtain ⟨h7, h6, h5, h4, h3, h2, h1, h0⟩ := bitsByte_bits s.ctl.faults.bridgeTrip s.ctl.faults.bridgeLatched
    s.ctl.faults.winchStall s.ctl.faults.bankSplit s.ctl.faults.demandConflict s.ctl.faults.sensor
    s.ctl.faults.settingsDefaulted s.ctl.faults.packFault
  obtain ⟨c7, c6, c5, c4, c3, c2, hbank⟩ := cueBits (brakingFlag s) (reversingFlag s) (workingFlag s)
    s.lamp.cues.hazardRequest (digLockedFlag s) (bridgeOffFlag s) ⟨publishedBank s % 4, Nat.mod_lt _ (by decide)⟩
  have hpublished : publishedBank s % 4 = if isAxle s then s.steer.active % 4 else 0 := by
    unfold publishedBank
    split <;> rfl
  exact ⟨queueStation s, stationData s, hexec, queueStation_of_ready hready, rfl, hshown, hfailsafe, hhold, hisolated,
    h7, h6, h5, h4, h3, h2, h1, h0, c7, c6, c5, c4, c3, c2, hbank.trans hpublished, rfl, rfl, rfl, rfl, rfl⟩
end

section
/-! Proof about a STATION frame taken in (R13, R85, R88, R133 to R138): the peer's entry, the cues and base targets, the
blink alignment, the split check; O8. -/

namespace Sys2Proof.Machine

/-! ### An echo after a delivery that leaves the port -/

/-- A delivery that leaves the port and the station state is followed by the echo (R153, R155). -/
theorem endEcho_of_port {s u : State} (span : Nat) (hlive : s.ctl.station ≠ .halt)
    (hstation : u.ctl.station = s.ctl.station) (hport : u.port = (beginReceive span s).port) :
    endEcho span u = u.setPort (afterEcho span s.port) := by
  rw [endEcho_of_not_halt span (by rw [hstation]; exact hlive), hport]
  rfl

/-! ### The cues (R133 to R135) -/

theorem peerShows_iff (s : State) (r : Role) (bit : Nat) : peerShows s r bit = true ↔
    roleIs s r = false ∧ (s.peers.at r).heard = true ∧ (s.peers.at r).cues.getLsbD bit = true := by
  cases h : roleIs s r <;> simp [peerShows, peerOf, h]

theorem peerLost_iff (s : State) (r : Role) :
    peerLost s r = true ↔ roleIs s r = false ∧ (s.peers.at r).presence = .lost := by
  cases h : roleIs s r <;> simp [peerLost, peerOf, h]

theorem peerHazard_iff (s : State) : peerHazard s = true ↔ ∃ q,
    (roleIs s q = false ∧ (s.peers.at q).heard = true ∧ (s.peers.at q).cues.getLsbD 4 = true) ∨
      (roleIs s q = false ∧ (s.peers.at q).heard = true ∧ (s.peers.at q).stateByte.getLsbD 5 = true) := by
  have hone (q : Role) : ((peerOf s q).any fun p => p.heard && (p.stateByte.getLsbD 5 || p.cues.getLsbD 4)) = true ↔
      (roleIs s q = false ∧ (s.peers.at q).heard = true ∧ (s.peers.at q).cues.getLsbD 4 = true) ∨
        (roleIs s q = false ∧ (s.peers.at q).heard = true ∧ (s.peers.at q).stateByte.getLsbD 5 = true) := by
    cases h : roleIs s q
    · simp [peerOf, h]
      tauto
    · simp [peerOf, h]
  have hall (q : Role) : q ∈ allRoles := by cases q <;> decide
  simp only [peerHazard, List.any_eq_true, hone]
  refine ⟨?_, fun ⟨q, h⟩ => ⟨q, hall q, h⟩⟩
  rintro ⟨q, -, h⟩
  exact ⟨q, h⟩

theorem computeCues_hazard_iff (s : State) : (computeCues s).hazard = true ↔ s.ctl.station = .run ∧
    (s.ctl.failsafe = true ∨ (roleIs s .front = false ∧ s.peers.front.presence = .lost) ∨
      (roleIs s .rear = false ∧ s.peers.rear.presence = .lost) ∨
      (s.latest.allowance.band = .fresh ∧ 3 ≤ s.latest.allowance.packState.toNat) ∨
      s.latest.allowance.band = .none ∨ s.latest.allowance.band = .lost ∨ ∃ q,
        (roleIs s q = false ∧ (s.peers.at q).heard = true ∧ (s.peers.at q).cues.getLsbD 4 = true) ∨
          (roleIs s q = false ∧ (s.peers.at q).heard = true ∧ (s.peers.at q).stateByte.getLsbD 5 = true)) := by
  have hown : ownHazard s = true ↔ s.ctl.failsafe = true ∨ (roleIs s .front = false ∧ s.peers.front.presence = .lost) ∨
      (roleIs s .rear = false ∧ s.peers.rear.presence = .lost) ∨
      (s.latest.allowance.band = .fresh ∧ 3 ≤ s.latest.allowance.packState.toNat) ∨
      s.latest.allowance.band = .none ∨ s.latest.allowance.band = .lost := by
    simp only [ownHazard, allowanceShows, Bool.or_eq_true, peerLost_iff, Bool.and_eq_true, beq_iff_eq, decide_eq_true_eq,
      Peers.at, or_assoc]
  rw [← peerHazard_iff]
  simp only [computeCues, Bool.and_eq_true, Bool.or_eq_true, hown, inRun, beq_iff_eq, or_assoc]

/-- The base targets by function (R136). -/
theorem baseTarget_eq (c : Cues) (f : Nat) : baseTarget c f =
    let dark : Bool := c.scene == .dark
    let full : Bool := c.scene == .full
    if f = 1 then (if dark then 0 else if full then 255 else 160)
    else if f = 2 then (if full then 255 else 0)
    else if f = 3 then (if dark then 0 else 64)
    else if f = 4 then (if c.braking then 255 else if dark then 0 else 64)
    else if f = 5 then (if c.braking then 255 else 0)
    else if f = 6 then (if c.reversing then 255 else 0)
    else if f = 7 then (if c.left || c.hazard then 255 else 0)
    else if f = 8 then (if c.right || c.hazard then 255 else 0)
    else if f = 9 then (if dark then 0 else if full then 200 else 96)
    else if f = 10 then (if c.winchWorking then 255 else 0)
    else if f = 11 then (if c.winchWorking || c.hazard then 255 else 0) else 0 := by
  cases h : c.scene
  all_goals
    simp only [baseTarget, h]
    split
    case h_12 _ h1 h2 h3 h4 h5 h6 h7 h8 h9 h10 h11 =>
      rw [if_neg h1, if_neg h2, if_neg h3, if_neg h4, if_neg h5, if_neg h6, if_neg h7, if_neg h8, if_neg h9, if_neg h10,
        if_neg h11]
    all_goals rfl

/-! ### The blink alignment (R138) -/

/-- The first of a list in ascending order that satisfies a test: the lowest that does. -/
theorem find?_eq_some_of_ascending {α : Type} (f : α → Nat) (test : α → Bool) : ∀ l : List α,
    l.Pairwise (fun a b => f a < f b) → ∀ r ∈ l,
      (l.find? test = some r ↔ test r = true ∧ ∀ q ∈ l, f q < f r → test q = false)
  | [], _, r, hr => absurd hr List.not_mem_nil
  | a :: rest, hsorted, r, hr => by
    obtain ⟨hfirst, hrest⟩ := List.pairwise_cons.1 hsorted
    have ih := find?_eq_some_of_ascending f test rest hrest
    cases ha : test a
    · rw [List.find?_cons_of_neg (by simp [ha])]
      obtain rfl | hmem := List.mem_cons.1 hr
      · refine ⟨fun h => ?_, fun h => absurd h.1 (by simp [ha])⟩
        exact absurd (List.find?_some h) (by simp [ha])
      · rw [ih r hmem]
        simp [ha]
    · rw [List.find?_cons_of_pos ha]
      refine ⟨fun h => ?_, fun h => ?_⟩
      · obtain rfl := Option.some.inj h
        refine ⟨ha, fun q hq hlt => ?_⟩
        obtain rfl | hmem := List.mem_cons.1 hq
        · omega
        · have := hfirst q hmem; omega
      · obtain rfl | hmem := List.mem_cons.1 hr
        · rfl
        · exact absurd (h.2 a List.mem_cons_self (hfirst r hmem)) (by simp [ha])

/-- The leader is the lowest LIVE peer below the own address. -/
theorem blinkLeader_iff (s : State) (r : Role) : blinkLeader s = some r ↔
    (roleAddress r < ownAddress s ∧ (s.peers.at r).presence = .live) ∧
      ∀ q, roleAddress q < roleAddress r → (s.peers.at q).presence ≠ .live := by
  have hall (q : Role) : q ∈ allRoles := by cases q <;> decide
  unfold blinkLeader
  rw [find?_eq_some_of_ascending roleAddress _ allRoles (by decide) r (hall r)]
  simp only [Bool.and_eq_true, decide_eq_true_eq, beq_iff_eq, Bool.and_eq_false_iff, decide_eq_false_iff_not,
    beq_eq_false_iff_ne, hall, forall_const]
  refine and_congr_right fun ⟨hlow, _⟩ => forall_congr' fun q => forall_congr' fun hq => ?_
  exact or_iff_right (not_not.2 (hq.trans hlow))

theorem setPhase_base (phase : Nat) (s : State) {n : Nat} (h : n < 8) :
    (lampAt (setPhase phase s) n).base = (lampAt s n).base := by
  unfold setPhase
  dsimp only
  split
  · rfl
  · rw [lampAt_tab (s := refreshEffective _) (f := fun n => { lampAt (s.setLamp { s.lamp with phase := phase }) n with
      effective := effectiveTarget (s.setLamp { s.lamp with phase := phase }) n
        (lampAt (s.setLamp { s.lamp with phase := phase }) n).base
        (lampAt (s.setLamp { s.lamp with phase := phase }) n).shed }) rfl, if_pos h]
    rfl

theorem setPhase_lamp (phase : Nat) (s : State) :
    (setPhase phase s).lamp.phase = phase ∧ (setPhase phase s).lamp.cues = s.lamp.cues := by
  unfold setPhase
  dsimp only
  split <;> exact ⟨rfl, rfl⟩

/-- The alignment at a STATION of `r`: the phase follows the leader from a distance of 3 on. -/
theorem alignBlink_phase (r : Role) (s : State) : (alignBlink r s).lamp.phase =
    if blinkLeader s = some r ∧ 3 ≤ phaseDistance (((s.peers.at r).phase.toNat + 1) % 256) s.lamp.phase then
      ((s.peers.at r).phase.toNat + 1) % 256
    else s.lamp.phase := by
  unfold alignBlink
  dsimp only
  by_cases hlead : blinkLeader s = some r
  · by_cases hfar : 3 ≤ phaseDistance (((s.peers.at r).phase.toNat + 1) % 256) s.lamp.phase
    · rw [if_pos hlead, if_pos hfar, if_pos ⟨hlead, hfar⟩]
      exact (setPhase_lamp _ s).1
    · rw [if_pos hlead, if_neg hfar, if_neg fun h => hfar h.2]
  · rw [if_neg hlead, if_neg fun h => hlead h.1]

/-- The alignment moves the phase and what is dark or lit by it, no cue and no base target. -/
theorem alignBlink_kept (r : Role) (s : State) : (alignBlink r s).lamp.cues = s.lamp.cues ∧
    ∀ n, n < 8 → (lampAt (alignBlink r s) n).base = (lampAt s n).base := by
  unfold alignBlink
  dsimp only
  split_ifs
  · exact ⟨(setPhase_lamp _ s).2, fun n hn => setPhase_base _ s hn⟩
  · exact ⟨rfl, fun _ _ => rfl⟩
  · exact ⟨rfl, fun _ _ => rfl⟩

/-! ### The split check (R85, R86, R88) -/

/-- What an evaluation of the split check leaves on REAR in RUN (R86, R88 to R90). -/
theorem splitCheck_spec {s : State} (hrear : roleIs s .rear = true) (hrun : inRun s = true) :
    let x := (splitCheck s).steer
    x = { s.steer with split := x.split, splitTimer := x.splitTimer, mode := x.mode, target := x.target, shadow := x.shadow } ∧
      splitAfter (banksDiffer s.peers.front s.steer.active) s.steer x ∧
      x.mode = (if s.ctl.failsafe then .centre else if x.split then .split else .follow) ∧
      (x.mode ≠ .follow → x.target = 0 ∧ x.shadow = servoCentre s) ∧
      (x.mode = .follow → x.shadow = servoWidth s x.target ∧
        x.target = Int.tdiv (s.latest.demand.steer * bankFactor s s.steer.active) 1000) := by
  obtain ⟨timer, split, he, hafter⟩ := splitEvaluate_cases hrear hrun
  rw [splitDiffers_eq hrear hrun] at hafter
  let a := s.setSteer { s.steer with splitTimer := timer, split := split }
  have hcheck : splitCheck s = steerRefresh a := by
    unfold splitCheck
    rw [if_pos (by simp [hrear, hrun]), he]
  obtain ⟨hframe, hmode, hnot, hfollow⟩ := steerRefresh_spec (s := a) hrun
  rw [hcheck]
  generalize (steerRefresh a).steer = x at hframe hmode hnot hfollow ⊢
  have hsplit : x.split = split ∧ x.splitTimer = timer := by rw [hframe]; exact ⟨rfl, rfl⟩
  obtain ⟨rfl, rfl⟩ := hsplit
  exact ⟨hframe, hafter, hmode, hnot, hfollow⟩

theorem splitCheck_changes (s : State) : Changes [.steer] s (splitCheck s) :=
  .of (by simp [allPieces, Piece.same])

theorem splitCheck_of_not {s : State} (h : ¬ (roleIs s .rear = true ∧ inRun s = true)) : splitCheck s = s :=
  if_neg (by simpa using h)

section
variable {s t : State} (h : t.ctl.held = s.ctl.held)
include h

theorem servoCentre_congr : servoCentre t = servoCentre s := by simp [servoCentre, cfg_congr h]

theorem servoWidth_congr (x : Int) : servoWidth t x = servoWidth s x := by
  unfold servoWidth servoCentre servoThrow servoMin servoMax servoReverse
  rw [cfg_congr h]

end

theorem bankFactor_congr {s t : State} (h : t.ctl.held = s.ctl.held) (hrole : t.ctl.role = s.ctl.role) (n : Nat) :
    bankFactor t n = bankFactor s n := by
  simp [bankFactor, cfg_congr h, roleIs_congr hrole]

/-! ### The delivery -/

/-- The station as a STATION frame of `r` leaves its peers, before anything is evaluated. -/
def heardStation (r : Role) (d : List Byte) (s : State) : State := s.setPeers (s.peers.put r (readStation d))

/-- The station after the cues and the alignment. -/
def cuedStation (r : Role) (d : List Byte) (s : State) : State := alignBlink r (evalCues (heardStation r d s))

theorem deliverStation_eq {source : BitVec 4} {r : Role} (h : sourceRole source = some r) (d : List Byte) (s : State) :
    deliverStation source d s =
      if roleIs s .rear && r == .front then splitCheck (cuedStation r d s) else cuedStation r d s := by
  simp only [deliverStation, h]
  rfl

theorem deliverStation_of_none {source : BitVec 4} (h : sourceRole source = none) (d : List Byte) (s : State) :
    deliverStation source d s = s := by simp [deliverStation, h]

theorem cuedStation_changes (r : Role) (d : List Byte) (s : State) :
    Changes [.lamp] (heardStation r d s) (cuedStation r d s) :=
  (evalCues_changes _).trans (alignBlink_changes r _)

theorem cuedStation_cues (r : Role) (d : List Byte) (s : State) :
    (cuedStation r d s).lamp.cues = computeCues (heardStation r d s) := (alignBlink_kept r _).1

theorem cuedStation_base (r : Role) (d : List Byte) (s : State) {n : Nat} (h : n < 8) :
    (lampAt (cuedStation r d s) n).base = baseTarget (computeCues (heardStation r d s)) (functionOf s n) :=
  ((alignBlink_kept r _).2 n h).trans (evalCues_base _ h)

/-- The phase follows the STATION of the blink leader (R138). -/
theorem cuedStation_phase (r : Role) (d : List Byte) (s : State) :
    let expected := ((byteAt d 3).toNat + 1) % 256
    let leads := roleAddress r < ownAddress s ∧ ∀ q, roleAddress q < roleAddress r → (s.peers.at q).presence ≠ .live
    (leads → 3 ≤ phaseDistance expected s.lamp.phase → (cuedStation r d s).lamp.phase = expected) ∧
      (¬ leads ∨ phaseDistance expected s.lamp.phase < 3 → (cuedStation r d s).lamp.phase = s.lamp.phase) := by
  let v := evalCues (heardStation r d s)
  have hpeers : v.peers = s.peers.put r (readStation d) := by simp [v, heardStation]
  have hphase : v.lamp.phase = s.lamp.phase := (evalCues_clock (heardStation r d s)).1
  have hown : ownAddress v = ownAddress s := by simp [v, heardStation, ownAddress]
  have hsender : (v.peers.at r).phase = byteAt d 3 ∧ (v.peers.at r).presence = .live := by
    rw [hpeers, Peers.at_put_self]
    exact ⟨rfl, rfl⟩
  have hlead : blinkLeader v = some r ↔
      roleAddress r < ownAddress s ∧ ∀ q, roleAddress q < roleAddress r → (s.peers.at q).presence ≠ .live := by
    have hother (q : Role) (hq : roleAddress q < roleAddress r) : (v.peers.at q) = s.peers.at q := by
      rw [hpeers]
      exact Peers.at_put_of_ne _ _ fun h => absurd hq (by simp [h])
    rw [blinkLeader_iff, hown]
    refine ⟨fun ⟨⟨hlow, _⟩, hq⟩ => ⟨hlow, fun q hlt => ?_⟩, fun ⟨hlow, hq⟩ => ⟨⟨hlow, hsender.2⟩, fun q hlt => ?_⟩⟩
    · rw [← hother q hlt]; exact hq q hlt
    · rw [hother q hlt]; exact hq q hlt
  have hmoved : (cuedStation r d s).lamp.phase = _ := alignBlink_phase r v
  rw [hsender.1, hphase] at hmoved
  refine ⟨fun h hfar => ?_, fun h => ?_⟩
  · rw [hmoved, if_pos ⟨hlead.2 h, hfar⟩]
  · rw [hmoved, if_neg]
    rintro ⟨h1, h2⟩
    obtain h | h := h
    · exact h (hlead.1 h1)
    · omega

end Sys2Proof.Machine

open Sys2Proof Sys2Proof.Machine

/-- Settles O8: the entry is written, the cues, base targets and phase follow it, and on REAR a STATION of FRONT is an
evaluation of the split check. -/
theorem stationFrameFillsPeer : Obligations.StationFrameFillsPeer := by
  intro s rx d htakes hlength
  have hlive := station_ne_halt_of_takesFrame htakes
  let a := beginReceive rx.span s
  let u := deliverStation rx.source d a
  have hallowed : lengthAllowed 0x61 d.length = true := by rw [hlength]; rfl
  have hdelivered : Changes [.peers, .steer, .lamp] a u := deliverStation_changes rx.source d a
  obtain ⟨-, -, hstation, -⟩ := hdelivered .mode (by decide)
  have hecho : endEcho rx.span u = u.setPort (afterEcho rx.span s.port) :=
    endEcho_of_port rx.span hlive hstation (hdelivered .port (by decide))
  have hexec : exec (.stationFrame rx d) s = .next (u.setPort (afterEcho rx.span s.port)) := by
    show Host.Outcome.next (frameArrives 0x61 rx d deliverStation s) = _
    rw [frameArrives_of_takesFrame _ htakes hallowed, hecho]
  refine ⟨_, hexec, rfl, fun r hr => ?_, fun hnone => ?_⟩
  · have hu : u = if roleIs s .rear && r == .front then splitCheck (cuedStation r d a) else cuedStation r d a :=
      deliverStation_eq hr d a
    have hcheck : Changes [.steer] (cuedStation r d a) u := by
      rw [hu]
      split
      · exact splitCheck_changes _
      · exact .refl _ _
    have hpeers : u.peers = s.peers.put r (readStation d) := by
      rw [hcheck .peers (by decide), cuedStation_changes r d a .peers (by decide)]
      rfl
    have hlamp : u.lamp = (cuedStation r d a).lamp := hcheck .lamp (by decide)
    have hcued : Changes [.peers, .lamp] a (cuedStation r d a) :=
      .trans (.of (by simp [allPieces, Piece.same, heardStation])) ((cuedStation_changes r d a).mono (by decide))
    have hcuedRun : inRun (cuedStation r d a) = true ↔ s.ctl.station = .run := by
      rw [inRun_congr (hcued .mode (by decide)).2.2.1]
      exact beq_iff_eq
    refine ⟨?frame, hpeers, fun hnot => ?same, fun hrear hrun hfront => ?split, ?cues, ?phase⟩
    case frame =>
      have hport (x : State) (p : BusPort) : Changes [.port] x (x.setPort p) := .of (by simp [allPieces, Piece.same])
      exact ((((hport s _).mono (by decide : _ ⊆ [.peers, .port, .steer, .lamp])).trans
        (hdelivered.mono (by decide))).trans ((hport u _).mono (by decide))).eq
    case same =>
      show u.steer = s.steer
      have hunchecked : u = cuedStation r d a := by
        rw [hu]
        split
        · next h =>
          obtain ⟨hrear, hfront⟩ := Bool.and_eq_true_iff.1 h
          exact splitCheck_of_not fun hboth => hnot ⟨hrear, hcuedRun.1 hboth.2, beq_iff_eq.1 hfront⟩
        · rfl
      rw [hunchecked, hcued .steer (by decide)]
      rfl
    case split =>
      have hw : roleIs (cuedStation r d a) .rear = true := (roleIs_congr (hcued .mode (by decide)).1 .rear).trans hrear
      have hchecked : u = splitCheck (cuedStation r d a) := by
        rw [hu, if_pos (by simp [hrear, hfront])]
      have hsteer : (cuedStation r d a).steer = s.steer := hcued .steer (by decide)
      have hfrontEntry : (cuedStation r d a).peers.front = readStation d := by
        rw [cuedStation_changes r d a .peers (by decide), hfront]
        rfl
      obtain ⟨hframe, hafter, hmode, hnot, hfollow⟩ := splitCheck_spec hw (hcuedRun.2 hrun)
      have hheld : (cuedStation r d a).ctl.held = s.ctl.held := (hcued .mode (by decide)).2.2.2
      have hdemand : (cuedStation r d a).latest.demand = s.latest.demand := (hcued .records (by decide)).1
      rw [hfrontEntry] at hafter
      rw [← hchecked, hsteer] at hframe hafter
      rw [← hchecked, (hcued .conditions (by decide)).1] at hmode
      rw [← hchecked, servoCentre_congr hheld] at hnot
      rw [← hchecked, servoWidth_congr hheld, hdemand, hsteer, bankFactor_congr hheld (hcued .mode (by decide)).1] at hfollow
      exact ⟨hframe, hafter, hmode, hnot, hfollow⟩
    case cues =>
      let v := heardStation r d a
      have hcues : (u.setPort (afterEcho rx.span s.port)).lamp.cues = computeCues v := by
        show u.lamp.cues = _
        rw [hlamp, cuedStation_cues]
      have hshown (q : Role) (bit : Nat) : peerShows v q bit = true ↔
          (roleIs s q = false ∧ (u.peers.at q).heard = true ∧ (u.peers.at q).cues.getLsbD bit = true) := by
        rw [hpeers]
        exact peerShows_iff v q bit
      have hbraking : brakingFlag v = brakingFlag s := rfl
      have hreversing : reversingFlag v = reversingFlag s := rfl
      have hworking : workingFlag v = workingFlag s := rfl
      rw [hcues]
      refine ⟨?_, ?_, ?_, ?_, fun n hn => ?_⟩
      · simp only [computeCues, Bool.or_eq_true, hshown, hbraking, or_assoc, State.setPort_peers]
      · simp only [computeCues, Bool.or_eq_true, hshown, hreversing, or_assoc, State.setPort_peers]
      · simp only [computeCues, Bool.or_eq_true, hshown, hworking, State.setPort_peers]
      · rw [computeCues_hazard_iff]
        simp only [State.setPort_peers, hpeers]
        rfl
      · have hbase : (lampAt (u.setPort (afterEcho rx.span s.port)) n).base = (lampAt (cuedStation r d a) n).base := by
          show (u.lamp.lamps.getD n {}).base = _
          rw [hlamp]
          rfl
        rw [hbase, cuedStation_base r d a hn]
        exact baseTarget_eq (computeCues v) (functionOf s n)
    case phase =>
      show _ ∧ _
      rw [show (u.setPort (afterEcho rx.span s.port)).lamp = (cuedStation r d a).lamp from hlamp]
      exact cuedStation_phase r d a
  · have hu : u = a := deliverStation_of_none hnone d a
    rw [hu]
    rfl
end

section
/-! The motors' reactions said on what they read: two stations that agree on the controller, the records, the pins, the
share unit, the bridge unit and the winch controller move the motors alike (R98 to R101, R112, R117 to R126). -/

namespace Sys2Proof.Machine

/-- `w` agrees with `u` on all that the motors' reactions read. -/
def MotorsAgree (u w : State) : Prop :=
  w.pins = u.pins ∧ w.ctl = u.ctl ∧ w.share = u.share ∧ w.latest.demand = u.latest.demand ∧
    w.latest.allowance = u.latest.allowance ∧ w.bridge = u.bridge ∧ w.winch = u.winch

namespace MotorsAgree

variable {u w : State} (h : MotorsAgree u w)
include h

theorem eq : w = { w with
    pins := u.pins, ctl := u.ctl, share := u.share, bridge := u.bridge, winch := u.winch
    latest := { w.latest with demand := u.latest.demand, allowance := u.latest.allowance } } := by
  obtain ⟨hpins, hctl, hshare, hdemand, hallowance, hbridge, hwinch⟩ := h
  rw [← hpins, ← hctl, ← hshare, ← hdemand, ← hallowance, ← hbridge, ← hwinch]

theorem bridge : w.bridge = u.bridge := h.2.2.2.2.2.1

theorem winch : w.winch = u.winch := h.2.2.2.2.2.2

theorem setBridge (x : Bridge) : MotorsAgree (u.setBridge x) (w.setBridge x) := by
  obtain ⟨hpins, hctl, hshare, hdemand, hallowance, -, hwinch⟩ := h
  exact ⟨hpins, hctl, hshare, hdemand, hallowance, rfl, hwinch⟩

theorem setWinch (x : Winch) : MotorsAgree (u.setWinch x) (w.setWinch x) := by
  obtain ⟨hpins, hctl, hshare, hdemand, hallowance, hbridge, -⟩ := h
  exact ⟨hpins, hctl, hshare, hdemand, hallowance, hbridge, rfl⟩

theorem isAxle : isAxle w = isAxle u := by rw [h.eq]; rfl

theorem roleIs (r : Role) : roleIs w r = roleIs u r := by rw [h.eq]; rfl

theorem inRun : inRun w = inRun u := by rw [h.eq]; rfl

/-- A change of the motors and of pieces that they do not read, on both sides, to the same motors. -/
theorem of_moved {u' w' : State} (hu : Changes [.winchRecord, .port, .bridge, .winch, .lamp] u u')
    (hw : Changes [.winchRecord, .port, .bridge, .winch, .lamp] w w') (hbridge : w'.bridge = u'.bridge)
    (hwinch : w'.winch = u'.winch) : MotorsAgree u' w' := by
  obtain ⟨hpins, hctl, hshare, hdemand, hallowance, -, -⟩ := h
  have hctl' {x y : State} (hxy : Changes [.winchRecord, .port, .bridge, .winch, .lamp] x y) : y.ctl = x.ctl := by
    rw [hxy.eq]
    rfl
  obtain ⟨hud, hua, -⟩ := hu .records (by decide)
  obtain ⟨hwd, hwa, -⟩ := hw .records (by decide)
  refine ⟨(hw .pins (by decide)).trans (hpins.trans (hu .pins (by decide)).symm),
    (hctl' hw).trans (hctl.trans (hctl' hu).symm),
    (hw .share (by decide)).trans (hshare.trans (hu .share (by decide)).symm), hwd.trans (hdemand.trans hud.symm),
    hwa.trans (hallowance.trans hua.symm), hbridge, hwinch⟩

theorem selectDrive : MotorsAgree (selectDrive u) (selectDrive w) := by
  have haxle := h.isAxle
  have hrole := h.roleIs .winch
  have hrun := h.inRun
  refine h.of_moved ((selectDrive_changes u).mono (by decide)) ((selectDrive_changes w).mono (by decide)) ?_ (by simp [h.winch])
  cases ha : Machine.isAxle u
  · cases hw : Machine.roleIs u .winch
    · have hnone (v : State) (hva : Machine.isAxle v = false) (hvw : Machine.roleIs v .winch = false) :
          Machine.selectDrive v = v := by simp [Machine.selectDrive, hva, hvw]
      rw [hnone u ha hw, hnone w (haxle.trans ha) (hrole.trans hw)]
      exact h.bridge
    · rw [selectDrive_of_winch ha hw, selectDrive_of_winch (haxle.trans ha) (hrole.trans hw), h.eq]
      rfl
  · rw [selectDrive_of_axle ha, selectDrive_of_axle (haxle.trans ha), h.eq]
    rfl

/-- A cue event moves the lamps alone. -/
theorem cueEvent (u' w' : State) : MotorsAgree (cueEvent u' u) (cueEvent w' w) :=
  h.of_moved ((cueEvent_changes u' u).mono (by decide)) ((cueEvent_changes w' w).mono (by decide)) (by simp [h.bridge])
    (by simp [h.winch])

theorem brakeGates : MotorsAgree (brakeGates u) (brakeGates w) := by
  unfold Machine.brakeGates
  rw [h.bridge]
  exact h.setBridge _

theorem publishWinch : MotorsAgree (publishWinch u) (publishWinch w) :=
  h.of_moved ((publishWinch_changes u).mono (by decide)) ((publishWinch_changes w).mono (by decide))
    (by simp [h.bridge]) (by rw [publishWinch_winch, publishWinch_winch, h.winch])

theorem enterWinch (new : WinchState) : MotorsAgree (enterWinch new u) (enterWinch new w) := by
  unfold Machine.enterWinch
  rw [h.winch]
  split
  · exact h
  · have hfirst := h.setWinch (changedState new u.winch)
    have hlimits : winchMinimum w = winchMinimum u ∧
        tierGrant (w.setWinch (changedState new u.winch)) = tierGrant (u.setWinch (changedState new u.winch)) := by
      rw [h.eq]
      exact ⟨rfl, rfl⟩
    dsimp only [State.setWinch_winch]
    rw [hlimits.1, hlimits.2]
    have hnext := (hfirst.setWinch (starveRule (winchMinimum u)
      (tierGrant (u.setWinch (changedState new u.winch))) (changedState new u.winch))).selectDrive
    refine MotorsAgree.publishWinch ?_
    split
    · exact hnext.brakeGates.cueEvent _ _
    · exact hnext.cueEvent _ _

theorem endHoldOff : MotorsAgree (endHoldOff u) (endHoldOff w) := by
  unfold Machine.endHoldOff
  rw [h.winch, h.bridge]
  split
  · exact h.setWinch _
  · exact h

theorem winchEvaluate : MotorsAgree (winchEvaluate u) (winchEvaluate w) := by
  have hend := h.endHoldOff
  have hstate : evaluatedState (Machine.endHoldOff w) = evaluatedState (Machine.endHoldOff u) := by
    rw [hend.eq]
    rfl
  unfold Machine.winchEvaluate
  dsimp only
  rw [hstate]
  exact hend.enterWinch _

theorem lockCause : lockCause w = lockCause u := by rw [h.eq]; rfl

theorem effectiveCommand : effectiveCommand w = effectiveCommand u := by rw [h.eq]; rfl

theorem winchRead : MotorsAgree (winchRead u) (winchRead w) := by
  unfold Machine.winchRead
  rw [h.effectiveCommand, h.lockCause, h.winch]
  exact h.setWinch _

theorem winchLocked : MotorsAgree (winchLocked u) (winchLocked w) := by
  unfold Machine.winchLocked
  rw [h.lockCause, h.winch]
  split
  · exact h.winchRead.enterWinch _
  · exact h.winchRead

theorem winchUnlocked : MotorsAgree (winchUnlocked u) (winchUnlocked w) := by
  unfold Machine.winchUnlocked
  rw [h.lockCause, h.winch]
  split
  · exact h.winchLocked.winchEvaluate
  · exact h.winchLocked

theorem winchReact (accepted : Bool) : MotorsAgree (winchReact accepted u) (winchReact accepted w) := by
  cases hrole : Machine.roleIs u .winch && Machine.inRun u
  · have hnone (v : State) (hv : (Machine.roleIs v .winch && Machine.inRun v) = false) :
        Machine.winchReact accepted v = v := by simp [Machine.winchReact, hv]
    rw [hnone u hrole, hnone w (by rw [h.roleIs, h.inRun]; exact hrole)]
    exact h
  · obtain ⟨hw, hr⟩ := Bool.and_eq_true_iff.1 hrole
    rw [winchReact_eq accepted hw hr, winchReact_eq accepted ((h.roleIs _).trans hw) (h.inRun.trans hr),
      h.effectiveCommand, h.winch]
    split
    · exact h.winchUnlocked.winchEvaluate
    · exact h.winchUnlocked

theorem evalDuty : MotorsAgree (evalDuty u) (evalDuty w) := by
  have hduty : commandedDuty w = commandedDuty u ∧ reverseDwell w = reverseDwell u := by rw [h.eq]; exact ⟨rfl, rfl⟩
  unfold Machine.evalDuty
  rw [hduty.1, hduty.2, h.bridge]
  exact (h.setBridge _).selectDrive

theorem stageDig : MotorsAgree (stageDig u) (stageDig w) := by
  have hrecord : w.latest.demand = u.latest.demand := by rw [h.eq]
  unfold Machine.stageDig
  rw [hrecord, h.bridge]
  exact h.setBridge _

theorem bridgeReact (accepted : Bool) : MotorsAgree (bridgeReact accepted u) (bridgeReact accepted w) := by
  have htaken : demandTaken w = demandTaken u := by rw [h.eq]; rfl
  unfold Machine.bridgeReact
  rw [h.isAxle, h.roleIs, h.inRun, htaken]
  split
  · split
    · exact h.stageDig.evalDuty
    · exact h.evalDuty
  · split
    · exact h.selectDrive
    · exact h

end MotorsAgree

/-! ### What a reaction leaves (R98, R99, R117) -/

/-- A selection keeps the dig selection, the trips, the trip level and the period on the gates. -/
theorem selectDrive_kept (s : State) :
    (selectDrive s).bridge.activeDig = s.bridge.activeDig ∧ (selectDrive s).bridge.pendingDig = s.bridge.pendingDig ∧
      (selectDrive s).bridge.tripped = s.bridge.tripped ∧ (selectDrive s).bridge.latched = s.bridge.latched ∧
      (selectDrive s).bridge.tripLevel = s.bridge.tripLevel ∧ (selectDrive s).bridge.applied = s.bridge.applied ∧
      (selectDrive s).bridge.cut = s.bridge.cut := by
  cases ha : isAxle s
  · cases hw : roleIs s .winch
    · have hnone : selectDrive s = s := by simp [selectDrive, ha, hw]
      simp [hnone]
    · rw [selectDrive_of_winch ha hw]
      exact ⟨rfl, rfl, rfl, rfl, rfl, rfl, rfl⟩
  · rw [selectDrive_of_axle ha]
    exact ⟨rfl, rfl, rfl, rfl, rfl, rfl, rfl⟩

/-- A dwell that runs goes on from the full time where d turned against its pending sign (R101). -/
def rocked (ms : Nat) (b : Bridge) : Bridge :=
  if b.dwellTimer.isSome && (signOf b.d).isSome && signOf b.d != b.pendingSign then
    { b with dwellTimer := some ms, pendingSign := signOf b.d } else b

/-- The dig selection that a DEMAND taken stages, with the pending one (R99). -/
def stagedDig (accepted : Bool) (s : State) : Nat × Option Nat :=
  if accepted && demandTaken s then
    stage s.latest.demand.digSelection.toNat s.bridge.activeDig s.bridge.pendingDig s.latest.demand.throttle.natAbs 100
  else (s.bridge.activeDig, s.bridge.pendingDig)

/-- The bridge unit of an axle at a reaction in RUN, before the selection: the dig selection staged, d taken, a dwell
against d begun anew (R98, R99, R101). -/
def dutyTaken (accepted : Bool) (s : State) : Bridge :=
  rocked (reverseDwell s) { s.bridge with
    activeDig := (stagedDig accepted s).1, pendingDig := (stagedDig accepted s).2, d := commandedDuty s }

theorem rocked_kept (ms : Nat) (b : Bridge) :
    (rocked ms b).d = b.d ∧ (rocked ms b).activeDig = b.activeDig ∧ (rocked ms b).pendingDig = b.pendingDig ∧
      (rocked ms b).tripped = b.tripped ∧ (rocked ms b).latched = b.latched ∧ (rocked ms b).tripLevel = b.tripLevel ∧
      (rocked ms b).driveState = b.driveState ∧ (rocked ms b).lastSign = b.lastSign ∧
      (rocked ms b).outDuty = b.outDuty ∧ (rocked ms b).dwellTimer.isSome = b.dwellTimer.isSome := by
  unfold rocked
  split
  · next h =>
    simp only [Bool.and_eq_true] at h
    simp [h.1.1]
  · simp

/-- The reaction on an axle in RUN: the dig selection, d, and one selection (R16, log 8). -/
theorem bridgeReact_of_axle (accepted : Bool) {s : State} (haxle : isAxle s = true) (hrun : inRun s = true) :
    bridgeReact accepted s = selectDrive (s.setBridge (dutyTaken accepted s)) := by
  have hreact : bridgeReact accepted s = evalDuty (if accepted && demandTaken s then stageDig s else s) :=
    if_pos (by simp [haxle, hrun])
  have hsame : s.setBridge { s.bridge with activeDig := s.bridge.activeDig, pendingDig := s.bridge.pendingDig } = s := rfl
  rw [hreact]
  unfold dutyTaken stagedDig
  cases accepted && demandTaken s
  · exact congrArg evalDuty hsame.symm
  · rfl

theorem bridgeReact_of_not_axle (accepted : Bool) {s : State} (haxle : isAxle s = false) :
    (bridgeReact accepted s).bridge.activeDig = s.bridge.activeDig ∧
      (bridgeReact accepted s).bridge.pendingDig = s.bridge.pendingDig := by
  have hreact : bridgeReact accepted s = if roleIs s .winch && inRun s then selectDrive s else s := by
    simp [bridgeReact, haxle]
  obtain ⟨hactive, hpending, -⟩ := selectDrive_kept s
  rw [hreact]
  split
  · exact ⟨hactive, hpending⟩
  · exact ⟨rfl, rfl⟩

theorem dutyTaken_d (accepted : Bool) (s : State) : (dutyTaken accepted s).d = commandedDuty s := by
  exact (rocked_kept _ _).1

/-- d after a reaction of an axle in RUN (R98). -/
theorem bridgeReact_d (accepted : Bool) {s : State} (haxle : isAxle s = true) (hrun : inRun s = true) :
    (bridgeReact accepted s).bridge.d =
      if s.ctl.failsafe || s.ctl.demandHold then 0 else Int.tdiv (s.latest.demand.throttle * driveScale s) 1000 := by
  have hselect := selectDrive_of_axle (s := s.setBridge (dutyTaken accepted s)) haxle
  have hd : (bridgeReact accepted s).bridge.d = (dutyTaken accepted s).d := by
    rw [bridgeReact_of_axle accepted haxle hrun, hselect]
    rfl
  rw [hd, dutyTaken_d]
  simp only [commandedDuty, hrun, Bool.not_true, Bool.false_or]
  rfl

/-- The dig selection after a reaction of an axle in RUN (R99). -/
theorem bridgeReact_dig (accepted : Bool) {s : State} (haxle : isAxle s = true) (hrun : inRun s = true) :
    (bridgeReact accepted s).bridge.activeDig = (stagedDig accepted s).1 ∧
      (bridgeReact accepted s).bridge.pendingDig = (stagedDig accepted s).2 := by
  obtain ⟨hactive, hpending, -⟩ := selectDrive_kept (s.setBridge (dutyTaken accepted s))
  obtain ⟨-, hactive', hpending', -⟩ := rocked_kept (reverseDwell s) { s.bridge with
    activeDig := (stagedDig accepted s).1, pendingDig := (stagedDig accepted s).2, d := commandedDuty s }
  rw [bridgeReact_of_axle accepted haxle hrun, hactive, hpending]
  exact ⟨hactive', hpending'⟩

/-- The winch controller as a change of state hands it to the bridge unit (R112, R124). -/
def turnedWinch (new : WinchState) (s : State) : Winch :=
  starveRule (winchMinimum s) (tierGrant (s.setWinch (changedState new s.winch))) (changedState new s.winch)

/-- The bridge unit at a change of winch state: one selection, and at an end of the line the brake on the gates at once
(R112, R125). -/
theorem enterWinch_bridge {new : WinchState} {s : State} (h : new ≠ s.winch.state) : (enterWinch new s).bridge =
    if endBrake s.winch.state new then
      { (selectDrive (s.setWinch (turnedWinch new s))).bridge with
        applied := (selectDrive (s.setWinch (turnedWinch new s))).bridge.shadow, cut := false }
    else (selectDrive (s.setWinch (turnedWinch new s))).bridge := by
  have hturned : turnedWinch new s = starveRule (winchMinimum s) (tierGrant (s.setWinch (changedState new s.winch)))
      (s.setWinch (changedState new s.winch)).winch := rfl
  have hset (x y : Winch) : (s.setWinch x).setWinch y = s.setWinch y := rfl
  unfold enterWinch
  rw [if_neg h]
  dsimp only
  rw [← hturned, hset]
  have hcue (v : State) : (publishWinch (cueEvent s v)).bridge = v.bridge := by simp
  rw [hcue]
  split <;> rfl

/-- The winch controller keeps the dig selection (R99). -/
theorem winchReact_dig (accepted : Bool) (s : State) :
    (winchReact accepted s).bridge.activeDig = s.bridge.activeDig ∧
      (winchReact accepted s).bridge.pendingDig = s.bridge.pendingDig := by
  let P (u : State) : Prop := u.bridge.activeDig = s.bridge.activeDig ∧ u.bridge.pendingDig = s.bridge.pendingDig
  have henter (new : WinchState) (u : State) (hu : P u) : P (enterWinch new u) := by
    by_cases h : new = u.winch.state
    · rw [enterWinch_same h]; exact hu
    · obtain ⟨hactive, hpending, -⟩ := selectDrive_kept (u.setWinch (turnedWinch new u))
      have hbridge := enterWinch_bridge h
      refine ⟨.trans ?_ hu.1, .trans ?_ hu.2⟩
      · rw [hbridge]
        split <;> exact hactive
      · rw [hbridge]
        split <;> exact hpending
  have hend (u : State) (hu : P u) : P (endHoldOff u) := by
    have hkept : (endHoldOff u).bridge = u.bridge := by simp
    show _ ∧ _
    rw [hkept]
    exact hu
  exact winchReact_keeps (P := P) accepted ⟨rfl, rfl⟩ (fun _ _ => ⟨rfl, rfl⟩) (henter _ _)
    fun u hu => henter _ _ (hend u hu)

/-- The winch controller's command and lock condition after a reaction in RUN (R117). -/
theorem winchReact_command (accepted : Bool) {s : State} (hw : roleIs s .winch = true) (hrun : inRun s = true) :
    (winchReact accepted s).winch.command = effectiveCommand s ∧ (winchReact accepted s).winch.lock = lockCause s := by
  let P (u : State) : Prop := u.winch.command = effectiveCommand s ∧ u.winch.lock = lockCause s
  have hread : P (winchRead s) := ⟨rfl, rfl⟩
  have heval (u : State) (hu : P u) : P (winchEvaluate u) := by
    obtain ⟨hlock, hcommand, -⟩ := winchEvaluate_kept u
    exact ⟨hcommand.trans hu.1, hlock.trans hu.2⟩
  have hlocked : P (winchLocked s) := by
    unfold winchLocked
    split
    · obtain ⟨hlock, hcommand, -⟩ := enterWinch_kept .locked (winchRead s)
      exact ⟨hcommand.trans hread.1, hlock.trans hread.2⟩
    · exact hread
  have hunlocked : P (winchUnlocked s) := by
    unfold winchUnlocked
    split
    · exact heval _ hlocked
    · exact hlocked
  show P (winchReact accepted s)
  rw [winchReact_eq accepted hw hrun]
  split
  · exact heval _ hunlocked
  · exact hunlocked

/-- The motors at the hand-on of a DEMAND are as their reactions leave them (R16, log 8). -/
theorem demandReact_motors (accepted : Bool) {s w : State}
    (h : MotorsAgree (steerReact accepted (evalConditions s)) w) :
    (demandReact accepted s).bridge = (winchReact accepted (bridgeReact accepted w)).bridge ∧
      (demandReact accepted s).winch = (winchReact accepted (bridgeReact accepted w)).winch := by
  have hreact := (h.bridgeReact accepted).winchReact accepted
  rw [hreact.bridge, hreact.winch]
  simp [demandReact]

end Sys2Proof.Machine
end

section
/-! A DEMAND frame accepted (O9): the record and its source, the conditions, and each block as its reaction leaves it. -/

namespace Sys2Proof.Machine

/-! ### The record (R16, R17, R19) -/

/-- The station with the source and the record of an accepted DEMAND, before its blocks react. -/
def acceptedDemand (p : Publisher) (d : List Byte) (s : State) : State :=
  takenDemand p d ((heardDemand p s).setLatest { s.latest.putAge p (some 0) with source := some p })

/-- The source is none, or no lower address (R19). -/
theorem takesSource_iff (p : Publisher) (source : Option Publisher) : takesSource p source = true ↔
    ∀ o, source = some o → publisherAddress p ≤ publisherAddress o := by
  cases source with
  | none => simp [takesSource]
  | some o => simp [takesSource]

theorem ageOf_putAge_self (l : Latest) (p : Publisher) (a : Option Nat) : (l.putAge p a).ageOf p = a := by
  cases p <;> rfl

theorem ageOf_putAge_of_ne (l : Latest) {p q : Publisher} (h : q ≠ p) (a : Option Nat) :
    (l.putAge p a).ageOf q = l.ageOf q := by
  cases p <;> cases q <;> simp [Latest.putAge, Latest.ageOf] at h ⊢

theorem putAge_kept (l : Latest) (p : Publisher) (a : Option Nat) :
    (l.putAge p a).demand = l.demand ∧ (l.putAge p a).allowance = l.allowance ∧ (l.putAge p a).winch = l.winch ∧
      (l.putAge p a).source = l.source := by
  cases p <;> exact ⟨rfl, rfl, rfl, rfl⟩

theorem ageOf_congr {l l' : Latest} (h : l'.ageFront = l.ageFront ∧ l'.ageRear = l.ageRear ∧ l'.ageLamp = l.ageLamp)
    (q : Publisher) : l'.ageOf q = l.ageOf q := by
  obtain ⟨hfront, hrear, hlamp⟩ := h
  cases q
  · exact hfront
  · exact hrear
  · exact hlamp

theorem readDemand_band (p : Publisher) (d : List Byte) :
    (readDemand p d).band = if 2 ≤ ((byteAt d 7).extractLsb' 6 2).toNat then .lost else .fresh := by
  show demandBand 0 _ = _
  simp [demandBand, linkLost]

variable (p : Publisher) (d : List Byte) (s : State)

theorem acceptedDemand_latest : (acceptedDemand p d s).latest =
    { s.latest.putAge p (some 0) with source := some p, demand := readDemand p d } := rfl

theorem acceptedDemand_changes : Changes [.faults, .records, .port, .log] s (acceptedDemand p d s) := by
  refine ((heardDemand_changes p s).trans ?_).trans ((takenDemand_changes p d _).mono (by decide))
  cases p <;> exact .of (by simp [allPieces, Piece.same, Latest.putAge, heardDemand])

theorem heardDemand_log_of_radio (h : s.ctl.radio = false) : (heardDemand p s).log = s.log := by
  have hquiet : noteConflict p s = s := by simp [noteConflict, h]
  unfold heardDemand
  rw [hquiet]
  rfl

theorem heardDemand_clock : (heardDemand p s).log.clock = s.log.clock := by
  unfold heardDemand noteConflict
  split
  · dsimp only
    split_ifs <;> simp [record, withdrawDemand]
  · rfl

/-- DEMAND-LOST is recorded where a record in use becomes LOST by code 2 in RUN (R17). -/
theorem acceptedDemand_log_lost (hrun : inRun s = true) (hin : s.latest.demand.band.inUse = true)
    (hlink : (byteAt d 7).extractLsb' 6 2 = 2) :
    (acceptedDemand p d s).log.entries.getLast? = some ⟨.demandLost, s.log.clock, 0⟩ := by
  have hband : (readDemand p d).band = .lost := by rw [readDemand_band, hlink]; rfl
  have hcode : (readDemand p d).link ≠ 3 := by
    show (byteAt d 7).extractLsb' 6 2 ≠ 3
    rw [hlink]
    decide
  have hrun' : inRun (heardDemand p s) = true :=
    (inRun_congr (heardDemand_changes p s .mode (by decide)).2.2.1).trans hrun
  have hold : (s.latest.putAge p (some 0)).demand = s.latest.demand := (putAge_kept _ _ _).1
  have hlog : (acceptedDemand p d s).log = (heardDemand p s).log.append .demandLost 0 :=
    if_pos ⟨hcode, hrun', by rw [← hold] at hin; exact hin, hband⟩
  rw [hlog, IncidentLog.append_last, heardDemand_clock]

/-- No other link code records anything (R17, log 37). -/
theorem acceptedDemand_log_kept (h : (byteAt d 7).extractLsb' 6 2 ≠ 2) :
    (acceptedDemand p d s).log = (heardDemand p s).log := by
  refine if_neg ?_
  rintro ⟨hcode, -, -, hband⟩
  have hlink (l : BitVec 2) (h3 : l ≠ 3) (h2 : l ≠ 2) : l.toNat < 2 := by revert l; decide
  have hcode' : (byteAt d 7).extractLsb' 6 2 ≠ 3 := hcode
  rw [readDemand_band, if_neg (Nat.not_le.2 (hlink _ hcode' h))] at hband
  exact absurd hband (by decide)

/-! ### The conditions (R8, R10) -/

/-- After an acceptance in RUN DEMAND-HOLD is clear, and FAILSAFE follows the link state and ISOLATED. -/
theorem acceptedDemand_conditions (hrun : inRun s = true) :
    let t := demandReact true (acceptedDemand p d s)
    t.ctl.demandHold = false ∧
      (t.ctl.failsafe = true ↔ 2 ≤ ((byteAt d 7).extractLsb' 6 2).toNat ∨ s.ctl.isolated = true) := by
  have hchange := acceptedDemand_changes p d s
  have hrun' : inRun (acceptedDemand p d s) = true := (inRun_congr (hchange .mode (by decide)).2.2.1).trans hrun
  have hisolated : (acceptedDemand p d s).ctl.isolated = s.ctl.isolated := hchange .isolated (by decide)
  have hrecord : (acceptedDemand p d s).latest.demand = readDemand p d := rfl
  have hheld : (readDemand p d).held = true := rfl
  have hband := readDemand_band p d
  intro t
  have hctl : t.ctl = _ := (demandReact_ctl true (acceptedDemand p d s)).trans (evalConditions_ctl _)
  rw [hrun', if_pos rfl] at hctl
  have hfailsafe : t.ctl.failsafe = failsafeCause (acceptedDemand p d s) := by rw [hctl]
  have hhold : t.ctl.demandHold = holdCause (acceptedDemand p d s) := by rw [hctl]
  rw [hfailsafe, hhold]
  simp only [holdCause, failsafeCause, hrecord, hheld, hisolated, hband]
  generalize ((byteAt d 7).extractLsb' 6 2).toNat = link
  by_cases hlost : 2 ≤ link
  · simp [hlost]
  · have hfresh : (Band.fresh == .stale) = false ∧ (Band.fresh == .lost) = false := by decide
    simp [hlost, hfresh]

/-! ### The lamps (R134) -/

theorem demandReact_cues (accepted : Bool) :
    (demandReact accepted s).lamp.cues.left = (computeCues s).left ∧
      (demandReact accepted s).lamp.cues.right = (computeCues s).right ∧
      (demandReact accepted s).lamp.cues.scene = (computeCues s).scene := by
  let u := packQuiet (winchReact accepted (bridgeReact accepted (steerReact accepted (evalConditions s))))
  have hcues : (demandReact accepted s).lamp.cues = computeCues u := evalCues_cues u
  have hrecord : u.latest.demand = s.latest.demand := by simp [u]
  have hheld : u.ctl.held = s.ctl.held := by simp [u]
  have hturn : turnThreshold u = turnThreshold s := by simp [turnThreshold, cfg_congr hheld]
  rw [hcues]
  simp only [computeCues, hrecord, hturn, true_and]

theorem acceptedDemand_cues :
    let t := demandReact true (acceptedDemand p d s)
    let live := ((byteAt d 7).extractLsb' 6 2).toNat < 2
    (t.lamp.cues.left = true ↔ live ∧ (readDemand p d).steer < -turnThreshold s) ∧
      (t.lamp.cues.right = true ↔ live ∧ turnThreshold s < (readDemand p d).steer) ∧
      (t.lamp.cues.scene = .run ↔ live ∧ (byteAt d 6).extractLsb' 0 4 = 1) ∧
      (t.lamp.cues.scene = .full ↔ live ∧ (byteAt d 6).extractLsb' 0 4 = 2) := by
  obtain ⟨hleft, hright, hscene⟩ := demandReact_cues (acceptedDemand p d s) true
  intro t live
  rw [hleft, hright, hscene]
  have hrecord : (acceptedDemand p d s).latest.demand = readDemand p d := rfl
  have hheld : (acceptedDemand p d s).ctl.held = s.ctl.held :=
    (acceptedDemand_changes p d s .mode (by decide)).2.2.2
  have hturn : turnThreshold (acceptedDemand p d s) = turnThreshold s := by simp [turnThreshold, cfg_congr hheld]
  have hscene (c : BitVec 4) : (readScene c = .run ↔ c = 1) ∧ (readScene c = .full ↔ c = 2) := by revert c; decide
  obtain ⟨hsceneRun, hsceneFull⟩ := hscene ((byteAt d 6).extractLsb' 0 4)
  have hcode : (readDemand p d).scene = (byteAt d 6).extractLsb' 0 4 := rfl
  have hbands : (Band.lost == .fresh) = false ∧ (Band.lost == .stale) = false ∧ (Band.fresh == .fresh) = true := by decide
  simp only [computeCues, hrecord, hturn, readDemand_band, hcode, live]
  generalize ((byteAt d 7).extractLsb' 6 2).toNat = link
  by_cases hlost : 2 ≤ link
  · have hdead : ¬ link < 2 := by omega
    simp [hlost, hdead, hbands]
  · have hlive : link < 2 := by omega
    simp [hlost, hlive, hsceneRun, hsceneFull]

/-! ### The motors (R98, R99, R117) -/

theorem demandReact_steer (accepted : Bool) :
    (demandReact accepted s).steer = (steerReact accepted (evalConditions s)).steer := by simp [demandReact]

/-- A reaction of the steering unit leaves what the motors read. -/
theorem steerReact_agrees (accepted : Bool) {w : State} (h : MotorsAgree (evalConditions s) w) :
    MotorsAgree (steerReact accepted (evalConditions s)) w := by
  obtain ⟨hpins, hctl, hshare, hdemand, hallowance, hbridge, hwinch⟩ := h
  exact ⟨by simp [hpins], by simp [hctl], by simp [hshare], by simp [hdemand], by simp [hallowance], by simp [hbridge],
    by simp [hwinch]⟩

/-- The motors after an acceptance are as their reactions leave them on any station that agrees with the one the record
has reached (R16, log 8). -/
theorem acceptedDemand_motors {w : State} (hpins : w.pins = s.pins)
    (hctl : w.ctl = (demandReact true (acceptedDemand p d s)).ctl) (hshare : w.share = s.share)
    (hdemand : w.latest.demand = readDemand p d) (hallowance : w.latest.allowance = s.latest.allowance)
    (hbridge : w.bridge = s.bridge) (hwinch : w.winch = s.winch) :
    let t := demandReact true (acceptedDemand p d s)
    t.bridge = (winchReact true (bridgeReact true w)).bridge ∧ t.winch = (winchReact true (bridgeReact true w)).winch := by
  have hchange := acceptedDemand_changes p d s
  refine demandReact_motors true (steerReact_agrees _ true ⟨?_, ?_, ?_, ?_, ?_, ?_, ?_⟩)
  · rw [hpins, (evalConditions_changes _).trans (.refl _ _) .pins (by decide), hchange .pins (by decide)]
  · rw [hctl, demandReact_ctl]
  · rw [hshare, evalConditions_changes _ .share (by decide), hchange .share (by decide)]
  · rw [hdemand, (evalConditions_changes _ .records (by decide)).1, acceptedDemand_latest]
  · rw [hallowance, (evalConditions_changes _ .records (by decide)).2.1, acceptedDemand_latest]
    exact (putAge_kept _ _ _).2.1.symm
  · rw [hbridge, evalConditions_changes _ .bridge (by decide), hchange .bridge (by decide)]
  · rw [hwinch, evalConditions_changes _ .winch (by decide), hchange .winch (by decide)]

/-! ### The steering unit (R84 to R90) -/

/-- What a staging leaves, said case by case (R84, R99). -/
theorem stage_spec {taken : Prop} [Decidable taken] {request active magnitude band active' : Nat}
    {pending pending' : Option Nat} (h : (active', pending') =
      if taken then stage request active pending magnitude band else (active, pending)) :
    ((¬ taken ∨ 2 < request) → active' = active ∧ pending' = pending) ∧
      (taken → request ≤ 2 → request = active → active' = request ∧ pending' = none) ∧
      (taken → request ≤ 2 → request ≠ active → magnitude ≤ band → active' = request ∧ pending' = none) ∧
      (taken → request ≤ 2 → request ≠ active → band < magnitude → active' = active ∧ pending' = some request) := by
  by_cases ht : taken
  · rw [if_pos ht] at h
    obtain ⟨hbig, he⟩ | ⟨hsmall, hsame, he⟩ | ⟨hsmall, hother, hquiet, he⟩ | ⟨hsmall, hother, hloud, he⟩ :=
      stage_cases request active pending magnitude band
    all_goals obtain ⟨rfl, rfl⟩ := Prod.mk.injEq .. ▸ (h.trans he)
    · exact ⟨fun _ => ⟨rfl, rfl⟩, fun _ hle => by omega, fun _ hle => by omega, fun _ hle => by omega⟩
    · exact ⟨fun hor => by have := hor.resolve_left (not_not.2 ht); omega, fun _ _ _ => ⟨hsame.symm, rfl⟩,
        fun _ _ hne => absurd hsame hne, fun _ _ hne => absurd hsame hne⟩
    · exact ⟨fun hor => by have := hor.resolve_left (not_not.2 ht); omega, fun _ _ heq => absurd heq hother,
        fun _ _ _ _ => ⟨rfl, rfl⟩, fun _ _ _ hlt => by omega⟩
    · exact ⟨fun hor => by have := hor.resolve_left (not_not.2 ht); omega, fun _ _ heq => absurd heq hother,
        fun _ _ _ hle => by omega, fun _ _ _ _ => ⟨rfl, rfl⟩⟩
  · rw [if_neg ht] at h
    obtain ⟨rfl, rfl⟩ := Prod.mk.injEq .. ▸ h
    exact ⟨fun _ => ⟨rfl, rfl⟩, fun hyes => absurd hyes ht, fun hyes => absurd hyes ht, fun hyes => absurd hyes ht⟩

theorem stageBank_changes (s : State) : Changes [.steer] s (stageBank s) := .of (by simp [allPieces, Piece.same])

/-- The steering unit at an acceptance on an axle in RUN: the bank staged, REAR's check of a changed bank, the mode and
the target (R84 to R90). -/
theorem steerReact_accepted {x : State} (haxle : isAxle x = true) (hrun : inRun x = true) :
    let b := (steerReact true x).steer
    (b.active, b.pending) = (if demandTaken x = true then stagedBank x else (x.steer.active, x.steer.pending)) ∧
      (roleIs x .rear = false ∨ b.active = x.steer.active →
        b.split = x.steer.split ∧ b.splitTimer = x.steer.splitTimer) ∧
      (roleIs x .rear = true → b.active ≠ x.steer.active →
        splitAfter (banksDiffer x.peers.front b.active) x.steer b) ∧
      b.mode = (if x.ctl.failsafe then .centre else if b.split then .split else .follow) ∧
      (b.mode ≠ .follow → b.target = 0) ∧
      (b.mode = .follow → b.target = Int.tdiv (x.latest.demand.steer * bankFactor x b.active) 1000) := by
  have hrefresh (u : State) (hu : u = x ∨ u = stageBank x) :
      (steerRefresh u).steer = { u.steer with
          mode := (steerRefresh u).steer.mode, target := (steerRefresh u).steer.target
          shadow := (steerRefresh u).steer.shadow } ∧
        (steerRefresh u).steer.mode =
          (if x.ctl.failsafe then .centre else if (steerRefresh u).steer.split then .split else .follow) ∧
        ((steerRefresh u).steer.mode ≠ .follow → (steerRefresh u).steer.target = 0) ∧
        ((steerRefresh u).steer.mode = .follow → (steerRefresh u).steer.target =
          Int.tdiv (x.latest.demand.steer * bankFactor x (steerRefresh u).steer.active) 1000) := by
    have hchange : Changes [.steer] x u := by
      obtain rfl | rfl := hu
      · exact .refl _ _
      · exact stageBank_changes x
    obtain ⟨hsteer, hmode, hnot, hfollow⟩ := steerRefresh_spec ((inRun_congr (hchange .mode (by decide)).2.2.1).trans hrun)
    have hkept : (steerRefresh u).steer.split = u.steer.split ∧ (steerRefresh u).steer.active = u.steer.active := by
      rw [hsteer]
      exact ⟨rfl, rfl⟩
    refine ⟨hsteer, ?_, fun h => (hnot h).1, fun h => ?_⟩
    · rw [hkept.1, hmode, (hchange .conditions (by decide)).1]
    · rw [hkept.2, (hfollow h).2, (hchange .records (by decide)).1,
        bankFactor_congr (hchange .mode (by decide)).2.2.2 (hchange .mode (by decide)).1]
  rw [steerReact_eq true haxle hrun, Bool.true_and]
  cases htaken : demandTaken x
  · obtain ⟨hsteer, hmode, hnot, hfollow⟩ := hrefresh x (.inl rfl)
    simp only [Bool.false_eq_true, if_false]
    refine ⟨?_, fun _ => ?_, fun _ hne => absurd ?_ hne, hmode, hnot, hfollow⟩
    all_goals rw [hsteer]
    exact ⟨rfl, rfl⟩
  · obtain ⟨timer, split, hstage, hsame, hother⟩ := stageBank_cases hrun
    obtain ⟨hsteer, hmode, hnot, hfollow⟩ := hrefresh (stageBank x) (.inr rfl)
    have hkept : (stageBank x).steer = { x.steer with
        active := (stagedBank x).1, pending := (stagedBank x).2, splitTimer := timer, split := split } := by rw [hstage]; rfl
    simp only [if_true]
    refine ⟨?_, fun h => ?_, fun hrear hne => ?_, hmode, hnot, hfollow⟩
    · rw [hsteer, hkept]
    · rw [hsteer, hkept] at h ⊢
      exact hsame h
    · rw [hsteer, hkept] at hne ⊢
      exact hother hrear hne

/-- A station that has taken in an accepted DEMAND, as its blocks find it: the conditions are evaluated. -/
theorem acceptedDemand_evaluated :
    Changes [.conditions, .faults, .records, .port, .log] s (evalConditions (acceptedDemand p d s)) :=
  ((acceptedDemand_changes p d s).mono (by decide)).trans ((evalConditions_changes _).mono (by decide))

/-- The DEMAND is taken: RUN, a live link, not ISOLATED (R83). -/
theorem acceptedDemand_taken (hrun : inRun s = true) : demandTaken (evalConditions (acceptedDemand p d s)) = true ↔
    ((byteAt d 7).extractLsb' 6 2).toNat < 2 ∧ s.ctl.isolated = false := by
  have hchange := acceptedDemand_evaluated p d s
  have hlink : (evalConditions (acceptedDemand p d s)).latest.demand.link = (byteAt d 7).extractLsb' 6 2 := by
    rw [(evalConditions_changes _ .records (by decide)).1]
    rfl
  unfold demandTaken linkLost
  rw [inRun_congr (hchange .mode (by decide)).2.2.1, hrun, hchange .isolated (by decide), hlink]
  simp

theorem isAxle_congr {s t : State} (h : t.ctl.role = s.ctl.role) : isAxle t = isAxle s := by
  simp [isAxle, roleIs_congr h]

/-- The steering unit after an acceptance on an axle in RUN (R84 to R90). -/
theorem acceptedDemand_steer (haxle : isAxle s = true) (hrun : inRun s = true) :
    let t := demandReact true (acceptedDemand p d s)
    let taken := ((byteAt d 7).extractLsb' 6 2).toNat < 2 ∧ s.ctl.isolated = false
    (t.steer.active, t.steer.pending) = (if taken then
        stage (byteAt d 4).toNat s.steer.active s.steer.pending (readDemand p d).steer.natAbs (centreBand s)
      else (s.steer.active, s.steer.pending)) ∧
      (roleIs s .rear = false ∨ t.steer.active = s.steer.active →
        t.steer.split = s.steer.split ∧ t.steer.splitTimer = s.steer.splitTimer) ∧
      (roleIs s .rear = true → t.steer.active ≠ s.steer.active →
        splitAfter (banksDiffer s.peers.front t.steer.active) s.steer t.steer) ∧
      t.steer.mode = (if t.ctl.failsafe then .centre else if t.steer.split then .split else .follow) ∧
      (t.steer.mode ≠ .follow → t.steer.target = 0) ∧
      (t.steer.mode = .follow →
        t.steer.target = Int.tdiv ((readDemand p d).steer * bankFactor s t.steer.active) 1000) := by
  let x := evalConditions (acceptedDemand p d s)
  have hchange : Changes _ s x := acceptedDemand_evaluated p d s
  obtain ⟨hrole, -, hstation, hheld⟩ := hchange .mode (by decide)
  have hdemand : x.latest.demand = readDemand p d := by
    rw [(evalConditions_changes _ .records (by decide)).1]
    rfl
  obtain ⟨hstage, hsame, hother, hmode, hnot, hfollow⟩ := steerReact_accepted (x := x)
    ((isAxle_congr hrole).trans haxle) ((inRun_congr hstation).trans hrun)
  have hsteer : x.steer = s.steer := hchange .steer (by decide)
  have hpeers : x.peers = s.peers := hchange .peers (by decide)
  have hbank : stagedBank x =
      stage (byteAt d 4).toNat s.steer.active s.steer.pending (readDemand p d).steer.natAbs (centreBand s) := by
    unfold stagedBank centreBand cfgN
    rw [cfg_congr hheld, hsteer, hdemand]
    rfl
  intro t taken
  have hctl : t.ctl = x.ctl := demandReact_ctl true (acceptedDemand p d s)
  rw [demandReact_steer, hctl]
  rw [hbank, hsteer] at hstage
  rw [roleIs_congr hrole, hsteer] at hsame hother
  rw [hpeers] at hother
  rw [hdemand, bankFactor_congr hheld hrole] at hfollow
  refine ⟨?_, hsame, hother, hmode, hnot, hfollow⟩
  rw [hstage]
  exact if_congr (acceptedDemand_taken p d s hrun) rfl rfl

/-- The dig selection after an acceptance on an axle in RUN (R99). -/
theorem acceptedDemand_dig (haxle : isAxle s = true) (hrun : inRun s = true) :
    let t := demandReact true (acceptedDemand p d s)
    let taken := ((byteAt d 7).extractLsb' 6 2).toNat < 2 ∧ s.ctl.isolated = false
    (t.bridge.activeDig, t.bridge.pendingDig) = if taken then
        stage (byteAt d 5).toNat s.bridge.activeDig s.bridge.pendingDig (readDemand p d).throttle.natAbs 100
      else (s.bridge.activeDig, s.bridge.pendingDig) := by
  let x := steerReact true (evalConditions (acceptedDemand p d s))
  have hchange : Changes [.conditions, .faults, .records, .port, .log, .steer] s x :=
    ((acceptedDemand_evaluated p d s).mono (by decide)).trans (.of (by simp [allPieces, Piece.same, x]))
  obtain ⟨hrole, -, hstation, -⟩ := hchange .mode (by decide)
  have haxle' : isAxle x = true := (isAxle_congr hrole).trans haxle
  have hrun' : inRun x = true := (inRun_congr hstation).trans hrun
  have hdemand : x.latest.demand = readDemand p d := by
    have hkept : x.latest = (evalConditions (acceptedDemand p d s)).latest := by simp [x]
    rw [hkept, (evalConditions_changes _ .records (by decide)).1]
    rfl
  have hsame : demandTaken x = demandTaken (evalConditions (acceptedDemand p d s)) := by simp [demandTaken, x, inRun]
  have htaken := acceptedDemand_taken p d s hrun
  rw [← hsame] at htaken
  have hbridge : x.bridge = s.bridge := hchange .bridge (by decide)
  intro t taken
  have hmotors : t.bridge = (bridgeReact true x).bridge := by
    obtain ⟨hb, -⟩ := demandReact_motors true (s := acceptedDemand p d s) (w := x) ⟨rfl, rfl, rfl, rfl, rfl, rfl, rfl⟩
    rw [hb, winchReact_of_not_winch]
    have hw : roleIs x .winch = false := by
      cases h : roleIs x .winch
      · rfl
      · rw [isAxle_of_winch h] at haxle'
        exact absurd haxle' (by decide)
    rw [← hw]
    exact roleIs_congr (by simp) .winch
  obtain ⟨hactive, hpending⟩ := bridgeReact_dig true haxle' hrun'
  rw [hmotors, hactive, hpending]
  unfold stagedDig
  rw [hdemand, hbridge, Bool.true_and]
  exact if_congr htaken rfl rfl

/-- The motors outside RUN and those that no axle or winch has stand as they were. -/
theorem acceptedDemand_motors_of_not_run (hrun : inRun s = false) :
    let t := demandReact true (acceptedDemand p d s)
    t.bridge = s.bridge ∧ t.winch = s.winch ∧ t.steer = s.steer := by
  have hchange := acceptedDemand_evaluated p d s
  let x := steerReact true (evalConditions (acceptedDemand p d s))
  have hrun' : inRun (evalConditions (acceptedDemand p d s)) = false :=
    (inRun_congr (hchange .mode (by decide)).2.2.1).trans hrun
  have hx : x = evalConditions (acceptedDemand p d s) := steerReact_of_not true fun h => by simp [hrun'] at h
  obtain ⟨hbridge, hwinch⟩ :=
    demandReact_motors true (s := acceptedDemand p d s) (w := x) ⟨rfl, rfl, rfl, rfl, rfl, rfl, rfl⟩
  have hidle : bridgeReact true x = x := bridgeReact_of_not_run (by rw [hx]; exact hrun') true
  have hidle' : winchReact true x = x := winchReact_of_not_run (by rw [hx]; exact hrun') true
  rw [hidle, hidle', hx] at hbridge hwinch
  refine ⟨hbridge.trans (hchange .bridge (by decide)), hwinch.trans (hchange .winch (by decide)), ?_⟩
  rw [demandReact_steer]
  show x.steer = _
  rw [hx, hchange .steer (by decide)]

/-- Off an axle in RUN the steering unit and the dig selection stand (R83, R99). -/
theorem acceptedDemand_kept_of_not (h : ¬ (isAxle s = true ∧ inRun s = true)) :
    let t := demandReact true (acceptedDemand p d s)
    t.steer = s.steer ∧ t.bridge.activeDig = s.bridge.activeDig ∧ t.bridge.pendingDig = s.bridge.pendingDig := by
  have hchange := acceptedDemand_evaluated p d s
  obtain ⟨hrole, -, hstation, -⟩ := hchange .mode (by decide)
  let x := steerReact true (evalConditions (acceptedDemand p d s))
  have hx : x = evalConditions (acceptedDemand p d s) :=
    steerReact_of_not true (by rw [isAxle_congr hrole, inRun_congr hstation]; exact h)
  obtain ⟨hbridge, -⟩ :=
    demandReact_motors true (s := acceptedDemand p d s) (w := x) ⟨rfl, rfl, rfl, rfl, rfl, rfl, rfl⟩
  have hold : x.bridge = s.bridge := by rw [hx]; exact hchange .bridge (by decide)
  have hreact : (bridgeReact true x).bridge.activeDig = x.bridge.activeDig ∧
      (bridgeReact true x).bridge.pendingDig = x.bridge.pendingDig := by
    by_cases hrun : inRun s = true
    · have haxle : isAxle x = false := by
        rw [hx, isAxle_congr hrole]
        exact Bool.eq_false_iff.2 fun haxle => h ⟨haxle, hrun⟩
      exact bridgeReact_of_not_axle true haxle
    · rw [bridgeReact_of_not_run (by rw [hx, inRun_congr hstation]; exact Bool.eq_false_iff.2 hrun)]
      exact ⟨rfl, rfl⟩
  obtain ⟨hactive, hpending⟩ := winchReact_dig true (bridgeReact true x)
  refine ⟨?_, ?_, ?_⟩
  · rw [demandReact_steer]
    show x.steer = _
    rw [hx, hchange .steer (by decide)]
  · rw [hbridge, hactive, hreact.1, hold]
  · rw [hbridge, hpending, hreact.2, hold]

/-- The records after an acceptance: the reaction keeps them, but for the own WINCH record (R16). -/
theorem acceptedDemand_records :
    let t := demandReact true (acceptedDemand p d s)
    t.latest.demand = readDemand p d ∧ t.latest.allowance = s.latest.allowance ∧ t.latest.source = some p ∧
      ∀ q, t.latest.ageOf q = (s.latest.putAge p (some 0)).ageOf q := by
  obtain ⟨hdemand, hallowance, hfront, hrear, hlamp, hsource⟩ :=
    demandReact_changes true (acceptedDemand p d s) .records (by decide)
  refine ⟨hdemand, hallowance.trans (putAge_kept _ _ _).2.1, hsource, fun q => ?_⟩
  rw [ageOf_congr ⟨hfront, hrear, hlamp⟩]
  cases p <;> cases q <;> rfl

theorem acceptedDemand_log (p : Publisher) (d : List Byte) (s : State) :
    (demandReact true (acceptedDemand p d s)).log = (acceptedDemand p d s).log :=
  demandReact_changes true _ .log (by decide)

/-- What an arrival leaves of the ages (R19). -/
theorem demandArrives_ages (q : Publisher) :
    (demandArrives p d s).latest.ageOf q = (s.latest.putAge p (some 0)).ageOf q := by
  rw [demandArrives_eq]
  split
  · exact (acceptedDemand_records p d s).2.2.2 q
  · rfl

/-- The reactions of an axle in RUN (R98, R117). -/
theorem acceptedDemand_axle (haxle : isAxle s = true) (hrun : inRun s = true) :
    let t := demandReact true (acceptedDemand p d s)
    t.winch = s.winch ∧
      t.bridge.d = if t.ctl.failsafe then 0 else Int.tdiv ((readDemand p d).throttle * driveScale s) 1000 := by
  let x := steerReact true (evalConditions (acceptedDemand p d s))
  have hchange : Changes [.conditions, .faults, .records, .port, .log, .steer] s x :=
    ((acceptedDemand_evaluated p d s).mono (by decide)).trans (.of (by simp [allPieces, Piece.same, x]))
  obtain ⟨hrole, -, hstation, hheld⟩ := hchange .mode (by decide)
  have haxle' : isAxle x = true := (isAxle_congr hrole).trans haxle
  have hrun' : inRun x = true := (inRun_congr hstation).trans hrun
  have hdemand : x.latest.demand = readDemand p d := by
    have hkept : x.latest = (evalConditions (acceptedDemand p d s)).latest := by simp [x]
    rw [hkept, (evalConditions_changes _ .records (by decide)).1]
    rfl
  have hwinch : roleIs (bridgeReact true x) .winch = false := by
    have hsame : roleIs (bridgeReact true x) .winch = roleIs x .winch := roleIs_congr (by simp) .winch
    rw [hsame]
    exact Bool.eq_false_iff.2 fun h => by rw [isAxle_of_winch h] at haxle'; exact absurd haxle' (by decide)
  obtain ⟨hb, hw⟩ :=
    demandReact_motors true (s := acceptedDemand p d s) (w := x) ⟨rfl, rfl, rfl, rfl, rfl, rfl, rfl⟩
  rw [winchReact_of_not_winch true hwinch] at hb hw
  obtain ⟨hhold, -⟩ := acceptedDemand_conditions p d s hrun
  intro t
  have hctl : t.ctl = x.ctl := by simp [t, x, demandReact_ctl]
  have hnoHold : x.ctl.demandHold = false := by rw [← hctl]; exact hhold
  refine ⟨?_, ?_⟩
  · rw [hw]
    have hkept : (bridgeReact true x).winch = x.winch := by simp
    rw [hkept, hchange .winch (by decide)]
  · rw [hb, bridgeReact_d true haxle' hrun', hnoHold, Bool.or_false, hctl, hdemand]
    unfold driveScale
    rw [cfg_congr hheld]

/-- The winch's command after an acceptance in RUN (R117). -/
theorem acceptedDemand_winch (hw : roleIs s .winch = true) (hrun : inRun s = true) :
    let t := demandReact true (acceptedDemand p d s)
    (t.winch.command = .inward ↔ t.ctl.failsafe = false ∧ (byteAt d 6).extractLsb' 4 4 = 1) ∧
      (t.winch.command = .outward ↔ t.ctl.failsafe = false ∧ (byteAt d 6).extractLsb' 4 4 = 2) := by
  let x := bridgeReact true (steerReact true (evalConditions (acceptedDemand p d s)))
  have hmode := acceptedDemand_evaluated p d s .mode (by decide)
  have hrole : x.ctl.role = s.ctl.role := by simpa [x] using hmode.1
  have hstation : x.ctl.station = s.ctl.station := by simpa [x] using hmode.2.2.1
  have hdemand : x.latest.demand = readDemand p d := by
    have hkept : x.latest = (evalConditions (acceptedDemand p d s)).latest := by simp [x]
    rw [hkept, (evalConditions_changes _ .records (by decide)).1]
    rfl
  obtain ⟨hhold, hfailsafe⟩ := acceptedDemand_conditions p d s hrun
  intro t
  have hctl : t.ctl = x.ctl := by simp [t, x, demandReact_ctl]
  have hnoHold : x.ctl.demandHold = false := by rw [← hctl]; exact hhold
  have hfresh : x.ctl.failsafe = false → (readDemand p d).band = .fresh := fun h => by
    rw [readDemand_band, if_neg]
    intro hlost
    have hset : t.ctl.failsafe = true := hfailsafe.2 (.inl hlost)
    rw [hctl, h] at hset
    exact absurd hset (by decide)
  have hcommand : t.winch.command = effectiveCommand x := by
    have hreact : t.winch = (winchReact true x).winch := by simp [t, x, demandReact]
    rw [hreact]
    exact (winchReact_command true ((roleIs_congr hrole .winch).trans hw) ((inRun_congr hstation).trans hrun)).1
  have hread (c : BitVec 4) : (readCommand c = .inward ↔ c = 1) ∧ (readCommand c = .outward ↔ c = 2) := by
    revert c; decide
  rw [hcommand, hctl]
  cases hf : x.ctl.failsafe
  · have hband : (readDemand p d).band = .fresh := hfresh hf
    have heff : effectiveCommand x = readCommand ((byteAt d 6).extractLsb' 4 4) := by
      unfold effectiveCommand
      rw [(inRun_congr hstation).trans hrun, hdemand, hband, hf, hnoHold]
      rfl
    rw [heff]
    simpa using hread ((byteAt d 6).extractLsb' 4 4)
  · have heff : effectiveCommand x = .hold := by simp [effectiveCommand, hf]
    rw [heff]
    simp

end Sys2Proof.Machine

open Sys2Proof Sys2Proof.Machine

/-- Settles O9: the record takes the frame's fields where no lower address is the source, and each block stands as its
reaction leaves it. -/
theorem demandFrameAccepted : Obligations.DemandFrameAccepted := by
  intro s rx d htakes hlength
  have hlive := station_ne_halt_of_takesFrame htakes
  let a := beginReceive rx.span s
  let u := deliverDemand rx.source d a
  have hallowed : lengthAllowed 0x21 d.length = true := by rw [hlength]; rfl
  have hdelivered : Changes _ a u := deliverDemand_changes rx.source d a
  obtain ⟨-, -, hstation, -⟩ := hdelivered .mode (by decide)
  have hexec : exec (.demandFrame rx d) s = .next (endEcho rx.span u) := by
    show Host.Outcome.next (frameArrives 0x21 rx d deliverDemand s) = _
    rw [frameArrives_of_takesFrame _ htakes hallowed]
  have hecho : endEcho rx.span u = u.setPort
      { u.port with port := .waitIdle, recessive := 0, echo := .echo, paceSpan := rx.span } :=
    endEcho_of_not_halt rx.span (by rw [hstation]; exact hlive)
  have hport (x : State) (q : BusPort) : Changes [.port] x (x.setPort q) := .of (by simp [allPieces, Piece.same])
  rw [hecho] at hexec
  refine ⟨_, hexec, ?frame, fun hnone => ?other, fun p hp => ?heard⟩
  case frame =>
    exact (((hport s _).mono (by decide : _ ⊆ [.conditions, .isolated, .faults, .startTimer, .stationTimer, .commit,
      .working, .mode, .records, .winchRecord, .port, .steer, .bridge, .winch, .pack, .lamp, .log])).trans
      ((hdelivered.mono (by decide)).trans ((hport u _).mono (by decide)))).eq
  case other =>
    have hu : u = a := by
      show deliverDemand _ _ _ = _
      simp [deliverDemand, hnone]
    rw [hu]
    rfl
  case heard =>
    have hu : u = demandArrives p d a := by
      show deliverDemand _ _ _ = _
      simp [deliverDemand, hp]
    have htaken := demandArrives_eq p d a
    rw [← hu] at htaken
    have hages (q : Publisher) : u.latest.ageOf q = (a.latest.putAge p (some 0)).ageOf q := by
      rw [hu]
      exact demandArrives_ages p d a q
    refine ⟨?age, fun q hq => ?others, ?allowance, ?peers, fun hsource => ?accepted, fun o ho hlower => ?kept⟩
    case age => exact (hages p).trans (ageOf_putAge_self _ p _)
    case others => exact (hages q).trans (ageOf_putAge_of_ne _ hq _)
    case allowance =>
      have hkept : u.latest.allowance = a.latest.allowance := by
        rw [hu]
        exact (demandArrives_kept p d a).1
      exact hkept
    case peers => exact hdelivered .peers (by decide)
    case accepted =>
      have hu' : u = demandReact true (acceptedDemand p d a) := htaken.trans (if_pos ((takesSource_iff _ _).2 hsource))
      clear hdelivered hages hecho hexec hu
      clear_value u
      subst hu'
      have hrun : a.ctl.station = .run → inRun a = true := fun h => beq_iff_eq.2 h
      have hconditions (h : a.ctl.station = .run) := acceptedDemand_conditions p d a (hrun h)
      have hsteer (h : isAxle a = true) (h' : a.ctl.station = .run) := acceptedDemand_steer p d a h (hrun h')
      have hdig (h : isAxle a = true) (h' : a.ctl.station = .run) := acceptedDemand_dig p d a h (hrun h')
      have hnot := acceptedDemand_kept_of_not p d a
      have hidle (h : a.ctl.station ≠ .run) := acceptedDemand_motors_of_not_run p d a (beq_eq_false_iff_ne.2 h)
      have haxle (h : isAxle a = true) (h' : a.ctl.station = .run) := acceptedDemand_axle p d a h (hrun h')
      have hwinch (h : roleIs a .winch = true) (h' : a.ctl.station = .run) := acceptedDemand_winch p d a h (hrun h')
      have hmotors {w : State} := acceptedDemand_motors p d a (w := w)
      obtain ⟨hleft, hright, hscene, hfull⟩ := acceptedDemand_cues p d a
      have hlog := acceptedDemand_log p d a
      obtain ⟨hdemand, hallowance, hsource', -⟩ := acceptedDemand_records p d a
      generalize demandReact true (acceptedDemand p d a) = v at *
      have hfield {α : Type} (f : DemandRecord → α) : f v.latest.demand = f (readDemand p d) := by rw [hdemand]
      rw [← hdemand] at hleft hright hsteer hdig haxle
      refine ⟨hsource', hfield _, hfield _, hfield _, hfield _, hfield _, hfield _, hfield _, hfield _, hfield _, hfield _,
        hfield _, hfield _, (hfield DemandRecord.band).trans (readDemand_band p d), fun hr hin hlink => ?lost,
        fun hradio hlink => ?quiet, hconditions, hleft, hright, hscene, hfull, fun h => ⟨(hidle h).1, (hidle h).2.1⟩,
        fun hr => ?motors, fun h => hnot fun h' => h ⟨h'.1, beq_iff_eq.1 h'.2⟩, fun hax hr => ?steer⟩
      case lost =>
        have hused : a.latest.demand.band.inUse = true := by
          have hor : a.latest.demand.band = .fresh ∨ a.latest.demand.band = .stale := hin
          obtain h | h := hor <;> rw [h] <;> rfl
        show v.log.entries.getLast? = _
        rw [hlog]
        exact acceptedDemand_log_lost p d a (hrun hr) hused hlink
      case quiet =>
        show v.log = _
        rw [hlog, acceptedDemand_log_kept p d a hlink]
        exact heardDemand_log_of_radio p a hradio
      case motors =>
        obtain ⟨hb, hw⟩ := hmotors (w := { s with ctl := v.ctl, latest := { v.latest with winch := s.latest.winch } })
          rfl rfl rfl hdemand hallowance rfl rfl
        exact ⟨hb, hw, fun hax => haxle hax hr, fun hwin => hwinch hwin hr⟩
      case steer =>
        obtain ⟨hbank, hsame, hother, hmode, hstill, hfollow⟩ := hsteer hax hr
        obtain ⟨hbank1, hbank2, hbank3, hbank4⟩ := stage_spec hbank
        obtain ⟨hdig1, hdig2, hdig3, hdig4⟩ := stage_spec (hdig hax hr)
        have hcentre (h : v.ctl.failsafe = true) : v.steer.mode = .centre := by rw [hmode, h]; rfl
        have hsplit (h : v.ctl.failsafe = false) (h' : v.steer.split = true) : v.steer.mode = .split := by
          rw [hmode, h, h']; rfl
        have hfree (h : v.ctl.failsafe = false) (h' : v.steer.split = false) : v.steer.mode = .follow := by
          rw [hmode, h, h']; rfl
        exact ⟨hbank1, hbank2, hbank3, hbank4, hdig1, hdig2, hdig3, hdig4, hsame, hother,
          fun h => ⟨hcentre h, hstill (by rw [hcentre h]; decide)⟩,
          fun h h' => ⟨hsplit h h', hstill (by rw [hsplit h h']; decide)⟩,
          fun h h' => ⟨hfree h h', hfollow (hfree h h')⟩⟩
    case kept =>
      have hu' : u = heardDemand p a := htaken.trans (if_neg fun h => by
        have := (takesSource_iff _ _).1 h o ho
        omega)
      clear hdelivered hages hecho hexec hu
      clear_value u
      subst hu'
      have hheard := heardDemand_changes p a
      refine ⟨?_, ?_, hheard .steer (by decide), hheard .bridge (by decide), hheard .winch (by decide),
        hheard .pack (by decide), hheard .lamp (by decide)⟩
      · exact (putAge_kept _ _ _).2.2.2.trans ho
      · exact (putAge_kept _ _ _).1
end

section
/-! DEMAND-CONFLICT (O10): what a RADIO station makes of another publisher's DEMAND. -/

namespace Sys2Proof.Machine

/-- The last entry of a list outlives one append (R163). -/
theorem mem_append_of_last {l : IncidentLog} {e : Incident} (h : l.entries.getLast? = some e) (c : IncidentCode)
    (d : Half) : e ∈ (l.append c d).entries := by
  refine List.mem_append_left _ ?_
  split
  · exact List.mem_of_getLast? h
  · next hfull =>
    refine List.mem_of_getLast? ?_
    rw [List.getLast?_drop, if_neg (by omega), h]

/-- A frame delivered: the echo follows at the port (R153). -/
theorem frameArrives_delivered {s : State} {first : Byte} {rx : Rx} {d : List Byte}
    (deliver : BitVec 4 → List Byte → State → State) (h : takesFrame s first rx d = true)
    (hlength : lengthAllowed first d.length = true)
    (hstation : (deliver rx.source d (beginReceive rx.span s)).ctl.station = s.ctl.station) :
    frameArrives first rx d deliver s = (deliver rx.source d (beginReceive rx.span s)).setPort
      { (deliver rx.source d (beginReceive rx.span s)).port with
        port := .waitIdle, recessive := 0, echo := .echo, paceSpan := rx.span } := by
  rw [frameArrives_of_takesFrame deliver h hlength,
    endEcho_of_not_halt rx.span (by rw [hstation]; exact station_ne_halt_of_takesFrame h)]

/-- The conflict noted on a RADIO station (R20). -/
theorem noteConflict_of_other {p : Publisher} {s : State} (hradio : s.ctl.radio = true)
    (h : publisherAddress p ≠ ownAddress s) :
    (noteConflict p s).ctl.faults = { s.ctl.faults with demandConflict := true } ∧
      (s.ctl.faults.demandConflict = false → (noteConflict p s).log = s.log.append .demandConflict 0) ∧
      (noteConflict p s).port =
        if publisherAddress p < ownAddress s then (withdrawDemand s).port else s.port := by
  unfold noteConflict
  rw [if_pos (by simp [hradio, h])]
  refine ⟨?_, fun hclear => ?_, ?_⟩
  · dsimp only
    split_ifs <;> rfl
  · simp only [hclear, Bool.false_eq_true, if_false]
    split_ifs <;> rfl
  · dsimp only
    split_ifs <;> rfl

/-- An arrival records at most one incident more, after the conflict's (R17, R20). -/
theorem demandArrives_log_cases (p : Publisher) (d : List Byte) (s : State) :
    (demandArrives p d s).log = (heardDemand p s).log ∨
      (demandArrives p d s).log = (heardDemand p s).log.append .demandLost 0 := by
  have hcases (r : DemandRecord) (u : State) : acceptedLog r u = u.log ∨ acceptedLog r u = u.log.append .demandLost 0 := by
    unfold acceptedLog
    split
    · exact .inr rfl
    · exact .inl rfl
  rw [demandArrives_eq]
  split
  · have hlog : _ = (acceptedDemand p d s).log := acceptedDemand_log p d s
    unfold acceptedDemand at hlog
    rw [hlog]
    exact hcases (readDemand p d) ((heardDemand p s).setLatest { s.latest.putAge p (some 0) with source := some p })
  · exact .inl rfl

/-- A port that takes a frame, with the DEMAND slot and the shift buffer as given. -/
def PortHolds (slot : Option (List Byte)) (shift : Option Shift) (q : BusPort) : Prop :=
  q.port ≠ .idle ∧ q.slots.demand = slot ∧ q.shift = shift

/-- A WINCH frame queued on a port that takes a frame leaves the DEMAND slot and the shift buffer (R160). -/
theorem portHolds_queueWinch {slot : Option (List Byte)} {shift : Option Shift} (d : List Byte) {u : State}
    (h : PortHolds slot shift u.port) : PortHolds slot shift (queueFrame .winch d u).port := by
  obtain ⟨hbusy, hslot, hshift⟩ := h
  rw [queueFrame_of_busy _ _ _ hbusy]
  exact ⟨hbusy, hslot, hshift⟩

theorem demandArrives_portHolds {p : Publisher} (d : List Byte) {s : State} {slot : Option (List Byte)}
    {shift : Option Shift} (h : PortHolds slot shift (noteConflict p s).port) :
    PortHolds slot shift (demandArrives p d s).port :=
  demandArrives_queues p d s (PortHolds slot shift) (fun topic ht d u hu => by
    rw [List.mem_singleton.1 ht]
    exact portHolds_queueWinch d hu) h

end Sys2Proof.Machine

open Sys2Proof Sys2Proof.Machine

/-- Settles O10: the conflict is noted before the acceptance, whose blocks queue WINCH frames alone. -/
theorem demandConflict : Obligations.DemandConflict := by
  intro s rx d p htakes hlength hradio hp
  let a := beginReceive rx.span s
  obtain ⟨-, -, hsource⟩ := takesFrame_iff.1 htakes
  have haddress : publisherAddress p = rx.source.toNat := by
    have := List.find?_some hp
    simpa using this
  have hother : publisherAddress p ≠ ownAddress a := by rw [haddress]; exact hsource
  have hdeliver : deliverDemand rx.source d a = demandArrives p d a := by simp [deliverDemand, hp]
  have harrives : Changes _ a (demandArrives p d a) := demandArrives_changes p d a
  have hstation : (deliverDemand rx.source d a).ctl.station = s.ctl.station := by
    rw [hdeliver]
    exact (harrives .mode (by decide)).2.2.1
  have hexec : exec (.demandFrame rx d) s = .next (frameArrives 0x21 rx d deliverDemand s) := rfl
  rw [frameArrives_delivered deliverDemand htakes (by rw [hlength]; rfl) hstation, hdeliver] at hexec
  obtain ⟨hfaults, hlog, hport⟩ := noteConflict_of_other (s := a) hradio hother
  have hport : (noteConflict p a).port = if publisherAddress p < ownAddress s then (withdrawDemand a).port else a.port :=
    hport
  have hchange : (demandArrives p d a).ctl.faults = (noteConflict p a).ctl.faults := by
    rw [demandArrives_eq]
    split
    · rw [demandReact_changes true _ .faults (by decide), takenDemand_changes p d _ .faults (by decide)]
      rfl
    · rfl
  have hholds := demandArrives_portHolds (p := p) d (s := a)
    (slot := if publisherAddress p < ownAddress s then none else s.port.slots.demand)
    (shift := (noteConflict p a).port.shift) 
    ⟨by rw [hport]; split <;> exact PortState.noConfusion, by rw [hport]; split_ifs <;> rfl, rfl⟩
  have hentry := demandArrives_log_cases p d a
  have hset (x : State) (q : BusPort) : Changes [.port] x (x.setPort q) := .of (by simp [allPieces, Piece.same])
  have hframe (q : BusPort) := (((hset s _).mono (by decide : _ ⊆ [.conditions, .isolated, .faults, .startTimer,
      .stationTimer, .commit, .working, .mode, .records, .winchRecord, .port, .steer, .bridge, .winch, .pack, .lamp,
      .log])).trans ((harrives.mono (by decide)).trans ((hset (demandArrives p d a) q).mono (by decide)))).eq
  refine ⟨_, hexec, hframe _, hchange.trans hfaults, fun hclear => ?_, hholds.2.1, fun hlower b hb htopic => ?_⟩
  · have hlast : (heardDemand p a).log.entries.getLast? = some ⟨.demandConflict, s.log.clock, 0⟩ := by
      show (noteConflict p a).log.entries.getLast? = _
      rw [hlog hclear]
      exact IncidentLog.append_last _ _ _
    refine ⟨⟨.demandConflict, s.log.clock, 0⟩, ?_, rfl, rfl⟩
    show _ ∈ (demandArrives p d a).log.entries
    obtain h | h := hentry
    · rw [h]
      exact List.mem_of_getLast? hlast
    · rw [h]
      exact mem_append_of_last hlast _ _
  · refine hholds.2.2.trans ?_
    rw [hport, if_pos hlower]
    show (s.port.shift.map _) = _
    rw [hb]
    simp [htopic]
end

section
/-! ALLOWANCE, WINCH and TRIP frames accepted (O11, O12, O13): the records and the share unit's computation. -/

namespace Sys2Proof.Machine

theorem setPort_changes (s : State) (q : BusPort) : Changes [.port] s (s.setPort q) :=
  .of (by simp [allPieces, Piece.same])

/-- A frame that is delivered to nobody is echoed alone (R153). -/
theorem frameArrives_echoed {s : State} {first : Byte} {rx : Rx} {d : List Byte}
    {deliver : BitVec 4 → List Byte → State → State} (h : takesFrame s first rx d = true)
    (hlength : lengthAllowed first d.length = true)
    (hnone : deliver rx.source d (beginReceive rx.span s) = beginReceive rx.span s) :
    frameArrives first rx d deliver s = { s with port := afterEcho rx.span s.port } := by
  have hlive : (beginReceive rx.span s).ctl.station ≠ .halt := station_ne_halt_of_takesFrame (s := s) h
  rw [frameArrives_of_takesFrame deliver h hlength, hnone, endEcho_of_not_halt rx.span hlive]
  rfl

/-- What an ALLOWANCE accepted leaves of the records and the share unit (R16, R50, R51). -/
theorem acceptAllowance_spec (d : List Byte) (s : State) :
    (acceptAllowance d s).latest.allowance = readAllowance d ∧
      (acceptAllowance d s).latest.demand = s.latest.demand ∧
      (acceptAllowance d s).share =
        if inRun s && decide ((byteAt d 0).toNat < s.share.value) then
          computedShare .lower ((s.setLatest { s.latest with allowance := readAllowance d }).setShare
            { s.share with tripHold := false })
        else { s.share with tripHold := false } := by
  let a := (s.setLatest { s.latest with allowance := readAllowance d }).setShare { s.share with tripHold := false }
  have haccept : acceptAllowance d s = winchReact false (evalCues
      (if inRun s && decide ((byteAt d 0).toNat < s.share.value) then shareCompute .lower a else a)) := rfl
  have hreact (u : State) : Changes [.winchRecord, .port, .bridge, .winch, .lamp] u (winchReact false (evalCues u)) :=
    ((evalCues_changes u).mono (by decide)).trans (winchReact_changes false _)
  rw [haccept]
  split
  · have hcompute := shareCompute_changes .lower a
    obtain ⟨hdemand, hallowance, -⟩ := (hreact (shareCompute .lower a)) .records (by decide)
    obtain ⟨hdemand', hallowance', -⟩ := hcompute .records (by decide)
    exact ⟨hallowance.trans hallowance', hdemand.trans hdemand',
      (hreact (shareCompute .lower a) .share (by decide)).trans (shareCompute_share _ _)⟩
  · obtain ⟨hdemand, hallowance, -⟩ := hreact a .records (by decide)
    exact ⟨hallowance, hdemand, hreact a .share (by decide)⟩

/-- The share unit after a TRIP (R18, R50). -/
theorem takeTrip_share (s : State) : (takeTrip s).share =
    if inRun s then computedShare .trip (s.setShare { s.share with tripHold := true })
    else { s.share with tripHold := true } := by
  have htrip : takeTrip s = if inRun s then shareCompute .trip (s.setShare { s.share with tripHold := true })
      else s.setShare { s.share with tripHold := true } := rfl
  rw [htrip]
  split
  · exact shareCompute_share _ _
  · rfl

/-- A computation with nothing to grant grants nothing (R56). -/
theorem allocate_zero {own sums : Tiers} (h : own.Le sums) : allocate 0 own sums = {} := by
  obtain ⟨-, hsum⟩ := allocate_within h 0
  generalize allocate 0 own sums = g at hsum
  obtain ⟨k, a, b, c⟩ := g
  simp only [Nat.le_zero, Nat.add_eq_zero_iff] at hsum
  obtain ⟨⟨⟨rfl, rfl⟩, rfl⟩, rfl⟩ := hsum
  rfl

/-- The assist cap with the WINCH record just taken (R103). -/
theorem evalAssist_spec {s : State} (haxle : isAxle s = true) :
    (evalAssist s).bridge.assist = assistCap s ∧
      (∀ c, assistCap s = some c → s.bridge.driveState = .driveFwd →
        (evalAssist s).bridge.outDuty = min s.bridge.outDuty (c : Int)) ∧
      (assistCap s = none → (evalAssist s).bridge = { s.bridge with assist := none }) := by
  unfold evalAssist
  rw [if_pos haxle]
  dsimp only
  cases assistCap s with
  | none => exact ⟨rfl, fun c h => absurd h (by simp), fun _ => rfl⟩
  | some c =>
    refine ⟨?_, fun x hx hdrive => ?_, fun h => absurd h (by simp)⟩
    · dsimp only
      split <;> rfl
    · obtain rfl := Option.some.inj hx
      by_cases hcut : (c : Int) < s.bridge.outDuty
      · simp [hdrive, hcut, writeShadow]
        omega
      · simp [hdrive, hcut]
        omega

end Sys2Proof.Machine

open Sys2Proof Sys2Proof.Machine

/-- Settles O11: an ALLOWANCE of address 3 enters the record, and a lower one is computed on. -/
theorem allowanceFrameAccepted : Obligations.AllowanceFrameAccepted := by
  intro s rx d htakes hlength
  let a := beginReceive rx.span s
  have hallowed : lengthAllowed 0x01 d.length = true := by rw [hlength]; rfl
  have hdelivered : Changes _ a (deliverAllowance rx.source d a) := deliverAllowance_changes rx.source d a
  have hexec : exec (.allowanceFrame rx d) s = .next (frameArrives 0x01 rx d deliverAllowance s) := rfl
  rw [frameArrives_delivered deliverAllowance htakes hallowed (hdelivered .mode (by decide)).2.2.1] at hexec
  refine ⟨_, hexec, ?frame, fun hother => ?other, fun hpack => ?pack⟩
  case frame =>
    exact (((setPort_changes s _).mono (by decide : _ ⊆ [.records, .winchRecord, .port, .share, .lamp, .winch, .bridge])).trans
      ((hdelivered.mono (by decide)).trans ((setPort_changes _ _).mono (by decide)))).eq
  case other =>
    have hnone : deliverAllowance rx.source d a = a := if_neg hother
    rw [hnone]
    rfl
  case pack =>
    have hsome : deliverAllowance rx.source d a = acceptAllowance d a := if_pos hpack
    rw [hsome]
    obtain ⟨hallowance, hdemand, hshare⟩ := acceptAllowance_spec d a
    have hrun : inRun a = true ↔ s.ctl.station = .run := beq_iff_eq
    have hvalue : a.share = s.share := rfl
    generalize acceptAllowance d a = u at hallowance hdemand hshare ⊢
    refine ⟨hallowance, hdemand, ?_, fun hr hlow => ?_, fun hnot => ?_⟩
    · show u.share.tripHold = false
      rw [hshare]
      split <;> rfl
    · show u.share.value = _ ∧ u.share.basis = _ ∧ u.share.cause = _
      rw [hshare, if_pos (by simp [hrun.2 hr, hvalue, hlow])]
      exact ⟨rfl, rfl, rfl⟩
    · show u.share = _
      rw [hshare, if_neg, hvalue]
      rw [Bool.and_eq_true, hrun, decide_eq_true_iff, hvalue]
      exact hnot

/-- Settles O13: a TRIP of address 3 sets the hold; the computation of a station in RUN then uses 0. -/
theorem tripFrameZeroesGrants : Obligations.TripFrameZeroesGrants := by
  intro s rx d htakes hlength
  let a := beginReceive rx.span s
  have hallowed : lengthAllowed 0x02 d.length = true := by rw [hlength]; rfl
  have hdelivered : Changes _ a (deliverTrip rx.source d a) := deliverTrip_changes rx.source d a
  have hexec : exec (.tripFrame rx d) s = .next (frameArrives 0x02 rx d deliverTrip s) := rfl
  rw [frameArrives_delivered deliverTrip htakes hallowed (hdelivered .mode (by decide)).2.2.1] at hexec
  refine ⟨_, hexec, ?frame, fun hother => ?other, fun hpack => ?pack⟩
  case frame =>
    exact (((setPort_changes s _).mono (by decide : _ ⊆ [.records, .winchRecord, .port, .share, .lamp, .winch, .bridge])).trans
      ((hdelivered.mono (by decide)).trans ((setPort_changes _ _).mono (by decide)))).eq
  case other =>
    have hnone : deliverTrip rx.source d a = a := if_neg hother
    rw [hnone]
    rfl
  case pack =>
    have hsome : deliverTrip rx.source d a = takeTrip a := if_pos hpack
    rw [hsome]
    have hallowance : (takeTrip a).latest.allowance = s.latest.allowance :=
      (takeTrip_changes a .records (by decide)).2.1
    have hshare := takeTrip_share a
    generalize takeTrip a = u at hallowance hshare ⊢
    refine ⟨?_, hallowance, fun hnot => ?_, fun hr hrole => ?_⟩
    · show u.share.tripHold = true
      rw [hshare]
      split <;> rfl
    · show u.share = _
      rw [hshare, if_neg (show ¬ inRun a = true from fun h => hnot (beq_iff_eq.1 h))]
      rfl
    · have hgrants : (computedShare .trip (a.setShare { a.share with tripHold := true })).grants = {} :=
        allocate_zero (ownWants_le_viewSums (s := a.setShare { a.share with tripHold := true }) hrole _)
      show u.share.value = _ ∧ u.share.basis = _ ∧ u.share.cause = _ ∧ u.share.grants = _
      rw [hshare, if_pos (show inRun a = true from beq_iff_eq.2 hr)]
      exact ⟨rfl, rfl, rfl, hgrants⟩

/-- Settles O12: a WINCH of address 2 enters the record, and the assist cap follows it. -/
theorem winchFrameSetsAssist : Obligations.WinchFrameSetsAssist := by
  intro s rx d htakes hlength
  let a := beginReceive rx.span s
  have hallowed : lengthAllowed 0x41 d.length = true := by rw [hlength]; rfl
  have hdelivered : Changes _ a (deliverWinch rx.source d a) := deliverWinch_changes rx.source d a
  have hexec : exec (.winchFrame rx d) s = .next (frameArrives 0x41 rx d deliverWinch s) := rfl
  rw [frameArrives_delivered deliverWinch htakes hallowed (hdelivered .mode (by decide)).2.2.1] at hexec
  refine ⟨_, hexec, fun hother => ?other, fun hwinch => ?winch⟩
  case other =>
    have hnone : deliverWinch rx.source d a = a := if_neg hother
    rw [hnone]
    rfl
  case winch =>
    let v := a.setLatest { a.latest with winch := readWinch d }
    have hsome : deliverWinch rx.source d a = evalAssist v := if_pos hwinch
    have hlatest : (evalAssist v).latest = v.latest := by simp
    have hcap (haxle : isAxle s = true) : assistCap v =
        if byteAt d 0 = 2 then some (assistDuty s * (byteAt d 1).toNat / 255) else none := by
      have haxle' : isAxle v = true := haxle
      unfold assistCap
      rw [haxle']
      by_cases h : byteAt d 0 = 2
      · have hstate : v.latest.winch.winchState = WinchState.haul.code := h
        rw [if_pos h, if_pos (by simp [hstate]; rfl)]
        rfl
      · have hstate : v.latest.winch.winchState ≠ WinchState.haul.code := h
        rw [if_neg h, if_neg (by simp [hstate])]
    have hspec (haxle : isAxle s = true) := evalAssist_spec (s := v) haxle
    rw [hsome] at hdelivered ⊢
    have hold : v.bridge = s.bridge := rfl
    refine ⟨?_, ?_, fun haxle => ?_⟩
    · exact (((setPort_changes s _).mono (by decide : _ ⊆ [.records, .winchRecord, .port, .bridge])).trans
        ((hdelivered.mono (by decide)).trans ((setPort_changes _ _).mono (by decide)))).eq
    · exact hlatest
    · obtain ⟨hassist, hduty, hnone⟩ := hspec haxle
      rw [hcap haxle] at hassist hduty hnone
      rw [hold] at hduty hnone
      generalize evalAssist v = u at hassist hduty hnone ⊢
      exact ⟨hassist, fun h hdrive => hduty _ (if_pos h) hdrive, fun h => hnone (if_neg h)⟩
end

section
/-! The frame commands as one (O14, O15): every one of them is an arrival of its bytes, with an effect of its own. -/

namespace Sys2Proof.Machine

/-- Each frame command is the arrival of its topic and bytes (R152, R153). -/
theorem exec_frameCommand {f first target : Byte} {kind d x : List Byte} {rx : Rx} {p : Pins} {c : Instr}
    (h : (f, x, c) ∈ frameCommands first target kind d rx p) :
    ∃ deliver, ∀ s, exec c s = .next (frameArrives f rx x deliver s) := by
  simp only [frameCommands, List.mem_cons, List.not_mem_nil, or_false, Prod.mk.injEq] at h
  obtain h | h | h | h | h | h | h | h | h | h | h | h | h | h | h | h | h | h | h | h | h | h | h | h := h
  all_goals
    obtain ⟨rfl, rfl, rfl⟩ := h
    exact ⟨_, fun _ => rfl⟩

/-- An intact frame of a length its layout does not allow is echoed alone (R152, section 11.3). -/
theorem frameArrives_of_length {s : State} {first : Byte} {rx : Rx} {d : List Byte}
    (deliver : BitVec 4 → List Byte → State → State) (h : takesFrame s first rx d = true)
    (hlength : lengthAllowed first d.length = false) :
    frameArrives first rx d deliver s = { s with port := afterEcho rx.span s.port } := by
  obtain ⟨hlisten, hintact, hsource⟩ := takesFrame_iff.1 h
  have hother : rx.source.toNat ≠ ownAddress (beginReceive rx.span s) := hsource
  have hlive : (beginReceive rx.span s).ctl.station ≠ .halt := station_ne_halt_of_takesFrame (s := s) h
  have harrives : frameArrives first rx d deliver s = endEcho rx.span (beginReceive rx.span s) := by
    simp [frameArrives, hlisten, hintact, hother, hlength]
  rw [harrives, endEcho_of_not_halt rx.span hlive]
  rfl

/-- A frame that nobody is handed is echoed alone (R153). -/
theorem frameArrives_echoOnly {s : State} {first : Byte} {rx : Rx} {d : List Byte}
    (h : takesFrame s first rx d = true) :
    frameArrives first rx d echoOnly s = { s with port := afterEcho rx.span s.port } := by
  cases hlength : lengthAllowed first d.length
  · exact frameArrives_of_length echoOnly h hlength
  · exact frameArrives_echoed h hlength rfl

/-- A receive error is counted, and drives no echo (R152). -/
theorem frameArrives_error {s : State} {first : Byte} {rx : Rx} {d : List Byte} {e : RxError}
    (deliver : BitVec 4 → List Byte → State → State) (hlisten : listening s = true)
    (herror : receive first rx d = .error e) :
    frameArrives first rx d deliver s = { s with port := { s.port with
      port := .waitIdle, recessive := 0, paceSpan := rx.span, stuckCounted := false, echo := .silent
      rxErrors := min (s.port.rxErrors + 1) 255, lastError := some e } } := by
  simp only [frameArrives, hlisten, herror, if_true]
  rfl

/-- A frame with the station's own address is a clash (R159). -/
theorem frameArrives_clash {s : State} {first : Byte} {rx : Rx} {d : List Byte}
    (deliver : BitVec 4 → List Byte → State → State) (hlisten : listening s = true)
    (hintact : receive first rx d = .intact d) (hsource : rx.source.toNat = ownAddress s) :
    frameArrives first rx d deliver s = detectClash (beginReceive rx.span s) := by
  have hown : rx.source.toNat = ownAddress (beginReceive rx.span s) := hsource
  simp [frameArrives, hlisten, hintact, hown]

/-- No cue of hazard stands in HALT (R133, R135). -/
theorem enterHalt_hazard (s : State) :
    (enterHalt s).lamp.cues.hazard = false ∧ (enterHalt s).lamp.cues.hazardRequest = false := by
  obtain ⟨u, hcues, hrun⟩ : ∃ u, (enterHalt s).lamp.cues = computeCues u ∧ inRun u = false := ⟨_, rfl, rfl⟩
  rw [hcues]
  simp [computeCues, hrun]

end Sys2Proof.Machine

open Sys2Proof Sys2Proof.Machine

/-- Settles O14: the three ways a frame ends at the port alone. -/
theorem frameErrorsAndEchoes : Obligations.FrameErrorsAndEchoes := by
  intro s rx d first
  refine ⟨fun e target kind x p c hmem hlisten herror => ?_, fun target kind x p c hmem htakes hlength => ?_,
    fun htakes => congrArg Host.Outcome.next (frameArrives_echoOnly htakes),
    fun htakes => congrArg Host.Outcome.next (frameArrives_echoOnly htakes)⟩
  · obtain ⟨deliver, hexec⟩ := exec_frameCommand hmem
    rw [hexec, frameArrives_error deliver hlisten herror]
  · obtain ⟨deliver, hexec⟩ := exec_frameCommand hmem
    rw [hexec, frameArrives_of_length deliver htakes hlength]

/-- Settles O15: the clash mark, and HALT. -/
theorem clashHalts : Obligations.ClashHalts := by
  intro s rx first target kind d x p c hmem hlisten hintact hsource
  obtain ⟨deliver, hexec⟩ := exec_frameCommand hmem
  let a := (beginReceive rx.span s).setPort { (beginReceive rx.span s).port with echo := .clashMark }
  have hhalt : exec c s = .next (enterHalt a) := by
    rw [hexec, frameArrives_clash deliver hlisten hintact hsource]
    rfl
  obtain ⟨hgates, hlamps, hservo, hclosed⟩ := enterHalt_idle a
  obtain ⟨hhazard, hrequest⟩ := enterHalt_hazard a
  obtain ⟨hpins, hpeers, hlatest, hcap, hlog, -, -, hnvm, hport, -⟩ := enterHalt_blocks a
  have hctl := enterHalt_ctl a
  exact ⟨_, hhalt, by rw [hctl], by rw [hctl], by rw [hctl], by rw [hctl], by rw [hport]; rfl, by rw [hport]; rfl,
    by rw [hport]; rfl, hgates, hlamps, hservo, hclosed, hhazard, hrequest, hpeers, hlatest, hlog, by rw [hctl]; rfl, hcap,
    hpins, by rw [hctl]; rfl, hnvm⟩
end

section
/-! HOLD, SETTING read back, and RELEASE (O16, O18, O19). -/

namespace Sys2Proof.Machine

/-- A service frame for another station is echoed alone (R164). -/
theorem frameArrives_of_not_targeted {s : State} {first : Byte} {rx : Rx} {data : List Byte}
    (take : BitVec 4 → State → State) (h : takesFrame s first rx data = true)
    (hlength : lengthAllowed first data.length = true) (htarget : targeted s (byteAt data 0) = false) :
    frameArrives first rx data (serve take) s = { s with port := afterEcho rx.span s.port } := by
  refine frameArrives_echoed h hlength ?_
  have hother : targeted (beginReceive rx.span s) (byteAt data 0) = false := htarget
  simp [serve, hother]

/-- SETUP entered while the port takes the HOLD: a STATION waits in its slot (R4, R14, R155). -/
theorem enterSetup_beginReceive (span : Nat) {s : State} (h : s.ctl.station = .start) :
    ∃ d, enterSetup (beginReceive span s) = { s with
      ctl := { s.ctl with station := .setup, startTimer := none, stationTimer := some 20 }
      lamp := (evalCues s).lamp
      port := { (beginReceive span s).port with slots := { s.port.slots with station := some d } } } := by
  let u := (beginReceive span s).setCtl { s.ctl with station := .setup, startTimer := none }
  have hlamp : (evalCues u).lamp = (evalCues s).lamp := by
    have hself : s = s.setCtl { s.ctl with station := .start } := by rw [← h]; rfl
    rw [hself]
    rfl
  have hbusy : ((evalCues u).setCtl { (evalCues u).ctl with stationTimer := some 20 }).port.port ≠ .idle := by
    have hport : ((evalCues u).setCtl { (evalCues u).ctl with stationTimer := some 20 }).port.port = .receive := by
      simp [u, beginReceive]
    rw [hport]
    decide
  refine ⟨stationData (evalCues u), ?_⟩
  show queueStation (evalCues u) = _
  unfold queueStation
  rw [queueFrame_of_busy _ _ _ hbusy, ← hlamp]
  rfl

/-- A SETTING with a listed id has a place in the working copy. -/
theorem settingRow_place {id : Nat} {r : SettingRow} (h : settingRow id = some r) : id < settingPlaces := by
  have hid : r.id = id := by simpa using List.find?_some h
  have hplace := (settingRows_sound r (List.mem_of_find?_eq_some h)).2
  rwa [hid] at hplace

/-- The two bytes of a stored value are those the SETTING carried (R166, section 11.4). -/
theorem intBytes2_settingValue (id : Nat) (value : Half) : intBytes2 (settingValue id value) = bytes2 value := by
  unfold intBytes2 settingValue
  split
  · rw [BitVec.ofInt_toInt]
  · rw [BitVec.ofInt_natCast, BitVec.ofNat_toNat, BitVec.setWidth_eq]

end Sys2Proof.Machine

open Sys2Proof Sys2Proof.Machine

/-- Settles O16: outside START a HOLD is refused; in START the entry to SETUP queues its STATION before the answer. -/
theorem holdEntersSetup : Obligations.HoldEntersSetup := by
  intro s rx target htakes
  have hlive := station_ne_halt_of_takesFrame htakes
  have hexec : exec (.hold rx [target]) s = .next (frameArrives 0x84 rx [target] (serve takeHold) s) := rfl
  refine ⟨_, hexec, fun hother => ?other, fun htarget hstart => ?setup, fun htarget hnot => ?refused⟩
  case other => exact frameArrives_of_not_targeted takeHold htakes rfl hother
  case setup =>
    obtain ⟨d, hsetup⟩ := enterSetup_beginReceive rx.span hstart
    have htake : takeHold rx.source (beginReceive rx.span s) =
        answer rx.source 20 .ok 0 [] (enterSetup (beginReceive rx.span s)) := if_pos (beq_iff_eq.2 hstart)
    rw [frameArrives_of_served takeHold htakes rfl htarget, htake, hsetup]
    unfold answer
    rw [queueFrame_of_busy _ _ _ (by simp [beginReceive]), endEcho_of_not_halt _ (by simp)]
    exact ⟨⟨d, rfl⟩, rfl⟩
  case refused =>
    have htake : takeHold rx.source (beginReceive rx.span s) =
        answer rx.source 20 .wrongState 0 [] (beginReceive rx.span s) := if_neg fun h => hnot (beq_iff_eq.1 h)
    rw [frameArrives_of_served takeHold htakes rfl htarget, htake, endEcho_answered _ _ _ _ _ _ hlive]
    rfl

/-- Settles O18: FETCH SETTING reads the working copy, which the SETTING has written at its one place. -/
theorem settingReadsBack : Obligations.SettingReadsBack := by
  intro s id value r hlength hstation hcommit hrow hadmits
  have hok : settingResult s id.toNat value = .ok := by
    rw [settingResult_of_row value hstation hcommit hrow, if_pos hadmits]
  have hworking : (takeSetting id value 15 s).ctl.working =
      s.ctl.working.set id.toNat (settingValue id.toNat value) := by
    rw [takeSetting_eq, answer_changes _ _ _ _ _ _ .working (by decide), writeSetting_of_ok hok]
    rfl
  have hfetch (u : State) (k : Nat) : fetchPayload u 4 k =
      if (settingRow k).isSome then some (intBytes2 (settingAt u.ctl.working k)) else none := rfl
  have hplace : id.toNat < s.ctl.working.length := by rw [hlength]; exact settingRow_place hrow
  refine ⟨?_, fun k hk => ?_⟩
  · rw [hfetch, if_pos (by rw [hrow]; rfl), hworking, settingAt_set_self _ _ hplace, intBytes2_settingValue]
  · rw [hfetch, hfetch, hworking, settingAt_set_of_ne _ _ hk]

/-- Settles O19: the commit starts in SETUP where none runs. -/
theorem releaseStartsCommit : Obligations.ReleaseStartsCommit := by
  intro s rx target htakes htarget
  have hlive := station_ne_halt_of_takesFrame htakes
  have hexec : exec (.release rx [target]) s = .next (frameArrives 0x85 rx [target] (serve takeRelease) s) := rfl
  have htake : takeRelease rx.source (beginReceive rx.span s) =
      if s.ctl.station != .setup then answer rx.source 21 .wrongState 0 [] (beginReceive rx.span s)
      else if s.ctl.commit.isSome then answer rx.source 21 .busy 0 [] (beginReceive rx.span s)
      else (beginReceive rx.span s).setCtl { s.ctl with commit := some ⟨rx.source, 0⟩ } := rfl
  refine ⟨_, hexec, fun hnot => ?_, fun hsetup hcommit => ?_, fun hsetup hcommit => ?_⟩
  · rw [frameArrives_of_served takeRelease htakes rfl htarget, htake, if_pos (by simp [hnot]),
      endEcho_answered _ _ _ _ _ _ hlive]
    rfl
  · rw [frameArrives_of_served takeRelease htakes rfl htarget, htake, if_neg (by simp [hsetup]), if_pos hcommit,
      endEcho_answered _ _ _ _ _ _ hlive]
    rfl
  · rw [frameArrives_of_served takeRelease htakes rfl htarget, htake, if_neg (by simp [hsetup]),
      if_neg (by simp [hcommit]), endEcho_of_not_halt _ (by simp [hsetup])]
    rfl
end

section
/-! FETCH (O20): every item of section 11.4 by its kind, at most five bytes long. -/

namespace Sys2Proof.Machine

/-! ### The length of a payload (R171) -/

section
variable {s : State} {i : Nat} {p : List Byte}

theorem fetchedSummary_length (h : fetchedSummary s i = some p) : p.length ≤ 5 := by
  unfold fetchedSummary at h
  split at h <;> cases h <;> simp [natBytes4, natBytes2, bytes2]

theorem fetchedPeer_length (h : fetchedPeer s i = some p) : p.length ≤ 5 := by
  unfold fetchedPeer at h
  split at h
  · cases h
  · split at h
    · cases h
    · dsimp only at h
      split at h <;> cases h <;> simp [natBytes2, bytes2]

theorem fetchedIncident_length (h : fetchedIncident s i = some p) : p.length ≤ 5 := by
  unfold fetchedIncident at h
  split at h
  · cases h
  · split at h <;> cases h <;> simp [natBytes4, natBytes2, bytes2]

theorem fetchedSetting_length (h : fetchedSetting s i = some p) : p.length ≤ 5 := by
  unfold fetchedSetting at h
  split at h <;> cases h
  simp [intBytes2, bytes2]

theorem fetchedShare_length (h : fetchedShare s i = some p) : p.length ≤ 5 := by
  unfold fetchedShare at h
  dsimp only at h
  split at h <;> cases h <;> simp [natBytes2, bytes2, tierBytes]

theorem fetchedCells_length (h : fetchedCells s i = some p) : p.length ≤ 5 := by
  unfold fetchedCells at h
  split at h <;> cases h
  simp [natBytes2, bytes2]

theorem fetchedScan_length (h : fetchedScan s i = some p) : p.length ≤ 5 := by
  unfold fetchedScan at h
  dsimp only at h
  split at h
  · split at h <;> cases h <;> simp [natBytes2, bytes2]
  · cases h

theorem fetchedCapture_length (h : fetchedCapture s i = some p) : p.length ≤ 5 := by
  unfold fetchedCapture at h
  split at h
  · split at h
    · cases h
      simp [natBytes2, intBytes2, bytes2]
    · split at h <;> cases h
      simp
  · cases h

theorem fetchedWinch_length (h : fetchedWinch s i = some p) : p.length ≤ 5 := by
  unfold fetchedWinch at h
  dsimp only at h
  split at h
  · split at h <;> cases h <;> simp [natBytes2, intBytes2, bytes2]
  · cases h

theorem fetchedBridge_length (h : fetchedBridge s i = some p) : p.length ≤ 5 := by
  unfold fetchedBridge at h
  split at h
  · split at h
    · unfold fetchedBridgeUnit at h
      dsimp only at h
      split at h <;> cases h <;> simp [natBytes2, intBytes2, bytes2]
    · split at h
      · unfold fetchedSteering at h
        dsimp only at h
        split at h <;> cases h <;> simp [intBytes2, bytes2]
      · cases h
  · cases h

/-- An ANSWER's payload has at most five bytes (R171). -/
theorem fetchPayload_length {kind : Nat} (h : fetchPayload s kind i = some p) : p.length ≤ 5 := by
  unfold fetchPayload at h
  split at h
  · exact fetchedSummary_length h
  · exact fetchedPeer_length h
  · exact fetchedIncident_length h
  · exact fetchedSetting_length h
  · exact fetchedShare_length h
  · exact fetchedCells_length h
  · exact fetchedCapture_length h
  · exact fetchedWinch_length h
  · exact fetchedBridge_length h
  · exact fetchedScan_length h
  · cases h

end

/-! ### The arrival (R164, R165) -/

/-- Each FETCH command is the arrival of its three data bytes. -/
theorem exec_fetchCommand {rx : Rx} {target kind index : Byte} {c : Instr}
    (h : (kind, c) ∈ [(1, Instr.fetchSummary rx target [index]), (2, .fetchPeer rx target [index]),
      (3, .fetchIncident rx target [index]), (4, .fetchSetting rx target [index]), (5, .fetchShare rx target [index]),
      (6, .fetchCells rx target [index]), (7, .fetchCapture rx target [index]), (8, .fetchWinch rx target [index]),
      (9, .fetchBridge rx target [index]), (10, .fetchScan rx target [index]),
      (kind, Instr.fetchUnknownKind rx [target] [kind] [index])]) (s : State) :
    exec c s = .next (frameArrives 0x81 rx [target, kind, index] (serve (takeFetch kind index)) s) := by
  simp only [List.mem_cons, List.not_mem_nil, or_false, Prod.mk.injEq, true_and] at h
  obtain h | h | h | h | h | h | h | h | h | h | h := h
  case inr.inr.inr.inr.inr.inr.inr.inr.inr.inr => rw [h]; rfl
  all_goals
    obtain ⟨rfl, rfl⟩ := h
    rfl

/-- A FETCH taken is answered with what the payload's function gives; a port that takes the frame does not change it
but for its own figures. -/
theorem takeFetch_answered (kind index : Byte) (source : BitVec 4) (span : Nat) (s : State) :
    ∃ result payload, takeFetch kind index source (beginReceive span s) =
        answer source (answeredKind kind) result index payload (beginReceive span s) ∧
      ((result = .ok ∧ fetchPayload s kind.toNat index.toNat = some payload) ∨
        (result = .unknown ∧ fetchPayload s kind.toNat index.toNat = none ∧ payload = [])) := by
  have hsame : fetchPayload (beginReceive span s) kind.toNat index.toNat = fetchPayload s kind.toNat index.toNat := rfl
  unfold takeFetch
  rw [hsame]
  cases fetchPayload s kind.toNat index.toNat with
  | none => exact ⟨.unknown, [], rfl, .inr ⟨rfl, rfl, rfl⟩⟩
  | some payload => exact ⟨.ok, payload, rfl, .inl ⟨rfl, rfl⟩⟩

/-! ### The items (section 11.4) -/

section
variable (s : State)

theorem fetched_kinds (k : Nat) (h : 11 ≤ k ∨ k = 0) (i : Nat) : fetchPayload s k i = none := by
  obtain h | rfl := h
  · obtain ⟨n, rfl⟩ := Nat.exists_eq_add_of_le h
    rw [Nat.add_comm]
    rfl
  · rfl

theorem fetched_lastError : fetchPayload s 1 1 = some [natByte s.port.unheard, natByte s.port.rxErrors,
    (if s.port.lastError = none then 0 else if s.port.lastError = some .framing then 1
      else if s.port.lastError = some .format then 2 else if s.port.lastError = some .check then 3
      else if s.port.lastError = some .pace then 4 else 5),
    natByte s.port.lostArbitrations, natByte s.port.collisions] := by
  show fetchedSummary s 1 = _
  unfold fetchedSummary
  cases s.port.lastError with
  | none => rfl
  | some e => cases e <;> rfl

theorem fetched_past {k : Nat} (i : Nat) (h : k ≤ i) : ∃ n, i = n + k := ⟨i - k, by omega⟩

theorem find_role (r : Role) : (allRoles.find? fun q => roleAddress q == roleAddress r) = some r := by
  cases r <;> rfl

theorem find_role_none {a : Nat} (h : 5 ≤ a) : (allRoles.find? fun q => roleAddress q == a) = none := by
  rw [List.find?_eq_none]
  intro q _
  have hlow (q : Role) : roleAddress q < 5 := by cases q <;> decide
  have := hlow q
  simp only [beq_iff_eq]
  omega

/-- The three items of a peer's entry (section 11.4). -/
def peerItem (e : Peer) : Nat → Option (List Byte)
  | 0 => some (e.presence.code :: natBytes2 e.age ++ [e.stateByte, e.faults])
  | 1 => some [e.cues, e.phase, e.wantK, e.wantA, e.wantB]
  | 2 => some [e.wantC]
  | _ => none

/-- The two items of an incident (section 11.4). -/
def incidentItem (e : Incident) : Nat → Option (List Byte)
  | 0 => some (e.code.code :: natBytes4 e.time)
  | 1 => some (e.code.code :: bytes2 e.detail)
  | _ => none

theorem fetched_peer_at (r : Role) (j : Nat) : fetchPayload s 2 (8 * j + roleAddress r) =
    if roleIs s r then none
    else peerItem (s.peers.at r) j := by
  have haddress : (8 * j + roleAddress r) % 8 = roleAddress r ∧ (8 * j + roleAddress r) / 8 = j := by
    have hlow : roleAddress r < 8 := by cases r <;> decide
    omega
  show fetchedPeer s _ = _
  unfold fetchedPeer
  rw [haddress.1, haddress.2, find_role]
  rfl

theorem fetched_peer_none (i : Nat) (h : 5 ≤ i % 8 ∨ 24 ≤ i) : fetchPayload s 2 i = none := by
  show fetchedPeer s i = none
  unfold fetchedPeer
  obtain h | h := h
  · rw [find_role_none h]
  · obtain ⟨n, hn⟩ := fetched_past (k := 3) (i / 8) (by omega)
    rw [hn]
    split
    · rfl
    · split <;> rfl

theorem fetched_incident (k j : Nat) (hk : k < 8) : fetchPayload s 3 (8 * j + k) =
    s.log.entries[k]?.bind fun e => incidentItem e j := by
  have hplace : (8 * j + k) % 8 = k ∧ (8 * j + k) / 8 = j := by omega
  show fetchedIncident s _ = _
  unfold fetchedIncident
  rw [hplace.1, hplace.2]
  cases s.log.entries[k]? with
  | none => rfl
  | some e => rfl

theorem fetched_incident_none (i : Nat) (h : 16 ≤ i) : fetchPayload s 3 i = none := by
  obtain ⟨n, hn⟩ := fetched_past (k := 2) (i / 8) (by omega)
  have hi : i = 8 * (n + 2) + i % 8 := by omega
  rw [hi, fetched_incident s (i % 8) (n + 2) (by omega)]
  cases s.log.entries[i % 8]? <;> rfl

theorem fetched_share_basis : fetchPayload s 5 0 = some ([natByte s.share.value,
    (if s.share.basis = .none then 0 else if s.share.basis = .record then 1 else if s.share.basis = .trip then 2 else 3)] ++
    natBytes2 s.share.age ++ [if s.share.tripHold then 1 else 0]) := by
  show fetchedShare s 0 = _
  unfold fetchedShare
  dsimp only
  cases s.share.basis <;> rfl

theorem fetched_share_cause : fetchPayload s 5 3 = some (natBytes2 s.share.count ++ [if s.share.cause = none then 0
    else if s.share.cause = some .entry then 1 else if s.share.cause = some .timer then 2
    else if s.share.cause = some .lower then 3 else 4]) := by
  show fetchedShare s 3 = _
  unfold fetchedShare
  dsimp only
  cases s.share.cause with
  | none => rfl
  | some c => cases c <;> rfl

theorem fetched_share_none (i : Nat) (h : 4 ≤ i) : fetchPayload s 5 i = none := by
  obtain ⟨n, rfl⟩ := fetched_past i h
  rfl

theorem fetched_pack_none (h : roleIs s .pack = false) (i : Nat) :
    fetchPayload s 6 i = none ∧ fetchPayload s 10 i = none := by
  constructor
  · show fetchedCells s i = none
    simp [fetchedCells, h]
  · show fetchedScan s i = none
    simp [fetchedScan, h]

section
variable {s} (h : roleIs s .pack = true)
include h

theorem fetched_cells (i : Nat) (hi : i ≤ 1) : fetchPayload s 6 i =
    some (natBytes2 (cellAt s.pack.table (2 * i)) ++ natBytes2 (cellAt s.pack.table (2 * i + 1))) := by
  show fetchedCells s i = _
  simp [fetchedCells, h, hi]

theorem fetched_cells_none (i : Nat) (hi : 2 ≤ i) : fetchPayload s 6 i = none := by
  have hpast : ¬ i ≤ 1 := by omega
  show fetchedCells s i = _
  simp [fetchedCells, h, hpast]

theorem fetched_scan :
    fetchPayload s 10 0 = some (natBytes2 s.pack.table.vMin ++ [natByte s.pack.table.current,
      BitVec.ofInt 8 s.pack.table.temp, if s.pack.table.sensorFault then 1 else 0]) ∧
    fetchPayload s 10 1 = some (natBytes2 s.pack.table.scans ++ [s.pack.state.code, natByte s.pack.tripCount,
      if s.pack.closed then 1 else 0]) ∧
    fetchPayload s 10 2 = some [natByte s.pack.trim, natByte s.pack.rampCap, natByte s.pack.aPrev] ∧
    ∀ i, 3 ≤ i → fetchPayload s 10 i = none := by
  have hitem (i : Nat) : fetchPayload s 10 i = match i with
      | 0 => some (natBytes2 s.pack.table.vMin ++ [natByte s.pack.table.current, BitVec.ofInt 8 s.pack.table.temp,
          flagByte s.pack.table.sensorFault])
      | 1 => some (natBytes2 s.pack.table.scans ++ [s.pack.state.code, natByte s.pack.tripCount, flagByte s.pack.closed])
      | 2 => some [natByte s.pack.trim, natByte s.pack.rampCap, natByte s.pack.aPrev]
      | _ => none := by
    show fetchedScan s i = _
    unfold fetchedScan
    rw [h]
    rfl
  refine ⟨hitem 0, hitem 1, hitem 2, fun i hi => ?_⟩
  obtain ⟨n, rfl⟩ := fetched_past i hi
  exact hitem (n + 3)

end

theorem fetched_capture_none (h : s.ctl.radio = false) (i : Nat) : fetchPayload s 7 i = none := by
  show fetchedCapture s i = none
  simp [fetchedCapture, h]

theorem fetched_capture (h : s.ctl.radio = true) :
    (∀ i, i < 6 → fetchPayload s 7 i = some (natBytes2 (channelAt s i).width ++ intBytes2 (channelAt s i).value ++
        [(channelAt s i).band.code ++ (channelAt s i).zone.code])) ∧
      fetchPayload s 7 6 = some [0#6 ++ s.dem.link.code, if s.dem.armed then 1 else 0, natByte (quality s.dem.history),
        natByte s.cap.rejected, if s.dem.published then 1 else 0] ∧
      ∀ i, 7 ≤ i → fetchPayload s 7 i = none := by
  refine ⟨fun i hi => ?_, ?_, fun i hi => ?_⟩
  · show fetchedCapture s i = _
    unfold fetchedCapture
    rw [if_pos h, if_pos (by omega)]
  · show fetchedCapture s 6 = _
    unfold fetchedCapture
    rw [if_pos h]
    rfl
  · show fetchedCapture s i = _
    unfold fetchedCapture
    rw [if_pos h, if_neg (by omega), if_neg (by omega)]

/-! ### WINCH (R131) -/

/-- Two low flags read as one code: the first set is 2, the second 1. -/
theorem bitsByte_pairs : ∀ b7 b6 b5 b4 b3 b2 b1 b0 : Bool,
    let x := bitsByte [b7, b6, b5, b4, b3, b2, b1, b0]
    x.extractLsb' 2 2 = BitVec.ofBool b3 ++ BitVec.ofBool b2 ∧ x.extractLsb' 0 2 = BitVec.ofBool b1 ++ BitVec.ofBool b0 ∧
      x.extractLsb' 2 3 = BitVec.ofBool b4 ++ BitVec.ofBool b3 ++ BitVec.ofBool b2 ∧
      x.extractLsb' 0 5 = BitVec.ofBool b4 ++ BitVec.ofBool b3 ++ BitVec.ofBool b2 ++ BitVec.ofBool b1 ++
        BitVec.ofBool b0 := by decide

theorem fetched_winch_none (h : roleIs s .winch = false) (i : Nat) : fetchPayload s 8 i = none := by
  show fetchedWinch s i = none
  simp [fetchedWinch, h]

/-- The duty commanded that WINCH 1 shows (R131, log 27). -/
theorem shownDuty_eq : (if inRun s then (winchDrive s).2 else 0) =
    if s.ctl.station = .run then
      (if s.winch.state = .haul then ((haulDuty s * min (s.winch.ramp.getD 0) 200 / 200 : Nat) : Int)
        else if s.winch.state = .payout then
          -((if s.winch.homed then payoutDuty s else min (payoutDuty s) (unhomedDuty s) : Nat) : Int)
        else 0)
    else 0 := by
  have hrun : inRun s = true ↔ s.ctl.station = .run := beq_iff_eq
  refine if_congr hrun ?_ rfl
  unfold winchDrive
  cases s.winch.state <;> rfl

theorem fetched_winch (h : roleIs s .winch = true) (i : Nat) : fetchPayload s 8 i = match i with
    | 0 => some (s.winch.state.code :: intBytes2 s.winch.position ++
        [bitsByte [s.winch.homed, unhomedLimited s, homeActive s, s.winch.holdOff, false, false,
          s.winch.starvedFrom == some .payout, s.winch.starvedFrom == some .haul]])
    | 1 => some ([natByte s.winch.tension, natByte s.winch.stallCount] ++
        intBytes2 (if inRun s then (winchDrive s).2 else 0) ++
        [bitsByte [s.winch.ramp.isSome, s.winch.stallTimer.isSome, s.winch.starveTimer.isSome, false, false, false, false,
          false]])
    | 2 => some (natBytes2 s.winch.hallEdges ++ [natByte s.winch.activations] ++ natBytes2 s.winch.msInState)
    | _ => none := by
  show fetchedWinch s i = _
  unfold fetchedWinch
  rw [h]
  rfl

/-! ### BRIDGE (R95, R113) -/

theorem fetched_bridge_none (h : bridgeInUse s = false) (i : Nat) : fetchPayload s 9 i = none := by
  show fetchedBridge s i = none
  simp [fetchedBridge, h]

theorem fetched_bridge (h : bridgeInUse s = true) {i : Nat} (hi : i ≤ 3) :
    fetchPayload s 9 i = fetchedBridgeUnit s i := by
  show fetchedBridge s i = _
  simp [fetchedBridge, h, hi]

theorem fetched_steering (h : isAxle s = true) {i : Nat} (hi : 4 ≤ i) : fetchPayload s 9 i = fetchedSteering s i := by
  have huse : bridgeInUse s = true := by simp [bridgeInUse, h]
  have hpast : ¬ i ≤ 3 := by omega
  show fetchedBridge s i = _
  simp [fetchedBridge, h, huse, hpast]

theorem fetched_steering_none (h : isAxle s = false) {i : Nat} (hi : 4 ≤ i) : fetchPayload s 9 i = none := by
  have hpast : ¬ i ≤ 3 := by omega
  show fetchedBridge s i = _
  simp [fetchedBridge, h, hpast]

theorem fetched_bridge_past {i : Nat} (hi : 6 ≤ i) : fetchPayload s 9 i = none := by
  cases h : isAxle s
  · exact fetched_steering_none s h (by omega)
  · rw [fetched_steering s h (by omega)]
    obtain ⟨n, rfl⟩ := fetched_past i hi
    rfl

/-- The steering flags of BRIDGE 4, field by field (R95). -/
theorem steeringByte : ∀ (bank pending mode : BitVec 2) (split timer : Bool),
    let x : Byte := bank ++ pending ++ mode ++ BitVec.ofBool split ++ BitVec.ofBool timer
    x.extractLsb' 6 2 = bank ∧ x.extractLsb' 4 2 = pending ∧ x.extractLsb' 2 2 = mode ∧ x.getLsbD 1 = split ∧
      x.getLsbD 0 = timer := by decide

end

end Sys2Proof.Machine

open Sys2Proof Sys2Proof.Machine

/-- Settles O20: a FETCH is answered by its payload's function, which is read item by item. -/
theorem fetchOnlyAnswers : Obligations.FetchOnlyAnswers := by
  refine ⟨fun s rx target kind index c hmem htakes => ⟨fun hother => ?_, fun htarget => ?_⟩, fun s => ?_⟩
  · rw [exec_fetchCommand hmem, frameArrives_of_not_targeted _ htakes rfl hother]
  · have hlive := station_ne_halt_of_takesFrame htakes
    obtain ⟨result, payload, htake, hpayload⟩ := takeFetch_answered kind index rx.source rx.span s
    refine ⟨result.code, payload, ?_, ?_, ?_⟩
    · rw [exec_fetchCommand hmem, frameArrives_of_served _ htakes rfl htarget, htake,
        endEcho_answered _ _ _ _ _ _ hlive]
      rfl
    · obtain ⟨rfl, hsome⟩ | ⟨rfl, hnone⟩ := hpayload
      · exact .inl ⟨rfl, hsome⟩
      · exact .inr ⟨rfl, hnone⟩
    · obtain ⟨-, hsome⟩ | ⟨-, -, rfl⟩ := hpayload
      · exact fetchPayload_length hsome
      · exact Nat.zero_le 5
  · refine ⟨fetched_kinds s, rfl, fetched_lastError s, rfl, ?summary, fun r => ⟨fun hown j => ?own, fun hother => ?peer⟩,
      fetched_peer_none s, fun k hk hnone => ?noIncident, fun k e hk hsome => ?incident, fetched_incident_none s,
      fun i => rfl, fetched_share_basis s, rfl, rfl, fetched_share_cause s, fetched_share_none s, fetched_pack_none s,
      fun hpack => ?pack, fetched_capture_none s, fetched_capture s, fetched_winch_none s, fun hwinch => ?winch,
      fetched_bridge_none s, fun haxle i hi => fetched_steering_none s haxle hi, fun i hi => fetched_bridge_past s hi,
      fun huse => ?bridge, fun haxle => ?steering⟩
    case summary =>
      intro i hi
      obtain ⟨n, rfl⟩ := fetched_past i hi
      rfl
    case own => rw [fetched_peer_at, if_pos hown]
    case peer =>
      have hat (j : Nat) := (fetched_peer_at s r j).trans (if_neg (by simp [hother]))
      refine ⟨?_, hat 1, hat 2⟩
      have := hat 0
      rwa [Nat.mul_zero, Nat.zero_add] at this
    case noIncident =>
      have hat (j : Nat) := fetched_incident s k j hk
      rw [hnone] at hat
      refine ⟨?_, hat 1⟩
      have := hat 0
      rwa [Nat.mul_zero, Nat.zero_add] at this
    case incident =>
      have hat (j : Nat) := fetched_incident s k j hk
      rw [hsome] at hat
      refine ⟨?_, hat 1⟩
      have := hat 0
      rwa [Nat.mul_zero, Nat.zero_add] at this
    case pack => exact ⟨fetched_cells hpack 0 (by decide), fetched_cells hpack 1 (by decide), fetched_cells_none hpack,
        fetched_scan hpack⟩
    case winch =>
      have hat := fetched_winch s hwinch
      have hduty := hat 1
      rw [shownDuty_eq] at hduty
      refine ⟨⟨_, hat 0, ?_⟩, ⟨_, hduty, ?_⟩, hat 2, fun i hi => ?_⟩
      · obtain ⟨h7, h6, h5, h4, -⟩ := bitsByte_bits s.winch.homed (unhomedLimited s) (homeActive s) s.winch.holdOff false
          false (s.winch.starvedFrom == some .payout) (s.winch.starvedFrom == some .haul)
        obtain ⟨hpair, hlow, -⟩ := bitsByte_pairs s.winch.homed (unhomedLimited s) (homeActive s) s.winch.holdOff false
          false (s.winch.starvedFrom == some .payout) (s.winch.starvedFrom == some .haul)
        refine ⟨h7, h6, h5, h4, hpair, hlow.trans ?_⟩
        cases s.winch.starvedFrom with
        | none => rfl
        | some w => cases w <;> rfl
      · obtain ⟨h7, h6, h5, -⟩ := bitsByte_bits s.winch.ramp.isSome s.winch.stallTimer.isSome s.winch.starveTimer.isSome
          false false false false false
        obtain ⟨-, -, -, hlow⟩ := bitsByte_pairs s.winch.ramp.isSome s.winch.stallTimer.isSome
          s.winch.starveTimer.isSome false false false false false
        exact ⟨h7, h6, h5, hlow⟩
      · obtain ⟨n, rfl⟩ := fetched_past i hi
        exact hat (n + 3)
    case bridge =>
      have hat {i : Nat} (hi : i ≤ 3) := fetched_bridge s huse hi
      refine ⟨hat (by decide), ⟨_, hat (by decide), ?_⟩, ⟨_, hat (by decide), ?_⟩, hat (by decide)⟩
      · obtain ⟨h7, h6, h5, -⟩ := bitsByte_bits (inRun s && s.bridge.assist.isSome) (digLock s) s.bridge.dwellTimer.isSome
          false false false (s.bridge.lastSign == some .minus) (s.bridge.lastSign == some .plus)
        obtain ⟨-, hlow, hmid, -⟩ := bitsByte_pairs (inRun s && s.bridge.assist.isSome) (digLock s)
          s.bridge.dwellTimer.isSome false false false (s.bridge.lastSign == some .minus) (s.bridge.lastSign == some .plus)
        refine ⟨h7, h6, h5, hmid, hlow.trans ?_⟩
        cases s.bridge.lastSign with
        | none => rfl
        | some g => cases g <;> rfl
      · obtain ⟨h7, h6, h5, -⟩ := bitsByte_bits s.bridge.rearmTimer.isSome s.bridge.windowTimer.isSome s.bridge.latched
          false false false false false
        obtain ⟨-, -, -, hlow⟩ := bitsByte_pairs s.bridge.rearmTimer.isSome s.bridge.windowTimer.isSome s.bridge.latched
          false false false false false
        exact ⟨h7, h6, h5, hlow⟩
    case steering =>
      refine ⟨⟨_, fetched_steering s haxle (by decide), ?_⟩, fetched_steering s haxle (by decide)⟩
      exact steeringByte _ _ _ _ _
end

section
/-! Ages (O22 to O25): the demand source passes on, and records and peers grow old. -/

namespace Sys2Proof.Machine

theorem live_of_not_halt {s : State} (h : s.ctl.station ≠ .halt) (f : State → State) : live s f = .next (f s) := by
  simp [live, h]

/-! ### The demand source (R19) -/

theorem currentAge_iff (a : Option Nat) : currentAge a = true ↔ ∃ n, a = some n ∧ n ≤ 250 := by
  cases a <;> simp [currentAge]

/-- The lowest current address: it is current, and no lower one is (R19). -/
theorem lowestCurrent_eq_some {l : Latest} {q : Publisher} (h : lowestCurrent l = some q) :
    currentAge (l.ageOf q) = true ∧
      ∀ o, currentAge (l.ageOf o) = true → publisherAddress q ≤ publisherAddress o := by
  have hall (o : Publisher) : o ∈ allPublishers := by cases o <;> decide
  obtain ⟨hq, hlower⟩ := (find?_eq_some_of_ascending publisherAddress (fun o => currentAge (l.ageOf o)) allPublishers
    (by decide) q (hall q)).1 h
  refine ⟨hq, fun o ho => Nat.le_of_not_lt fun hlt => ?_⟩
  have hnot := hlower o (hall o) hlt
  rw [ho] at hnot
  exact absurd hnot (by decide)

theorem lowestCurrent_eq_none {l : Latest} (h : lowestCurrent l = none) (o : Publisher) :
    currentAge (l.ageOf o) = false := by
  have hall : o ∈ allPublishers := by cases o <;> decide
  simpa using List.find?_eq_none.1 h o hall

/-! ### The DEMAND record (R8, R10, R17) -/

/-- A DEMAND record that is not FRESH, handed on in RUN: FAILSAFE or DEMAND-HOLD stands, and nothing drives (R98, R117). -/
theorem demandReact_lapsed {v : State} (hheld : v.latest.demand.held = true)
    (hband : v.latest.demand.band = .stale ∨ v.latest.demand.band = .lost) (hrun : inRun v = true) :
    (demandReact false v).ctl = { v.ctl with
        failsafe := v.latest.demand.band == .lost || v.ctl.isolated
        demandHold := v.latest.demand.band == .stale && !v.ctl.isolated } ∧
      (isAxle v = true → (demandReact false v).bridge.d = 0) ∧
      (roleIs v .winch = true → (demandReact false v).winch.command = .hold) := by
  have hctl : (demandReact false v).ctl = { v.ctl with
      failsafe := v.latest.demand.band == .lost || v.ctl.isolated
      demandHold := v.latest.demand.band == .stale && !v.ctl.isolated } := by
    rw [demandReact_ctl, evalConditions_ctl, if_pos hrun]
    obtain h | h := hband
    · have hno : (Band.stale == Band.lost) = false := by decide
      simp [failsafeCause, holdCause, hheld, h, hno]
    · have hno : (Band.lost == Band.stale) = false := by decide
      simp [failsafeCause, holdCause, hheld, h, hno]
  let x := steerReact false (evalConditions v)
  have hx : x.ctl = (demandReact false v).ctl := by simp [x, demandReact]
  have hxRun : inRun x = true := by
    have hstation : x.ctl.station = v.ctl.station := by simp [x]
    exact (inRun_congr hstation).trans hrun
  have hxRole : x.ctl.role = v.ctl.role := by simp [x]
  have hxDemand : x.latest.demand = v.latest.demand := by simp [x]
  obtain ⟨hb, hw⟩ := demandReact_motors false (s := v) (w := x) ⟨rfl, rfl, rfl, rfl, rfl, rfl, rfl⟩
  refine ⟨hctl, fun haxle => ?_, fun hwinch => ?_⟩
  · have haxle' : isAxle x = true := (isAxle_congr hxRole).trans haxle
    have hnot : roleIs (bridgeReact false x) .winch = false := by
      have hsame : roleIs (bridgeReact false x) .winch = roleIs x .winch := roleIs_congr (by simp) .winch
      rw [hsame]
      exact Bool.eq_false_iff.2 fun h => by rw [isAxle_of_winch h] at haxle'; exact absurd haxle' (by decide)
    rw [hb, winchReact_of_not_winch false hnot, bridgeReact_d false haxle' hxRun, hx, hctl]
    refine if_pos ?_
    obtain h | h := hband
    · cases v.ctl.isolated <;> simp [h]
    · simp [h]
  · have hrole : roleIs (bridgeReact false x) .winch = true := by
      have hsame : (bridgeReact false x).ctl.role = v.ctl.role := by simp [hxRole]
      exact (roleIs_congr hsame .winch).trans hwinch
    have hrun' : inRun (bridgeReact false x) = true := by
      have hsame : (bridgeReact false x).ctl.station = x.ctl.station := by simp
      exact (inRun_congr hsame).trans hxRun
    have hdemand : (bridgeReact false x).latest.demand = v.latest.demand := by simp [hxDemand]
    rw [hw, (winchReact_command false hrole hrun').1]
    unfold effectiveCommand
    rw [hdemand]
    obtain h | h := hband
    · have hno : (Band.stale == Band.fresh) = false := by decide
      simp [h, hno]
    · have hno : (Band.lost == Band.fresh) = false := by decide
      simp [h, hno]

/-- The bridge unit of an axle at a lapse is as its reaction leaves it (R98). -/
theorem demandReact_bridge {v w : State} (haxle : isAxle v = true) (hpins : w.pins = v.pins)
    (hctl : w.ctl = (demandReact false v).ctl) (hshare : w.share = v.share)
    (hlatest : w.latest = (demandReact false v).latest) (hbridge : w.bridge = v.bridge) (hwinch : w.winch = v.winch) :
    (demandReact false v).bridge = (bridgeReact false w).bridge := by
  have hrecords := demandReact_changes false v .records (by decide)
  have hagree : MotorsAgree (evalConditions v) w := by
    refine ⟨by rw [hpins]; simp, by rw [hctl, demandReact_ctl], by rw [hshare]; simp, ?_, ?_, by rw [hbridge]; simp,
      by rw [hwinch]; simp⟩
    · rw [hlatest, hrecords.1]; simp
    · rw [hlatest, hrecords.2.1]; simp
  have hrole : (bridgeReact false w).ctl.role = v.ctl.role := by
    have hkept : (bridgeReact false w).ctl = w.ctl := by simp
    rw [hkept, hctl, demandReact_ctl]
    simp
  have hnot : roleIs (bridgeReact false w) .winch = false := by
    rw [roleIs_congr hrole]
    exact Bool.eq_false_iff.2 fun h => by rw [isAxle_of_winch h] at haxle; exact absurd haxle (by decide)
  rw [(demandReact_motors false (steerReact_agrees v false hagree)).1, winchReact_of_not_winch false hnot]

/-- Outside RUN a lapse leaves the controller. -/
theorem demandReact_ctl_of_not_run (accepted : Bool) {v : State} (hrun : inRun v = false) :
    (demandReact accepted v).ctl = v.ctl := by
  rw [demandReact_ctl, evalConditions_ctl, if_neg (by simp [hrun])]

end Sys2Proof.Machine

open Sys2Proof Sys2Proof.Machine

/-- Settles O22: the address is no longer current, and the source is the lowest that is. -/
theorem sourcePassesOn : Obligations.SourcePassesOn := by
  intro s p age hlive hage
  let l := s.latest.putAge p (some (max age 251))
  have hsource : l.source = s.latest.source := (putAge_kept _ _ _).2.2.2
  have hexpired : sourceExpired p s =
      s.setLatest (if l.source = some p then { l with source := lowestCurrent l } else l) := by
    unfold sourceExpired
    rw [hage]
  have hexec : exec (.demandSourceExpiry p) s = .next (sourceExpired p s) := live_of_not_halt hlive _
  rw [hexpired, hsource] at hexec
  have hself : l.ageOf p = some (max age 251) := ageOf_putAge_self _ p _
  have hother {q : Publisher} (hq : q ≠ p) : l.ageOf q = s.latest.ageOf q := ageOf_putAge_of_ne _ hq _
  have hdemand : l.demand = s.latest.demand := (putAge_kept _ _ _).1
  refine ⟨_, hexec, rfl, ?_, ?_, fun hnot => ?_, fun hwas q hq => ?_, fun hwas hnone o n ho hn => ?_⟩
  · show Latest.demand (if _ then _ else _) = _
    split <;> exact hdemand
  · show Latest.ageOf (if _ then _ else _) p = _
    split
    · exact (ageOf_congr ⟨rfl, rfl, rfl⟩ p).trans hself
    · exact hself
  · show Latest.source (if _ then _ else _) = _
    rw [if_neg hnot]
    exact hsource
  · have hnext : lowestCurrent l = some q := by
      have hq' : Latest.source (if s.latest.source = some p then { l with source := lowestCurrent l } else l) = some q := hq
      rwa [if_pos hwas] at hq'
    obtain ⟨hcurrent, hlowest⟩ := lowestCurrent_eq_some hnext
    have hne : q ≠ p := by
      rintro rfl
      obtain ⟨n, hn, hle⟩ := (currentAge_iff _).1 hcurrent
      rw [hself] at hn
      have := Option.some.inj hn
      omega
    rw [hother hne] at hcurrent
    refine ⟨hne, (currentAge_iff _).1 hcurrent, fun o n ho hn hle => hlowest o ?_⟩
    rw [hother ho]
    exact (currentAge_iff _).2 ⟨n, hn, hle⟩
  · have hnext : lowestCurrent l = none := by
      have hq' : Latest.source (if s.latest.source = some p then { l with source := lowestCurrent l } else l) = none := hnone
      rwa [if_pos hwas] at hq'
    have hnot := lowestCurrent_eq_none hnext o
    rw [hother ho, hn] at hnot
    simpa [currentAge] using hnot

/-- Settles O23: the record keeps its fields, and the conditions and blocks follow its new band. -/
theorem demandRecordAges : Obligations.DemandRecordAges := by
  intro s hlive hheld
  refine ⟨fun hfresh => ?stale, fun hused => ?lost⟩
  case stale =>
    let v := s.setLatest { s.latest with
      demand := { s.latest.demand with band := .stale, age := max s.latest.demand.age 61 } }
    have hstale : demandStale s = demandReact false v := if_pos (by simp [hheld, hfresh])
    have hexec : exec .demandRecordStale s = .next (demandStale s) := live_of_not_halt hlive _
    have hframe := ((demandStale_changes s).mono (by decide : _ ⊆ [.mode, .conditions, .isolated, .faults, .startTimer,
      .stationTimer, .commit, .working, .records, .winchRecord, .port, .steer, .bridge, .winch, .pack, .lamp])).eq
    rw [hstale] at hexec hframe
    have hdemand : (demandReact false v).latest.demand = v.latest.demand :=
      (demandReact_changes false v .records (by decide)).1
    have hlapsed (hrun : s.ctl.station = .run) := demandReact_lapsed (v := v) hheld (.inl rfl) (beq_iff_eq.2 hrun)
    have hidle (hnot : s.ctl.station ≠ .run) :=
      demandReact_ctl_of_not_run false (v := v) (beq_eq_false_iff_ne.2 hnot)
    have hbridge {w : State} := demandReact_bridge (v := v) (w := w)
    generalize demandReact false v = t at *
    refine ⟨_, hexec, hframe, hdemand, fun hrun => ?_, hidle⟩
    obtain ⟨hctl, hd, hcommand⟩ := hlapsed hrun
    have hflags : (Band.stale == Band.lost) = false ∧ (Band.stale == Band.stale) = true := by decide
    refine ⟨?_, fun haxle => ⟨hbridge haxle rfl rfl rfl rfl rfl rfl, hd haxle⟩, hcommand⟩
    rw [hctl]
    show { s.ctl with
      failsafe := (Band.stale == Band.lost) || s.ctl.isolated
      demandHold := (Band.stale == Band.stale) && !s.ctl.isolated } = _
    rw [hflags.1, hflags.2, Bool.false_or, Bool.true_and]
  case lost =>
    let u := s.setLatest { s.latest with
      demand := { s.latest.demand with band := .lost, age := max s.latest.demand.age 251 } }
    let v := noteDemandLost s.latest.demand.band .lost u
    have hin : s.latest.demand.band.inUse = true := by
      obtain h | h := hused
      · rw [h]; rfl
      · rw [h]; rfl
    have hlost : demandLostNow s = demandReact false v := if_pos (by simp [hheld, hin])
    have hexec : exec .demandRecordLost s = .next (demandLostNow s) := live_of_not_halt hlive _
    have hframe := ((demandLostNow_changes s).mono (by decide : _ ⊆ [.mode, .conditions, .isolated, .faults, .startTimer,
      .stationTimer, .commit, .working, .records, .winchRecord, .port, .steer, .bridge, .winch, .pack, .lamp, .log])).eq
    rw [hlost] at hexec hframe
    have hv : v = if inRun s then u.setLog (s.log.append .demandLost 0) else u := by
      have hcond : (inRun u && s.latest.demand.band.inUse && Band.lost == .lost) = inRun s := by
        rw [hin]
        have hself : (Band.lost == Band.lost) = true := by decide
        rw [hself, Bool.and_true, Bool.and_true]
        rfl
      show noteDemandLost s.latest.demand.band .lost u = _
      unfold noteDemandLost
      rw [hcond]
      rfl
    have hdemand : (demandReact false v).latest.demand = u.latest.demand := by
      rw [(demandReact_changes false v .records (by decide)).1, hv]
      split <;> rfl
    have hlog : (demandReact false v).log = v.log := demandReact_changes false v .log (by decide)
    have hvRun : v = u ∨ v = u.setLog (s.log.append .demandLost 0) := by
      rw [hv]
      split
      · exact .inr rfl
      · exact .inl rfl
    have hsame : v.ctl = s.ctl ∧ v.latest.demand = u.latest.demand ∧ v.pins = s.pins ∧ v.share = s.share ∧
        v.bridge = s.bridge ∧ v.winch = s.winch := by
      obtain h | h := hvRun <;> rw [h] <;> exact ⟨rfl, rfl, rfl, rfl, rfl, rfl⟩
    obtain ⟨hctl, hrecord, hpins, hshare, hbridge, hwinch⟩ := hsame
    have hvLog : v.log = if inRun s then s.log.append .demandLost 0 else s.log := by
      rw [hv]
      split <;> rfl
    have hrun' : inRun v = inRun s := inRun_congr (by rw [hctl])
    have haxle' : isAxle v = isAxle s := isAxle_congr (by rw [hctl])
    have hrole' : roleIs v .winch = roleIs s .winch := roleIs_congr (by rw [hctl]) .winch
    have hlapsed (hrun : s.ctl.station = .run) := demandReact_lapsed (v := v) (by rw [hrecord]; exact hheld)
      (.inr (congrArg DemandRecord.band hrecord)) (hrun'.trans (beq_iff_eq.2 hrun))
    have hidle (hnot : s.ctl.station ≠ .run) :=
      demandReact_ctl_of_not_run false (v := v) (hrun'.trans (beq_eq_false_iff_ne.2 hnot))
    have hmotors {w : State} := demandReact_bridge (v := v) (w := w)
    rw [hctl] at hlapsed hidle
    rw [haxle', hrole', hrecord] at hlapsed
    rw [haxle', hpins, hshare, hbridge, hwinch] at hmotors
    generalize demandReact false v = t at *
    refine ⟨_, hexec, hframe, hdemand, fun hrun => ?_, fun hnot => ⟨hidle hnot, ?_⟩⟩
    · obtain ⟨hlapsedCtl, hd, hcommand⟩ := hlapsed hrun
      have hflags : (Band.lost == Band.lost) = true ∧ (Band.lost == Band.stale) = false := by decide
      refine ⟨?_, ?_, fun haxle => ⟨hmotors haxle rfl rfl rfl rfl rfl rfl, hd haxle⟩, hcommand⟩
      · rw [hlapsedCtl]
        show { s.ctl with
          failsafe := (Band.lost == Band.lost) || s.ctl.isolated
          demandHold := (Band.lost == Band.stale) && !s.ctl.isolated } = _
        rw [hflags.1, hflags.2, Bool.true_or, Bool.false_and]
      · rw [hlog, hvLog, if_pos (show inRun s = true from beq_iff_eq.2 hrun)]
        exact IncidentLog.append_last _ _ _
    · have hrun : inRun s = false := beq_eq_false_iff_ne.2 hnot
      rw [hlog, hvLog, hrun]
      rfl

/-- Settles O24: the record keeps its fields, and the assist cap needs a FRESH WINCH record. -/
theorem otherRecordsBecomeLost : Obligations.OtherRecordsBecomeLost := by
  intro s hlive
  refine ⟨fun hheld hfresh => ?allowance, fun hheld hfresh => ?winch⟩
  case allowance =>
    let v := s.setLatest { s.latest with
      allowance := { s.latest.allowance with band := .lost, age := max s.latest.allowance.age 101 } }
    have hlost : allowanceLost s = winchReact false (evalCues v) := if_pos (by simp [hheld, hfresh])
    have hexec : exec .allowanceRecordLost s = .next (allowanceLost s) := live_of_not_halt hlive _
    have hframe := ((allowanceLost_changes s).mono
      (by decide : _ ⊆ [.records, .winchRecord, .lamp, .winch, .bridge, .port])).eq
    rw [hlost] at hexec hframe
    have hreact : Changes _ v (winchReact false (evalCues v)) :=
      ((evalCues_changes v).mono (by decide)).trans (winchReact_changes false (evalCues v))
    obtain ⟨hdemand, hallowance, -⟩ := hreact .records (by decide)
    exact ⟨_, hexec, hframe, hallowance, hdemand⟩
  case winch =>
    let v := s.setLatest { s.latest with
      winch := { s.latest.winch with band := .lost, age := max s.latest.winch.age 101 } }
    have hlost : winchRecordLost s = evalAssist v := if_pos (by simp [hheld, hfresh])
    have hexec : exec .winchRecordLost s = .next (winchRecordLost s) := live_of_not_halt hlive _
    have hframe := ((winchRecordLost_changes s).mono (by decide : _ ⊆ [.records, .winchRecord, .bridge])).eq
    rw [hlost] at hexec hframe
    refine ⟨_, hexec, hframe, by simp [v], fun haxle => ?_⟩
    obtain ⟨-, -, hnone⟩ := evalAssist_spec (s := v) haxle
    have hband : (Band.lost == Band.fresh) = false := by decide
    exact hnone (if_neg (by simp [v, hband]))

/-- Settles O25: the entry ages by its presence, the cues follow it, and on REAR FRONT's entry is an evaluation of the
split check. -/
theorem peerAges : Obligations.PeerAges := by
  intro s r hlive hother hpresence
  let e := agedPeer (s.peers.at r)
  let v := evalCues (s.setPeers (s.peers.put r e))
  have hheard : (s.peers.at r).heard = true := by
    obtain h | h := hpresence <;> simp [Peer.heard, h]
  have haged : e = { s.peers.at r with
      presence := (if (s.peers.at r).presence = .live then .stale else .lost)
      age := max (s.peers.at r).age (if (s.peers.at r).presence = .live then 61 else 201) } := by
    show agedPeer _ = _
    obtain h | h := hpresence <;> simp [agedPeer, h]
  have hchanged : presenceChanged r s = if roleIs s .rear && r == .front then splitCheck v else v :=
    if_pos (by simp [hother, hheard])
  have hexec : exec (.peerPresenceChange r) s = .next (presenceChanged r s) := live_of_not_halt hlive _
  have hframe := ((presenceChanged_changes r s).mono (by decide : _ ⊆ [.peers, .lamp, .steer])).eq
  have hcheck : Changes [.steer] v (presenceChanged r s) := by
    rw [hchanged]
    split
    · exact splitCheck_changes v
    · exact .refl _ _
  have hpeers : (presenceChanged r s).peers = s.peers.put r e := by
    rw [hcheck .peers (by decide)]
    simp [v]
  have hlamp : (presenceChanged r s).lamp = v.lamp := hcheck .lamp (by decide)
  have hv : Changes [.peers, .lamp] s v := .of (by simp [allPieces, Piece.same, v])
  obtain ⟨hrole, -, hstation, -⟩ := hv .mode (by decide)
  have hsteer : v.steer = s.steer := hv .steer (by decide)
  refine ⟨_, hexec, hframe, by rw [hpeers, haged], fun hrear hrun hfront => ?split, fun hnot => ?kept,
    fun haxle hstale hrun => ?hazard⟩
  case split =>
    have hrear' : roleIs v .rear = true := (roleIs_congr hrole .rear).trans hrear
    have hcondition : (roleIs s .rear && r == .front) = true := by simp [hrear, hfront]
    obtain ⟨-, hafter, hmode, -⟩ := splitCheck_spec hrear' ((inRun_congr hstation).trans (beq_iff_eq.2 hrun))
    have hfrontEntry : v.peers.front = (presenceChanged r s).peers.front := by rw [hcheck .peers (by decide)]
    rw [hsteer, hfrontEntry] at hafter
    rw [(hv .conditions (by decide)).1] at hmode
    have hsame : presenceChanged r s = splitCheck v := hchanged.trans (if_pos hcondition)
    rw [← hsame] at hafter hmode
    refine ⟨hafter, hmode, fun hstale => ?_⟩
    have hgone : banksDiffer (presenceChanged r s).peers.front s.steer.active = false := by
      have hlost : (presenceChanged r s).peers.front.presence = .lost := by
        rw [hpeers, hfront]
        show e.presence = .lost
        rw [haged, hstale]
        rfl
      simp [banksDiffer, Peer.heard, hlost]
    rw [hgone] at hafter
    exact hafter
  case kept =>
    have hsame : presenceChanged r s = v := by
      rw [hchanged]
      split
      · next h =>
        obtain ⟨hrear, hfront⟩ := Bool.and_eq_true_iff.1 h
        refine splitCheck_of_not fun hboth => hnot ⟨hrear, ?_, beq_iff_eq.1 hfront⟩
        rw [inRun_congr hstation] at hboth
        exact beq_iff_eq.1 hboth.2
      · rfl
    rw [hsame, hsteer]
  case hazard =>
    rw [hlamp]
    show (computeCues _).hazard = true
    rw [computeCues_hazard_iff]
    have hlost : ((s.peers.put r e).at r).presence = .lost := by
      rw [Peers.at_put_self, haged, hstale]
      rfl
    refine ⟨hrun, .inr ?_⟩
    obtain rfl | rfl := haxle
    · exact .inl ⟨hother, hlost⟩
    · exact .inr (.inl ⟨hother, hlost⟩)
end

section
/-! The scan (O26, O29): the table, the counters and the conditions they hold, and the one transition of a completion. -/

namespace Sys2Proof.Machine

/-! ### The table and the counters (R22 to R28) -/

theorem sensorFaulty_iff (temp : Int) : sensorFaulty temp = true ↔ temp < -40 ∨ 125 < temp := by simp [sensorFaulty]

/-- The least of a fold is at most its start and every figure, and is one of them. -/
theorem foldl_min_spec (f : Nat → Nat) (l : List Nat) (a : Nat) :
    let m := l.foldl (fun m k => min m (f k)) a
    m ≤ a ∧ (∀ k ∈ l, m ≤ f k) ∧ (m = a ∨ ∃ k ∈ l, m = f k) := by
  induction l generalizing a with
  | nil => exact ⟨Nat.le_refl _, fun k hk => absurd hk List.not_mem_nil, .inl rfl⟩
  | cons x rest ih =>
    obtain ⟨hstart, hall, hone⟩ := ih (min a (f x))
    refine ⟨hstart.trans (Nat.min_le_left _ _), fun k hk => ?_, ?_⟩
    · obtain rfl | hk := List.mem_cons.1 hk
      · exact hstart.trans (Nat.min_le_right _ _)
      · exact hall k hk
    · obtain hone | ⟨k, hk, hone⟩ := hone
      · obtain h | h : min a (f x) = a ∨ min a (f x) = f x := by omega
        · exact .inl (hone.trans h)
        · exact .inr ⟨x, List.mem_cons_self, hone.trans h⟩
      · exact .inr ⟨k, List.mem_cons_of_mem _ hk, hone⟩

theorem leastOf_spec {count : Nat} (f : Nat → Nat) (h : 0 < count) :
    (∀ k, k < count → leastOf count f ≤ f k) ∧ ∃ k, k < count ∧ leastOf count f = f k := by
  obtain ⟨-, hall, hone⟩ := foldl_min_spec f (List.range count) (f 0)
  refine ⟨fun k hk => hall k (List.mem_range.2 hk), ?_⟩
  obtain hone | ⟨k, hk, hone⟩ := hone
  · exact ⟨0, h, hone⟩
  · exact ⟨k, List.mem_range.1 hk, hone⟩

theorem allCells_iff (s : State) (t : ScanTable) (p : Nat → Bool) :
    allCells s t p = true ↔ ∀ k, k < cellCount s → p (cellAt t k) = true := by simp [allCells]

theorem countWhile_of {limit n : Nat} {holds : Bool} :
    (holds = true → countWhile limit holds n = min (n + 1) limit) ∧ (holds = false → countWhile limit holds n = 0) := by
  refine ⟨fun h => ?_, fun h => ?_⟩ <;> simp [countWhile, h]

section
variable (scan : Scan) (s : State)

theorem scannedPack_cell {k : Nat} (h : k < 4) :
    cellAt (scannedPack scan s).table k = scanCell (cellCount s) scan.taps k := by
  show (tab 4 (scanCell (cellCount s) scan.taps)).getD k 0 = _
  rw [getD_tab, if_pos h]

theorem scannedPack_counters {k : Nat} (h : k < 4) (hc : k < cellCount s) :
    countersAt (scannedPack scan s) k = countCell s (cellAt (scannedPack scan s).table k) (countersAt s.pack k) := by
  unfold countersAt scannedPack
  dsimp only
  rw [getD_tab, if_pos h, if_pos hc]
  rfl

/-- SENSOR and its incident (R24). -/
theorem noteSensor_eq : noteSensor s = { s with
    ctl := { s.ctl with faults := { s.ctl.faults with sensor := s.ctl.faults.sensor || s.pack.table.sensorFault } }
    log := if s.pack.table.sensorFault = true ∧ s.ctl.faults.sensor = false then s.log.append .sensor 0 else s.log } := by
  have hflag (b : Bool) (h : s.ctl.faults.sensor = b) :
      s = { s with ctl := { s.ctl with faults := { s.ctl.faults with sensor := b } } } := by rw [← h]
  unfold noteSensor
  cases hs : s.pack.table.sensorFault <;> cases hf : s.ctl.faults.sensor
  · exact hflag false hf
  · exact hflag true hf
  · rfl
  · exact hflag true hf

end

/-! ### The conditions and the cell an incident names (R26, R30) -/

theorem mem_holdingCells {s : State} {which : CellCounters → Nat} {k : Nat} : k ∈ holdingCells s which ↔
    k < cellCount s ∧ which (countersAt s.pack k) = faultCount s := by simp [holdingCells]

theorem conditionHolds_iff (s : State) (which : CellCounters → Nat) : conditionHolds s which = true ↔
    ∃ k, k < cellCount s ∧ which (countersAt s.pack k) = faultCount s := by
  simp only [conditionHolds, Bool.not_eq_true', List.isEmpty_eq_false_iff_exists_mem, mem_holdingCells]

/-- Of cells in ascending order the fold picks the lowest reading, and of equals the first (R30). -/
theorem lowestCell_spec (t : ScanTable) : ∀ (rest : List Nat) (b : Nat), (∀ j ∈ rest, b < j) → rest.Pairwise (· < ·) →
    let r := rest.foldl (fun best j => if cellAt t j < cellAt t best then j else best) b
    r ∈ b :: rest ∧ ∀ j ∈ b :: rest, cellAt t r ≤ cellAt t j ∧ (cellAt t j = cellAt t r → r ≤ j)
  | [], b, _, _ => ⟨List.mem_cons_self, fun j hj => by
      obtain rfl | hj := List.mem_cons.1 hj
      · exact ⟨Nat.le_refl _, fun _ => Nat.le_refl _⟩
      · exact absurd hj List.not_mem_nil⟩
  | x :: rest, b, hfirst, hsorted => by
    obtain ⟨hx, hrest⟩ := List.pairwise_cons.1 hsorted
    have hbx := hfirst x List.mem_cons_self
    by_cases hlow : cellAt t x < cellAt t b
    · obtain ⟨hmem, hall⟩ := lowestCell_spec t rest x hx hrest
      simp only [List.foldl_cons, if_pos hlow]
      refine ⟨List.mem_cons_of_mem _ hmem, fun j hj => ?_⟩
      obtain rfl | hj := List.mem_cons.1 hj
      · have := (hall x List.mem_cons_self).1
        exact ⟨by omega, fun h => by omega⟩
      · exact hall j hj
    · obtain ⟨hmem, hall⟩ := lowestCell_spec t rest b (fun j hj => hbx.trans (hx j hj)) hrest
      simp only [List.foldl_cons, if_neg hlow]
      refine ⟨?_, fun j hj => ?_⟩
      · obtain h | h := List.mem_cons.1 hmem
        · rw [h]
          exact List.mem_cons_self
        · exact List.mem_cons_of_mem _ (List.mem_cons_of_mem _ h)
      · obtain ⟨hle, hsame⟩ := hall b List.mem_cons_self
        obtain rfl | hj := List.mem_cons.1 hj
        · exact ⟨hle, hsame⟩
        · obtain rfl | hj := List.mem_cons.1 hj
          · exact ⟨by omega, fun h => by have := hsame (by omega); omega⟩
          · exact hall j (List.mem_cons_of_mem _ hj)

/-- The cell an incident names holds its condition, with the lowest reading and among equals the lowest number (R30). -/
theorem namedCell_spec {s : State} {which : CellCounters → Nat} (h : conditionHolds s which = true) :
    let k := namedCell s.pack.table (holdingCells s which)
    k ∈ holdingCells s which ∧ ∀ j ∈ holdingCells s which, cellAt s.pack.table k ≤ cellAt s.pack.table j ∧
      (cellAt s.pack.table j = cellAt s.pack.table k → k ≤ j) := by
  have hsorted : (holdingCells s which).Pairwise (· < ·) := List.pairwise_lt_range.filter _
  unfold conditionHolds at h
  cases hcells : holdingCells s which with
  | nil => simp [hcells] at h
  | cons b rest =>
    rw [hcells] at hsorted
    obtain ⟨hfirst, hrest⟩ := List.pairwise_cons.1 hsorted
    exact lowestCell_spec s.pack.table rest b hfirst hrest

/-! ### The one transition of a completion (R30, R31, R38) -/

section
variable {s : State}

theorem packRules_of_cut (hcut : conditionHolds s CellCounters.cut = true)
    (hs : s.pack.state.graded = true ∨ s.pack.state = .tripped) : packRules s = enterCutoff s := by
  cases h : s.pack.state
  case check | cutoff | fault => simp [h, PackState.graded] at hs
  all_goals simp [packRules, h, hcut]

theorem packRules_of_reserve (hcut : conditionHolds s CellCounters.cut = false)
    (hreserve : conditionHolds s CellCounters.reserve = true) (hs : s.pack.state = .normal ∨ s.pack.state = .limit) :
    packRules s = (record .cellReserve (cellDetail s CellCounters.reserve) s).setPack { s.pack with state := .reserve } := by
  obtain h | h := hs <;> simp [packRules, h, hcut, hreserve]

theorem packRules_of_returned (hcut : conditionHolds s CellCounters.cut = false)
    (hreserve : conditionHolds s CellCounters.reserve = true) (hs : s.pack.state = .tripped)
    (hback : s.pack.returnState = some .normal ∨ s.pack.returnState = some .limit) :
    packRules s =
      (record .cellReserve (cellDetail s CellCounters.reserve) s).setPack { s.pack with returnState := some .reserve } := by
  obtain h | h := hback <;> simp [packRules, hs, h, hcut, hreserve]

theorem packRules_of_tripped (hcut : conditionHolds s CellCounters.cut = false) (hs : s.pack.state = .tripped)
    (hkept : conditionHolds s CellCounters.reserve = false ∨
      (s.pack.returnState ≠ some .normal ∧ s.pack.returnState ≠ some .limit)) : packRules s = s := by
  obtain h | ⟨h, h'⟩ := hkept
  · simp [packRules, hs, h, hcut]
  · simp [packRules, hs, h, h', hcut]

theorem packRules_of_warn (hcut : conditionHolds s CellCounters.cut = false)
    (hreserve : conditionHolds s CellCounters.reserve = false) (hwarn : conditionHolds s CellCounters.warn = true)
    (hs : s.pack.state = .normal) :
    packRules s = (record .cellWarn (cellDetail s CellCounters.warn) s).setPack { s.pack with state := .limit } := by
  simp [packRules, hs, hcut, hreserve, hwarn]

theorem packRules_of_normal (hcut : conditionHolds s CellCounters.cut = false)
    (hreserve : conditionHolds s CellCounters.reserve = false) (hwarn : conditionHolds s CellCounters.warn = false)
    (hs : s.pack.state = .normal) : packRules s = s := by simp [packRules, hs, hcut, hreserve, hwarn]

theorem packRules_of_limit (hcut : conditionHolds s CellCounters.cut = false)
    (hreserve : conditionHolds s CellCounters.reserve = false) (hs : s.pack.state = .limit) :
    packRules s = if recovered s then s.setPack { s.pack with state := .normal } else s := by
  simp [packRules, hs, hcut, hreserve]

theorem packRules_of_reserved (hcut : conditionHolds s CellCounters.cut = false) (hs : s.pack.state = .reserve) :
    packRules s = s := by simp [packRules, hs, hcut]

theorem packRules_of_waiting (hs : s.pack.state = .check ∨ s.pack.state = .cutoff ∨ s.pack.state = .fault) :
    packRules s = s := by
  obtain h | h | h := hs <;> simp [packRules, h]

end

/-- A TRIP is queued on the port as it stood (R46). -/
theorem queueTrip_port {s : State} (state : PackState) (cause : TripCause) (h : roleIs s .winch = false)
    (hready : portReady s = true) :
    (queueTrip state cause s).port = afterQueue .trip [state.code, cause.code] (ownAddress s) s.port := by
  let q := queueFrame .trip [state.code, cause.code] s
  have hq : roleIs q .winch = false := (roleIs_congr (by simp [q]) .winch).trans h
  exact (takeTrip_of_not_winch hq).2.2.1.trans (queueFrame_port hready _ _)

theorem enterCutoff_port {s : State} (h : roleIs s .winch = false) (hready : portReady s = true) :
    (enterCutoff s).port = afterQueue .trip [4, 3] (ownAddress s) s.port :=
  queueTrip_port (s := (record .cellCut (cellDetail s CellCounters.cut) s).setPack (cutoffPack (cutGraceMs s) s.pack))
    .cutoff .cellCut h hready

/-- A TRIP queued stays queued behind the ALLOWANCE of the same completion (R45, R46, R160). -/
theorem afterQueue_trip_holds (d data : List Byte) (own own' : Nat) (p : BusPort) :
    let q := afterQueue .allowance data own' (afterQueue .trip d own p)
    (∃ b, q.shift = some b ∧ b.topic = .trip ∧ b.data = d) ∨ q.slots.trip = some d := by
  by_cases hidle : p.port = .idle
  · refine .inl ⟨⟨.trip, d, wireBytes TxTopic.trip.first (BitVec.ofNat 4 own) d, false⟩, ?_, rfl, rfl⟩
    simp [afterQueue, hidle]
  · right
    simp [afterQueue, hidle, Slots.put]

end Sys2Proof.Machine

open Sys2Proof Sys2Proof.Machine

/-- Settles O26: outside RUN a completion is the table, the counters and SENSOR. -/
theorem scanFillsTable : Obligations.ScanFillsTable := by
  intro s scan hpack hstate
  let p := scannedPack scan s
  have hnotRun : inRun (noteSensor (s.setPack p)) = false := by
    have hstation : (noteSensor (s.setPack p)).ctl.station = s.ctl.station := by simp
    rw [inRun, hstation]
    obtain h | h := hstate <;> rw [h] <;> rfl
  have hlive : s.ctl.station ≠ .halt := by obtain h | h := hstate <;> rw [h] <;> decide
  have hscan : scanCompleted scan s = noteSensor (s.setPack p) := by
    simp [scanCompleted, hpack, hnotRun, p]
  have hexec : exec (.scanCompletion scan) s = .next (noteSensor (s.setPack p)) := by
    rw [← hscan]
    exact live_of_not_halt hlive _
  have hfault : p.table.sensorFault = decide (scan.temp < -40 ∨ 125 < scan.temp) := by
    show sensorFaulty scan.temp = _
    simp [sensorFaulty]
  rw [noteSensor_eq] at hexec
  have hcell {k : Nat} (h : k < 4) : cellAt p.table k = scanCell (cellCount s) scan.taps k := scannedPack_cell scan s h
  refine ⟨_, hexec, rfl, ?ctl, ?log, rfl, rfl, ?scans, rfl, sensorFaulty_iff _, fun k hk => hcell hk, fun k hk hc => ?counters,
    fun hpos hmax => ?least, fun h => ?recovers, fun h => ?recovery, fun h => ?plausible, fun h => ?plausibility⟩
  case ctl =>
    show { s.ctl with faults := { s.ctl.faults with sensor := s.ctl.faults.sensor || p.table.sensorFault } } = _
    rw [hfault]
  case log =>
    show (if p.table.sensorFault = true ∧ s.ctl.faults.sensor = false then s.log.append .sensor 0 else s.log) = _
    rw [hfault]
    simp only [decide_eq_true_iff]
  case scans => exact rfl
  case counters =>
    show countersAt p k = _
    rw [scannedPack_counters scan s hk hc]
    simp only [countCell, countWhile, decide_eq_true_iff]
    rfl
  case least =>
    obtain ⟨hall, k, hk, hone⟩ := leastOf_spec (scanCell (cellCount s) scan.taps) hpos
    refine ⟨fun j hj => ?_, k, hk, ?_⟩
    · show p.table.vMin ≤ cellAt p.table j
      rw [hcell (by omega)]
      exact hall j hj
    · show p.table.vMin = cellAt p.table k
      rw [hcell (by omega)]
      exact hone
  case recovers => exact countWhile_of.1 ((allCells_iff s p.table _).2 fun k hk => decide_eq_true (h k hk))
  case recovery =>
    refine countWhile_of.2 (Bool.eq_false_iff.2 fun hall => h fun k hk => ?_)
    exact of_decide_eq_true ((allCells_iff s p.table _).1 hall k hk)
  case plausible =>
    exact countWhile_of.1 ((allCells_iff s p.table _).2 fun k hk => by simpa using h k hk)
  case plausibility =>
    refine countWhile_of.2 (Bool.eq_false_iff.2 fun hall => h fun k hk => ?_)
    simpa using (allCells_iff s p.table _).1 hall k hk
end

section
/-! The transitions of a scan completion in RUN (O29). -/

namespace Sys2Proof.Machine

theorem enterCutoff_state (s : State) : (enterCutoff s).pack.state = .cutoff := by rw [enterCutoff_pack]; rfl

/-- The pack states a completion can reach from each (R30, R38). -/
theorem packRules_states (s : State) :
    (s.pack.state = .normal → (packRules s).pack.state ∈ [PackState.normal, .limit, .reserve, .cutoff]) ∧
      (s.pack.state = .limit → (packRules s).pack.state ∈ [PackState.limit, .normal, .reserve, .cutoff]) ∧
      (s.pack.state = .reserve → (packRules s).pack.state ∈ [PackState.reserve, .cutoff]) ∧
      (s.pack.state = .tripped → (packRules s).pack.state ∈ [PackState.tripped, .cutoff]) := by
  refine ⟨fun h => ?_, fun h => ?_, fun h => ?_, fun h => ?_⟩ <;> simp only [packRules, h]
  · split_ifs <;> simp [enterCutoff_state, h]
  · split_ifs <;> simp [enterCutoff_state, h]
  · split_ifs <;> simp [enterCutoff_state, h]
  · split_ifs <;> simp [enterCutoff_state, h]

/-- No completion closes the switch, and only an entry to CUTOFF opens it (R31, R33). -/
theorem packRules_closed (s : State) :
    ((packRules s).pack.closed = true → s.pack.closed = true) ∧
      ((packRules s).pack.state ≠ .cutoff → (packRules s).pack.closed = s.pack.closed) := by
  have h := packRules_outcome s
  generalize packRules s = u at h ⊢
  cases h with
  | unchanged => exact ⟨id, fun _ => rfl⟩
  | cutoff =>
    have hopens : (enterCutoff s).pack.closed = (s.pack.closed && cutGraceMs s != 0) := by rw [enterCutoff_pack]; rfl
    exact ⟨fun h => (Bool.and_eq_true_iff.1 (hopens ▸ h)).1, fun hnot => absurd (enterCutoff_state s) hnot⟩
  | moved => exact ⟨id, fun _ => rfl⟩

/-- The state rules read the table and the counters and leave them (R26, R27). -/
theorem packRules_counted (s : State) : (packRules s).pack.table = s.pack.table ∧
    (packRules s).pack.counters = s.pack.counters ∧ (packRules s).pack.recovery = s.pack.recovery := by
  have h := packRules_outcome s
  generalize packRules s = u at h ⊢
  cases h with
  | unchanged => simp
  | cutoff => simp [enterCutoff_pack, cutoffPack]
  | moved => simp

/-- The incident of a transition names the lowest cell that holds its condition (R30). -/
theorem named_of_detail {s : State} {which : CellCounters → Nat} {code : IncidentCode} {log : IncidentLog}
    (h : conditionHolds s which = true) (hlog : log = s.log.append code (cellDetail s which)) :
    ∃ k, (k < cellCount s ∧ which (countersAt s.pack k) = faultCount s) ∧
      (∀ j, j < cellCount s ∧ which (countersAt s.pack j) = faultCount s →
        cellAt s.pack.table k ≤ cellAt s.pack.table j ∧ (cellAt s.pack.table j = cellAt s.pack.table k → k ≤ j)) ∧
      log.entries.getLast? = some ⟨code, s.log.clock, BitVec.ofNat 16 ((k + 1) * 8192 + cellAt s.pack.table k)⟩ := by
  obtain ⟨hmem, hall⟩ := namedCell_spec h
  refine ⟨namedCell s.pack.table (holdingCells s which), mem_holdingCells.1 hmem,
    fun j hj => hall j (mem_holdingCells.2 hj), ?_⟩
  rw [hlog, IncidentLog.append_last]
  rfl

/-- The settings the state rules read. -/
theorem packLimits_congr {s t : State} (h : t.ctl.held = s.ctl.held) :
    cellCount t = cellCount s ∧ faultCount t = faultCount s ∧ cutGraceMs t = cutGraceMs s := by
  simp [cellCount, faultCount, cutGraceMs, cfgN, cfg_congr h]

end Sys2Proof.Machine

open Sys2Proof Sys2Proof.Machine

/-- Settles O29: the completion runs the state rules on the counted scan; the publication that follows moves RampCap, Trim
and A_prev alone. -/
theorem scanTransitions : Obligations.ScanTransitions := by
  intro s t scan hrun hexec
  cases hpack : roleIs s .pack
  · have hsame : t = s := by
      have hnone : exec (.scanCompletion scan) s = .next (scanCompleted scan s) := live_of_not_halt (by simp [hrun]) _
      have hkept : scanCompleted scan s = s := by simp [scanCompleted, hpack]
      rw [hnone, hkept] at hexec
      injection hexec with h
      exact h.symm
    subst hsame
    exact ⟨fun h => by simp [h], fun h => by simp [h], fun h => by simp [h], fun h => by simp [h], fun _ => rfl, id,
      fun _ => rfl, fun h => absurd h (by simp)⟩
  · let n := noteSensor (s.setPack (scannedPack scan s))
    have hn : n.pack = scannedPack scan s := by simp [n]
    have hstate : n.pack.state = s.pack.state := by rw [hn]; rfl
    have hclosed : n.pack.closed = s.pack.closed := by rw [hn]; rfl
    have hback : n.pack.returnState = s.pack.returnState := by rw [hn]; rfl
    have hhold : n.pack.holdTimer = s.pack.holdTimer := by rw [hn]; rfl
    have hquiet : n.pack.quietTimer = s.pack.quietTimer := by rw [hn]; rfl
    have hclock : n.log.clock = s.log.clock := by
      show (noteSensor _).log.clock = _
      rw [noteSensor_eq]
      split <;> rfl
    obtain ⟨hcells, hfaults, hgrace⟩ := packLimits_congr (s := s) (t := n) (by simp [n])
    have ht : t = publishAllowance (packRules n) := by
      rw [exec_scanCompletion_run hpack hrun] at hexec
      injection hexec with h
      exact h.symm
    have hnotWinch : roleIs n .winch = false := by
      have hrole : n.ctl.role = s.ctl.role := by simp [n]
      rw [roleIs_congr hrole]
      rw [roleIs_iff] at hpack
      simp [roleIs, hpack]
    have htPack : t.pack = { (packRules n).pack with
        rampCap := t.pack.rampCap, trim := t.pack.trim, aPrev := t.pack.aPrev } := by
      rw [ht, publishAllowance_pack]
    have htLog : t.log = (packRules n).log := by rw [ht]; simp
    have hmoved : t.pack.state = (packRules n).pack.state ∧ t.pack.closed = (packRules n).pack.closed ∧
        t.pack.cutGrace = (packRules n).pack.cutGrace ∧ t.pack.returnState = (packRules n).pack.returnState ∧
        t.pack.holdTimer = (packRules n).pack.holdTimer ∧ t.pack.quietTimer = (packRules n).pack.quietTimer := by
      rw [htPack]
      exact ⟨rfl, rfl, rfl, rfl, rfl, rfl⟩
    have hcounted : t.pack.table = n.pack.table ∧ t.pack.counters = n.pack.counters ∧ t.pack.recovery = n.pack.recovery := by
      rw [htPack]
      exact packRules_counted n
    have hcounters (k : Nat) : countersAt t.pack k = countersAt n.pack k := by
      unfold countersAt
      rw [hcounted.2.1]
    have hholds (which : CellCounters → Nat) : (∃ k, k < cellCount s ∧ which (countersAt t.pack k) = faultCount s) ↔
        conditionHolds n which = true := by
      simp only [conditionHolds_iff, hcells, hfaults, hcounters]
    have hnot {which : CellCounters → Nat}
        (h : ¬ ∃ k, k < cellCount s ∧ which (countersAt t.pack k) = faultCount s) : conditionHolds n which = false :=
      Bool.eq_false_iff.2 fun h' => h ((hholds which).2 h')
    have hnamed {code : IncidentCode} {which : CellCounters → Nat} (h : conditionHolds n which = true)
        (hlog : (packRules n).log = n.log.append code (cellDetail n which)) :
        ∃ k, (k < cellCount s ∧ which (countersAt t.pack k) = faultCount s) ∧
          (∀ j, j < cellCount s ∧ which (countersAt t.pack j) = faultCount s →
            cellAt t.pack.table k ≤ cellAt t.pack.table j ∧
              (cellAt t.pack.table j = cellAt t.pack.table k → k ≤ j)) ∧
          t.log.entries.getLast? =
            some ⟨code, s.log.clock, BitVec.ofNat 16 ((k + 1) * 8192 + cellAt t.pack.table k)⟩ := by
      obtain ⟨k, hk, hall, hlast⟩ := named_of_detail h hlog
      simp only [hcounters, hcounted.1, htLog, ← hcells, ← hfaults, ← hclock]
      exact ⟨k, hk, hall, hlast⟩
    obtain ⟨htState, htClosed, htGrace, htBack, htHold, htQuiet⟩ := hmoved
    obtain ⟨hnormal, hlimit, hreserve, htripped⟩ := packRules_states n
    obtain ⟨hopened, hkept⟩ := packRules_closed n
    rw [htState, htClosed, htGrace, htBack, htHold, htQuiet, hcounted.2.2]
    rw [hstate] at hnormal hlimit hreserve htripped
    rw [hclosed] at hopened hkept
    refine ⟨hnormal, hlimit, hreserve, htripped, fun h => ?waiting, hopened, hkept, fun _ => ?rules⟩
    case waiting => rw [packRules_of_waiting (by rw [hstate]; exact h), hstate]
    case rules =>
      have hready : portReady s = true → portReady n = true := by
        have hport : n.port = s.port := by simp [n]
        rw [portReady_iff, portReady_iff, hport]
        exact id
      refine ⟨fun hcut hs => ?cut, fun hcut hreserved hs => ?reserve, fun hcut hreserved hs hback' => ?returned,
        fun hcut hs hor => ?tripped, fun hcut hreserved hwarn hs => ?warn, fun hcut hreserved hwarn hs => ?normal,
        fun hcut hreserved hs => ?limit, fun hcut hs => ?stays⟩
      case cut =>
        have hcut' := (hholds _).1 hcut
        have hto : packRules n = enterCutoff n := packRules_of_cut hcut' (by rw [hstate]; exact hs)
        refine ⟨by rw [hto, enterCutoff_state], hnamed hcut' (by rw [hto, enterCutoff_log]), ?_, ?_, fun hport => ?_⟩
        · rw [hto, enterCutoff_pack, hgrace, ← hclosed]
          rfl
        · rw [hto, enterCutoff_pack, hgrace, ← hclosed]
          rfl
        · have hn' := hready hport
          have hrole : roleIs (enterCutoff n) .winch = false := by
            have hsame : (enterCutoff n).ctl.role = n.ctl.role := by simp
            exact (roleIs_congr hsame .winch).trans hnotWinch
          obtain ⟨-, -, -, -, hqueued⟩ := publishAllowance_of_not_winch hrole
          rw [ht, hto, hqueued ((enterCutoff_of_not_winch hnotWinch).2.2 hn'), enterCutoff_port hnotWinch hn']
          exact afterQueue_trip_holds _ _ _ _ _
      case reserve =>
        have hreserved' := (hholds _).1 hreserved
        have hto := packRules_of_reserve (hnot hcut) hreserved' (by rw [hstate]; exact hs)
        exact ⟨by rw [hto]; rfl, hnamed hreserved' (by rw [hto]; rfl)⟩
      case returned =>
        have hreserved' := (hholds _).1 hreserved
        have hto := packRules_of_returned (hnot hcut) hreserved' (by rw [hstate]; exact hs) (by rw [hback]; exact hback')
        exact ⟨by rw [hto]; exact hstate.trans hs, by rw [hto]; rfl, hnamed hreserved' (by rw [hto]; rfl)⟩
      case tripped =>
        have hto := packRules_of_tripped (hnot hcut) (by rw [hstate]; exact hs) (by
          rw [hback]
          exact hor.imp hnot id)
        rw [hto]
        exact ⟨hback, hhold, hquiet⟩
      case warn =>
        have hwarn' := (hholds _).1 hwarn
        have hto := packRules_of_warn (hnot hcut) (hnot hreserved) hwarn' (by rw [hstate]; exact hs)
        exact ⟨by rw [hto]; rfl, hnamed hwarn' (by rw [hto]; rfl)⟩
      case normal =>
        rw [packRules_of_normal (hnot hcut) (hnot hreserved) (hnot hwarn) (by rw [hstate]; exact hs), hstate, hs]
      case limit =>
        rw [packRules_of_limit (hnot hcut) (hnot hreserved) (by rw [hstate]; exact hs), ← hfaults]
        by_cases h : n.pack.recovery = faultCount n
        · rw [if_pos (by simpa [recovered] using h), if_pos h]
          rfl
        · rw [if_neg (by simpa [recovered] using h), if_neg h]
          exact hstate.trans hs
      case stays =>
        obtain h | h := hs
        · rw [packRules_of_reserved (hnot hcut) (by rw [hstate]; exact h), hstate]
        · cases hr : conditionHolds n CellCounters.reserve
          · rw [packRules_of_tripped (hnot hcut) (by rw [hstate]; exact h) (.inl hr), hstate]
          · by_cases hb : n.pack.returnState = some .normal ∨ n.pack.returnState = some .limit
            · rw [packRules_of_returned (hnot hcut) hr (by rw [hstate]; exact h) hb]
              exact hstate
            · rw [packRules_of_tripped (hnot hcut) (by rw [hstate]; exact h) (.inr (not_or.1 hb)), hstate]
end

section
/-! The main switch (O30, O31, O32): the CHECK and CutGrace timers, the trip comparator, the re-arm. -/

namespace Sys2Proof.Machine

theorem winch_of_pack {s : State} (h : roleIs s .pack = true) : roleIs s .winch = false := by
  rw [roleIs_iff] at h
  simp [roleIs, h]

/-- On PACK a TRIP touches port, share unit and lamps alone (R18, R46). -/
theorem queueTrip_changes_of_not_winch {s : State} (state : PackState) (cause : TripCause)
    (h : roleIs s .winch = false) : Changes [.port, .share, .lamp] s (queueTrip state cause s) := by
  let q := queueFrame .trip [state.code, cause.code] s
  have hq : roleIs q .winch = false := (roleIs_congr (by simp [q]) .winch).trans h
  obtain ⟨hbridge, hwinch, -, hlatest⟩ := takeTrip_of_not_winch hq
  have hb : (queueTrip state cause s).bridge = s.bridge := hbridge.trans (by simp [q])
  have hw : (queueTrip state cause s).winch = s.winch := hwinch.trans (by simp [q])
  have hl : (queueTrip state cause s).latest = s.latest := hlatest.trans (by simp [q])
  exact .of (by simp [allPieces, Piece.same, hb, hw, hl])

/-- In RUN a TRIP queued sets the hold, and the computation uses 0 (R18, R50). -/
theorem queueTrip_share {s : State} (state : PackState) (cause : TripCause) (hrun : inRun s = true) :
    (queueTrip state cause s).share.tripHold = true ∧ (queueTrip state cause s).share.value = 0 := by
  let q := queueFrame .trip [state.code, cause.code] s
  have hq : inRun q = true := (inRun_congr (by simp [q])).trans hrun
  have hshare : (queueTrip state cause s).share = _ := takeTrip_share q
  rw [if_pos hq] at hshare
  rw [hshare]
  exact ⟨rfl, rfl⟩

/-- The station a CHECK that fails leaves before its TRIP (R32). -/
def faultedPack (s : State) : State :=
  record .packFault 4 <| setFaults { s.ctl.faults with packFault := true } <|
    s.setPack { s.pack with checkTimer := none, state := .fault, trim := 0 }

/-- A trip that counts, with its incident (R34, R35). -/
def notedTrip (i : Current) (p : Pack) (s : State) : State :=
  (record .packTrip (BitVec.ofNat 16 (min 255 i.whole)) s).setPack p

section
variable {s : State} (hpack : roleIs s .pack = true)
include hpack

theorem checkExpired_eq (hrun : inRun s = true) (hstate : s.pack.state = .check)
    (htimer : s.pack.checkTimer.isSome = true) : checkExpired s =
      if s.pack.plausibility = faultCount s then
        s.setPack { s.pack with checkTimer := none, state := .normal, closed := true, rampCap := 0, trim := 0 }
      else queueTrip .fault .cellCount (faultedPack s) := by
  have hcond : (roleIs s .pack && inRun s && s.pack.state == .check && s.pack.checkTimer.isSome) = true := by
    simp [hpack, hrun, hstate, htimer]
  unfold checkExpired plausible
  rw [if_pos hcond]
  by_cases h : s.pack.plausibility = faultCount s
  · rw [if_pos h, if_pos (beq_iff_eq.2 h)]
    rfl
  · rw [if_neg h, if_neg (by simpa using h)]
    rfl

/-- What the trip comparator makes of a current above PackTrip with the switch closed (R34, R35). -/
theorem packTripped_eq {i : Current} (hclosed : s.pack.closed = true) (h : exceeds i (packTripLevel s) = true) :
    packTripped i s =
      if s.pack.state = .cutoff then
        notedTrip i { s.pack with tripCount := satSucc 255 s.pack.tripCount, closed := false, cutGrace := none } s
      else if (trippedPack s.pack).latched then
        queueTrip .tripped .latched (record .tripLatched 0 (notedTrip i (trippedPack s.pack) s))
      else queueTrip .tripped .overcurrent (notedTrip i (trippedPack s.pack) s) := by
  unfold packTripped
  rw [if_pos (by simp [hpack, hclosed, h])]
  by_cases hcut : s.pack.state = .cutoff
  · rw [if_pos hcut, if_pos (beq_iff_eq.2 hcut)]
    rfl
  · rw [if_neg hcut, if_neg (by simpa using hcut)]
    rfl

end

theorem trippedPack_latched (p : Pack) : (trippedPack p).latched = true ↔ p.tripCount = 2 := by
  show (satSucc 255 p.tripCount == 3) = true ↔ _
  simp only [satSucc, beq_iff_eq]
  omega

theorem faultedPack_changes (s : State) : Changes [.pack, .faults, .log] s (faultedPack s) :=
  .of (by simp [allPieces, Piece.same, faultedPack, record, setFaults])

theorem notedTrip_changes (i : Current) (p : Pack) (s : State) : Changes [.pack, .log] s (notedTrip i p s) :=
  .of (by simp [allPieces, Piece.same, notedTrip, record])

end Sys2Proof.Machine

open Sys2Proof Sys2Proof.Machine

/-- Settles O30: each expiry by what its timer waits for. -/
theorem checkAndGraceExpire : Obligations.CheckAndGraceExpire := by
  intro s hpack hrun
  have hlive : s.ctl.station ≠ .halt := by simp [hrun]
  have hrun' : inRun s = true := beq_iff_eq.2 hrun
  refine ⟨fun hgrace => ?grace, fun hstate htimer => ?check⟩
  case grace =>
    have hexec : exec .cutgraceExpiry s = .next (graceExpired s) := live_of_not_halt hlive _
    rw [hexec]
    exact congrArg Host.Outcome.next (if_pos (by simp [hpack, hrun', hgrace]))
  case check =>
    have hexec : exec .checkTimerExpiry s = .next (checkExpired s) := live_of_not_halt hlive _
    rw [checkExpired_eq hpack hrun' hstate htimer] at hexec
    refine ⟨_, hexec, fun hplausible => if_pos hplausible, fun hnot => ?_⟩
    rw [if_neg hnot]
    let v := faultedPack s
    have hv := faultedPack_changes s
    have hwinch : roleIs v .winch = false := (roleIs_congr (hv .mode (by decide)).1 .winch).trans (winch_of_pack hpack)
    have hqueue := queueTrip_changes_of_not_winch .fault .cellCount hwinch
    have hframe := ((hv.mono (by decide : _ ⊆ [.pack, .faults, .mode, .conditions, .isolated, .startTimer, .stationTimer,
      .commit, .working, .log, .port, .share, .lamp])).trans (hqueue.mono (by decide))).eq
    have hctl : (queueTrip .fault .cellCount v).ctl.faults = v.ctl.faults := hqueue .faults (by decide)
    have hpack' : (queueTrip .fault .cellCount v).pack = v.pack := hqueue .pack (by decide)
    have hlog : (queueTrip .fault .cellCount v).log = v.log := hqueue .log (by decide)
    obtain ⟨hhold, hvalue⟩ := queueTrip_share (s := v) .fault .cellCount hrun'
    have hport (hready : portReady s = true) := queueTrip_port (s := v) .fault .cellCount hwinch hready
    refine ⟨hframe, hpack', hctl, ?_, hhold, hvalue, hport⟩
    rw [hlog]
    exact IncidentLog.append_last _ _ _

/-- Settles O31: a current above PackTrip opens the closed switch; what else follows depends on the pack state and the
count. -/
theorem packTripOpensSwitch : Obligations.PackTripOpensSwitch := by
  intro s i hpack hrun
  have hlive : s.ctl.station ≠ .halt := by simp [hrun]
  have hrun' : inRun s = true := beq_iff_eq.2 hrun
  have hexec : exec (.packTrip i) s = .next (packTripped i s) := live_of_not_halt hlive _
  refine ⟨_, hexec, fun hnone => ?none, fun hclosed habove => ?trips⟩
  case none =>
    refine if_neg fun h => ?_
    simp only [Bool.and_eq_true, exceeds_iff] at h
    obtain ⟨⟨-, hclosed⟩, habove⟩ := h
    obtain h | h := hnone
    · rw [h] at hclosed
      exact absurd hclosed (by decide)
    · exact h habove
  case trips =>
    rw [packTripped_eq hpack hclosed ((exceeds_iff _ _).2 habove)]
    by_cases hcut : s.pack.state = .cutoff
    · have hnoted := notedTrip_changes i
        { s.pack with tripCount := satSucc 255 s.pack.tripCount, closed := false, cutGrace := none } s
      have hframe := (hnoted.mono (by decide : _ ⊆ [.pack, .log, .port, .share, .lamp])).eq
      rw [if_pos hcut]
      refine ⟨hframe, rfl, rfl,
        fun _ => ⟨hcut, rfl, rfl, rfl, IncidentLog.append_last _ _ _⟩, fun hgraded => ?_⟩
      rw [hcut] at hgraded
      exact absurd hgraded (by decide)
    · rw [if_neg hcut]
      let v := notedTrip i (trippedPack s.pack) s
      have hv := notedTrip_changes i (trippedPack s.pack) s
      have hlast : v.log.entries.getLast? = some ⟨.packTrip, s.log.clock, BitVec.ofNat 16 (min 255 i.whole)⟩ :=
        IncidentLog.append_last _ _ _
      by_cases htwo : s.pack.tripCount = 2
      · have hlatched := (trippedPack_latched s.pack).2 htwo
        rw [if_pos hlatched]
        let w := record .tripLatched 0 v
        have hw : Changes [.pack, .log] s w := hv.trans ((record_changes _ _ v).mono (by decide))
        have hwinch : roleIs w .winch = false := (roleIs_congr (hw .mode (by decide)).1 .winch).trans (winch_of_pack hpack)
        have hqueue := queueTrip_changes_of_not_winch .tripped .latched hwinch
        have hframe := ((hw.mono (by decide : _ ⊆ [.pack, .log, .port, .share, .lamp])).trans (hqueue.mono (by decide))).eq
        have hpack' : (queueTrip .tripped .latched w).pack = trippedPack s.pack := hqueue .pack (by decide)
        have hlog : (queueTrip .tripped .latched w).log = v.log.append .tripLatched 0 := hqueue .log (by decide)
        obtain ⟨hhold, hvalue⟩ := queueTrip_share (s := w) .tripped .latched hrun'
        have hport (hready : portReady s = true) := queueTrip_port (s := w) .tripped .latched hwinch hready
        generalize queueTrip .tripped .latched w = t at *
        refine ⟨hframe, by rw [hpack']; rfl, by rw [hpack']; rfl, fun h => absurd h hcut, fun _ => ⟨by rw [hpack']; rfl,
          by rw [hpack']; rfl, by rw [hpack']; rfl, hhold, hvalue, fun h => absurd htwo h,
          fun _ => ⟨by rw [hpack']; exact hlatched, ?_, by rw [hpack']; rfl, ?_, ?_, hport⟩⟩⟩
        · rw [hpack']
          exact if_pos hlatched
        · rw [hlog]
          exact IncidentLog.append_last _ _ _
        · rw [hlog]
          exact mem_append_of_last hlast _ _
      · have hlatched : ¬ (trippedPack s.pack).latched = true := fun h => htwo ((trippedPack_latched s.pack).1 h)
        rw [if_neg hlatched]
        have hwinch : roleIs v .winch = false := (roleIs_congr (hv .mode (by decide)).1 .winch).trans (winch_of_pack hpack)
        have hqueue := queueTrip_changes_of_not_winch .tripped .overcurrent hwinch
        have hframe := ((hv.mono (by decide : _ ⊆ [.pack, .log, .port, .share, .lamp])).trans (hqueue.mono (by decide))).eq
        have hpack' : (queueTrip .tripped .overcurrent v).pack = trippedPack s.pack := hqueue .pack (by decide)
        have hlog : (queueTrip .tripped .overcurrent v).log = v.log := hqueue .log (by decide)
        obtain ⟨hhold, hvalue⟩ := queueTrip_share (s := v) .tripped .overcurrent hrun'
        have hport (hready : portReady s = true) := queueTrip_port (s := v) .tripped .overcurrent hwinch hready
        generalize queueTrip .tripped .overcurrent v = t at *
        refine ⟨hframe, by rw [hpack']; rfl, by rw [hpack']; rfl, fun h => absurd h hcut, fun _ => ⟨by rw [hpack']; rfl,
          by rw [hpack']; rfl, by rw [hpack']; rfl, hhold, hvalue,
          fun _ => ⟨by rw [hpack']; exact Bool.eq_false_iff.2 hlatched, ?_, by rw [hlog]; exact hlast, hport⟩,
          fun h => absurd h htwo⟩⟩
        rw [hpack']
        exact if_neg hlatched

/-- Settles O32: the hold phase ends in the quiet phase, the quiet phase in the return state. -/
theorem rearmInTwoPhases : Obligations.RearmInTwoPhases := by
  intro s hpack hrun hstate
  have hlive : s.ctl.station ≠ .halt := by simp [hrun]
  have hrun' : inRun s = true := beq_iff_eq.2 hrun
  refine ⟨fun hhold hquiet => ?hold, fun r hquiet hback => ?quiet⟩
  case hold =>
    let v := s.setPack { s.pack with holdTimer := none, quietPhase := true }
    have hexec : exec .holdTimerExpiry s = .next (holdExpired s) := live_of_not_halt hlive _
    have hexpired : holdExpired s = packQuiet v := if_pos (by simp [hpack, hrun', hstate, hhold])
    have hpackQuiet : packQuiet v =
        v.setPack { v.pack with quietTimer := if throttleQuiet v then some (v.pack.quietTimer.getD 1000) else none } :=
      if_pos (by
        show (roleIs s .pack && s.pack.state == .tripped && true) = true
        simp [hpack, hstate])
    have hthrottle : throttleQuiet v = true ↔
        s.latest.demand.band = .none ∨ s.latest.demand.band = .lost ∨ s.latest.demand.throttle = 0 := by
      show throttleQuiet s = true ↔ _
      unfold throttleQuiet
      cases s.latest.demand.band <;> simp
    have htimer : v.pack.quietTimer.getD 1000 = 1000 := by
      show s.pack.quietTimer.getD 1000 = 1000
      rw [hquiet]
      rfl
    rw [hexec, hexpired, hpackQuiet, htimer, if_congr hthrottle rfl rfl]
    rfl
  case quiet =>
    have hexec : exec .quietTimerExpiry s = .next (quietExpired s) := live_of_not_halt hlive _
    have hexpired : quietExpired s = s.setPack { closeSwitch (s.pack.returnState.getD .normal) s.pack with
        holdTimer := none, quietTimer := none, quietPhase := false } :=
      if_pos (by simp [hpack, hrun', hstate, hquiet])
    rw [hexec, hexpired, hback]
    rfl
end

section
/-! The share computation (O33), and the selection table of an axle line by line, which its want reads (R54, R55, R100,
R109). -/

namespace Sys2Proof.Machine

/-! ### The selection table of an axle (R100) -/

section
variable {s : State} (byTrip : Bool) (hrun : inRun s = true)
include hrun

theorem chooseAxle_of_latched (h : s.bridge.latched = true) :
    chooseAxle s byTrip = { state := .latched, stopDwell := true } := by simp [chooseAxle, hrun, h]

theorem chooseAxle_of_tripped (h : s.bridge.latched = false) (h' : s.bridge.tripped = true) :
    chooseAxle s byTrip = { state := .tripped, stopDwell := true } := by simp [chooseAxle, hrun, h, h']

variable (hlatched : s.bridge.latched = false) (htripped : s.bridge.tripped = false)
include hlatched htripped

theorem chooseAxle_of_failsafe (h : s.ctl.failsafe = true) :
    chooseAxle s byTrip = { state := .brake, level := 100, stopDwell := true } := by
  simp [chooseAxle, hrun, hlatched, htripped, h]

theorem chooseAxle_of_digLock (h : s.ctl.failsafe = true ∨ digLock s = true) :
    chooseAxle s byTrip = { state := .brake, level := 100, stopDwell := true } := by
  cases hf : s.ctl.failsafe
  · have hd : digLock s = true := h.resolve_left (by simp [hf])
    simp [chooseAxle, hrun, hlatched, htripped, hf, hd]
  · exact chooseAxle_of_failsafe byTrip hrun hlatched htripped hf

variable (hfailsafe : s.ctl.failsafe = false) (hdig : digLock s = false)
include hfailsafe hdig

theorem chooseAxle_of_dwell (h : s.bridge.dwellTimer.isSome = true) :
    chooseAxle s byTrip = { state := .dwell, level := 100 } := by
  simp [chooseAxle, hrun, hlatched, htripped, hfailsafe, hdig, h]

variable (hdwell : s.bridge.dwellTimer = none)
include hdwell

theorem chooseAxle_of_still (h : signOf s.bridge.d = none) : chooseAxle s byTrip = dragChoice s := by
  simp [chooseAxle, hrun, hlatched, htripped, hfailsafe, hdig, hdwell, h]

theorem chooseAxle_of_against {sign : Sign} (h : signOf s.bridge.d = some sign)
    (hagainst : s.bridge.lastSign = some (opposite sign) ∧ 0 < reverseDwell s) :
    chooseAxle s byTrip = { state := .dwell, level := 100, startDwell := true } := by
  simp [chooseAxle, hrun, hlatched, htripped, hfailsafe, hdig, hdwell, h, hagainst]

theorem chooseAxle_of_drive {sign : Sign} (h : signOf s.bridge.d = some sign)
    (hfree : ¬ (s.bridge.lastSign = some (opposite sign) ∧ 0 < reverseDwell s)) :
    chooseAxle s byTrip =
      if byTrip && s.bridge.tripLevel == 0 then dragChoice s else { state := driveOf sign } := by
  simp [chooseAxle, hrun, hlatched, htripped, hfailsafe, hdig, hdwell, h, hfree]

end

/-- Neither line of the drag brake drives (R100). -/
theorem dragChoice_drives (s : State) : (dragChoice s).state.drives = false := by
  unfold dragChoice
  split <;> rfl

theorem driveOf_drives (sign : Sign) : (driveOf sign).drives = true := by cases sign <;> rfl

theorem signOf_eq_none {d : Int} : signOf d = none ↔ d = 0 := by
  unfold signOf
  split_ifs <;> simp <;> omega

theorem signOf_eq_plus {d : Int} : signOf d = some .plus ↔ 0 < d := by
  unfold signOf
  split_ifs <;> simp <;> omega

theorem signOf_eq_minus {d : Int} : signOf d = some .minus ↔ d < 0 := by
  unfold signOf
  split_ifs <;> simp <;> omega

/-- Where d is against the last driven sign (R100, R101). -/
theorem opposes_iff {s : State} {sign : Sign} (h : signOf s.bridge.d = some sign) :
    s.bridge.lastSign = some (opposite sign) ↔
      (0 < s.bridge.d ∧ s.bridge.lastSign = some .minus) ∨ (s.bridge.d < 0 ∧ s.bridge.lastSign = some .plus) := by
  cases sign
  · have hd := signOf_eq_plus.1 h
    have hn : ¬ s.bridge.d < 0 := by omega
    simp [opposite, hd, hn]
  · have hd := signOf_eq_minus.1 h
    have hn : ¬ 0 < s.bridge.d := by omega
    simp [opposite, hd, hn]

theorem digLock_iff {s : State} (hrun : inRun s = true) : digLock s = true ↔
    (roleIs s .front = true ∧ s.bridge.activeDig = 1) ∨ (roleIs s .rear = true ∧ s.bridge.activeDig = 2) := by
  simp [digLock, hrun]

/-- A DRIVE state is requested (R109): the table without its trip-level line gives one. -/
theorem requestsDrive_iff {s : State} (hrun : inRun s = true) : (chooseAxle s false).state.drives = true ↔
    s.bridge.latched = false ∧ s.bridge.tripped = false ∧ s.ctl.failsafe = false ∧ ¬ digLock s = true ∧
      s.bridge.dwellTimer = none ∧ s.bridge.d ≠ 0 ∧
      ¬ (((0 < s.bridge.d ∧ s.bridge.lastSign = some .minus) ∨ (s.bridge.d < 0 ∧ s.bridge.lastSign = some .plus)) ∧
        0 < reverseDwell s) := by
  cases hl : s.bridge.latched
  case true => simp [chooseAxle_of_latched false hrun hl, DriveState.drives]
  cases ht : s.bridge.tripped
  case true => simp [chooseAxle_of_tripped false hrun hl ht, DriveState.drives]
  cases hf : s.ctl.failsafe
  case true => simp [chooseAxle_of_failsafe false hrun hl ht hf, DriveState.drives]
  cases hd : digLock s
  case true => simp [chooseAxle_of_digLock false hrun hl ht (.inr hd), DriveState.drives]
  cases hw : s.bridge.dwellTimer with
  | some n => simp [chooseAxle_of_dwell false hrun hl ht hf hd (by rw [hw]; rfl), DriveState.drives]
  | none =>
    cases hs : signOf s.bridge.d with
    | none =>
      have hzero := signOf_eq_none.1 hs
      rw [chooseAxle_of_still false hrun hl ht hf hd hw hs, dragChoice_drives]
      simp [hzero]
    | some sign =>
      have hne : s.bridge.d ≠ 0 := fun h => by
        rw [signOf_eq_none.2 h] at hs
        exact absurd hs (by simp)
      rw [← opposes_iff hs]
      by_cases hagainst : s.bridge.lastSign = some (opposite sign) ∧ 0 < reverseDwell s
      · rw [chooseAxle_of_against false hrun hl ht hf hd hw hs hagainst]
        simp [DriveState.drives, hagainst]
      · rw [chooseAxle_of_drive false hrun hl ht hf hd hw hs hagainst]
        simp only [Bool.false_and, Bool.false_eq_true, if_false, driveOf_drives, hne, hagainst, not_false_eq_true,
          and_self, ne_eq]

/-! ### The allocation (R54, R55) -/

/-- One tier: the grant, and what it leaves. -/
theorem allocateTier_eq (r own sum : Nat) :
    allocateTier r own sum = (if sum ≤ r then own else own * r / sum, r - sum) := by
  unfold allocateTier
  split
  · rfl
  · next h => exact congrArg _ (by omega)

theorem allocate_eq (r : Nat) (own sums : Tiers) : allocate r own sums =
    ⟨if sums.k ≤ r then own.k else own.k * r / sums.k,
      if sums.a ≤ r - sums.k then own.a else own.a * (r - sums.k) / sums.a,
      if sums.b ≤ r - sums.k - sums.a then own.b else own.b * (r - sums.k - sums.a) / sums.b,
      if sums.c ≤ r - sums.k - sums.a - sums.b then own.c else own.c * (r - sums.k - sums.a - sums.b) / sums.c⟩ := by
  simp only [allocate, allocateTier_eq]

/-- The tier sums over the five role addresses (R54). -/
theorem viewSums_eq (s : State) (own : Tiers) : viewSums s own =
    ⟨(viewOf s own .front).k + (viewOf s own .rear).k + (viewOf s own .winch).k + (viewOf s own .pack).k +
        (viewOf s own .lamp).k,
      (viewOf s own .front).a + (viewOf s own .rear).a + (viewOf s own .winch).a + (viewOf s own .pack).a +
        (viewOf s own .lamp).a,
      (viewOf s own .front).b + (viewOf s own .rear).b + (viewOf s own .winch).b + (viewOf s own .pack).b +
        (viewOf s own .lamp).b,
      (viewOf s own .front).c + (viewOf s own .rear).c + (viewOf s own .winch).c + (viewOf s own .pack).c +
        (viewOf s own .lamp).c⟩ := by
  simp [viewSums, allRoles, Tiers.add]

end Sys2Proof.Machine

open Sys2Proof Sys2Proof.Machine

/-- Settles O33: one computation with the timer restarted, whose allocation is read tier by tier. -/
theorem shareComputation : Obligations.ShareComputation := by
  intro s hrun htimer hrole
  have hlive : s.ctl.station ≠ .halt := by simp [hrun]
  have hrun' : inRun s = true := beq_iff_eq.2 hrun
  let a := s.setShare { s.share with timer := some 20 }
  have hexec : exec .shareTimerExpiry s = .next (shareExpired s) := live_of_not_halt hlive _
  have hexpired : shareExpired s = shareCompute .timer a := if_pos (by simp [hrun', htimer])
  have hframe := ((shareExpired_changes s).mono
    (by decide : _ ⊆ [.records, .winchRecord, .port, .share, .lamp, .winch, .bridge])).eq
  have hshare : (shareCompute .timer a).share = computedShare .timer a := shareCompute_share _ _
  have hrecords := shareCompute_changes .timer a .records (by decide)
  rw [hexpired] at hexec hframe
  generalize shareCompute .timer a = t at *
  have hused (v : Nat × Basis) (h : allowanceUsed s = v) : t.share.value = v.1 ∧ t.share.basis = v.2 := by
    rw [hshare, ← h]
    exact ⟨rfl, rfl⟩
  have hwithin := allocate_within (ownWants_le_viewSums (s := a) hrole (ownWants a)) (allowanceUsed a).1
  obtain ⟨⟨hk, ha, hb, hc⟩, hsum⟩ := hwithin
  refine ⟨t, hexec, by rw [hshare]; rfl, by rw [hshare]; rfl, by rw [hshare]; rfl, fun htrip => ?trip,
    fun htrip hfresh => ?record, fun htrip hfresh => ?blind, by rw [hshare]; rfl, by rw [hshare]; rfl,
    fun hwinch => ?winch, fun haxle => ?axle, ?grants, by rw [hshare]; exact hk, by rw [hshare]; exact ha,
    by rw [hshare]; exact hb, by rw [hshare]; exact hc, by rw [hshare]; exact hsum, hrecords.2.1, hrecords.1, hframe⟩
  case trip => exact hused (0, .trip) (by simp [allowanceUsed, htrip])
  case record => exact hused (s.latest.allowance.allowance.toNat, .record) (by simp [allowanceUsed, htrip, hfresh])
  case blind => exact hused (blindAllowance s, .blind) (by simp [allowanceUsed, htrip, hfresh])
  case winch =>
    have hwinch' : roleIs a .winch = true := hwinch
    obtain ⟨hwantA, hwantB⟩ := ownWants_of_winch hwinch'
    rw [hshare]
    exact Prod.ext hwantA hwantB
  case axle =>
    have hnot : roleIs a .winch = false :=
      Bool.eq_false_iff.2 fun h => by rw [isAxle_of_winch (s := s) h] at haxle; exact absurd haxle (by decide)
    have hwants : t.share.wants.a = bridgeWant s ∧ t.share.wants.b = 0 := by
      have hown : (ownWants a).a = bridgeWant a ∧ (ownWants a).b = 0 := by simp [ownWants, hnot]
      rw [hshare]
      exact hown
    have hwant : bridgeWant s = if (chooseAxle s false).state.drives = true then
        (s.bridge.d.natAbs * motorLimit s + 999) / 1000 else 0 := by
      simp only [bridgeWant, haxle, Bool.true_and]
      rfl
    have hiff := requestsDrive_iff hrun'
    rw [digLock_iff hrun'] at hiff
    rw [hwants.1, hwants.2, hwant]
    exact ⟨fun h => if_pos (hiff.2 h), fun h => if_neg fun h' => h (hiff.1 h'), rfl⟩
  case grants =>
    have hgrants : t.share.grants = allocate t.share.value t.share.wants (viewSums s t.share.wants) := by
      rw [hshare]
      rfl
    rw [hgrants, allocate_eq, viewSums_eq]
    rfl
end

section
/-! The capture unit's edges, long flags and bands, and the arming timer (O34 to O36). -/

namespace Sys2Proof.Machine

/-! ### The capture unit's operations -/

theorem widthValid_iff (w : Nat) : widthValid w = true ↔ 750 ≤ w ∧ w ≤ 2250 := by
  simp [widthValid]

theorem widthValid_eq_false {w : Nat} (h : w < 750 ∨ 2250 < w) : widthValid w = false := by
  rw [Bool.eq_false_iff, ne_eq, widthValid_iff]
  omega

theorem activeEdge_iff (s : State) (rising : Bool) :
    activeEdge s rising = true ↔ rising = decide (pulsePolarity s = 0) := by
  by_cases h : pulsePolarity s = 0 <;> simp [activeEdge, h]

/-- The value of a width lies within −1000 to 1000 (R72). -/
theorem channelValue_mem (s : State) (c w : Nat) : -1000 ≤ channelValue s c w ∧ channelValue s c w ≤ 1000 := by
  have h := limitTo_mem (lo := -1000) (hi := 1000) (by decide)
    (towardZero ((w - centreOf s c) * 1000) (halfSpanOf s c))
  simp only [channelValue]
  split_ifs <;> omega

theorem putOpened_opened (c : Nat) (m : Option Measure) (s : State) (k : Fin 6) :
    (putOpened c m s).cap.opened.getD k none = if k.val = c then m else s.cap.opened.getD k none := by
  rw [putOpened, State.setCap_cap, getD_tab, if_pos k.isLt]

theorem channelAt_putChannel (c : Nat) (r : Channel) (s : State) (k : Nat) (hk : k < 6) :
    channelAt (putChannel c r s) k = if k = c then r else channelAt s k := by
  rw [channelAt, putChannel, State.setCap_cap, getD_tab, if_pos hk]

theorem channelEvent_cap (c : Nat) (s : State) : (channelEvent c s).cap = s.cap := by
  simp

/-- A valid width without the long flag becomes the channel's (R68). -/
theorem judgeWidth_of_valid {s : State} {c w : Nat} (hc : c < 6) (h : widthValid w = true) :
    channelAt (judgeWidth c w false s) c = channelWith s c w ∧
      (judgeWidth c w false s).cap.rejected = s.cap.rejected ∧ (judgeWidth c w false s).cap.train = s.cap.train ∧
      (judgeWidth c w false s).cap.timer = s.cap.timer ∧ (judgeWidth c w false s).cap.opened = s.cap.opened := by
  have hcap : (judgeWidth c w false s).cap = (putChannel c (channelWith s c w) s).cap := by
    simp [judgeWidth, h]
  refine ⟨?_, ?_, ?_, ?_, ?_⟩
  · rw [show channelAt (judgeWidth c w false s) c = channelAt (putChannel c (channelWith s c w) s) c from
      congrArg (fun x : Capture => x.channels.getD c {}) hcap, channelAt_putChannel c _ s c hc, if_pos rfl]
  · rw [hcap]; rfl
  · rw [hcap]; rfl
  · rw [hcap]; rfl
  · rw [hcap]; rfl

/-- Any other width is rejected (R68). -/
theorem judgeWidth_of_not_valid {s : State} {c w : Nat} {long : Bool} (h : widthValid w = false ∨ long = true) :
    judgeWidth c w long s = rejectWidth s := by
  have hno : (widthValid w && !long) = false := by
    obtain h | h := h <;> simp [h]
  rw [judgeWidth, hno]
  rfl

theorem judgeWidth_keeps (c w : Nat) (long : Bool) (s : State) :
    (judgeWidth c w long s).cap.timer = s.cap.timer ∧ (judgeWidth c w long s).cap.opened = s.cap.opened ∧
      (judgeWidth c w long s).cap.train = s.cap.train := by
  unfold judgeWidth
  split <;> simp [putChannel, rejectWidth]

/-- The long flag of an open measurement after the timer has moved on to a stamp (R65). -/
theorem passMeasure_long (timer stamp : Half) (m : Measure) :
    (passMeasure timer (stamp - timer).toNat m).long = true ↔
      m.long = true ∨ (0 < (m.start - timer).toNat ∧ (m.start - timer).toNat ≤ (stamp - timer).toNat) := by
  simp [passMeasure, passesStart]

theorem stampTimer_opened (stamp : Half) (s : State) (k : Nat) :
    (stampTimer stamp s).cap.opened.getD k none =
      (s.cap.opened.getD k none).map (passMeasure s.cap.timer (stamp - s.cap.timer).toNat) := by
  have h := moveTimer_opened (stamp - s.cap.timer).toNat s.cap k
  exact h

theorem stampTimer_keeps (stamp : Half) (s : State) :
    (stampTimer stamp s).cap.channels = s.cap.channels ∧ (stampTimer stamp s).cap.rejected = s.cap.rejected ∧
      (stampTimer stamp s).dem = s.dem ∧ (stampTimer stamp s).cap.train =
        { s.cap.train with prev := s.cap.train.prev.map (passMeasure s.cap.timer (stamp - s.cap.timer).toNat) } := by
  refine ⟨?_, ?_, rfl, rfl⟩ <;> simp [stampTimer, stampCapture]

/-! ### Separate mode -/

/-- An active edge opens a measurement (R67). -/
theorem edgeCaptured_of_active {s : State} (c : Nat) {rising : Bool} (stamp : Half) (hradio : s.ctl.radio = true)
    (hmode : captureMode s = 0) (h : activeEdge s rising = true) : edgeCaptured c rising stamp s =
      putOpened c (some ⟨stamp, false⟩) (stampTimer stamp (setLevel c rising s)) := by
  simp [edgeCaptured, hradio, hmode, h]

/-- An inactive edge closes the open measurement of its pin (R67). -/
theorem edgeCaptured_of_open {s : State} {c : Nat} {rising : Bool} (stamp : Half) {m : Measure}
    (hradio : s.ctl.radio = true) (hmode : captureMode s = 0) (h : activeEdge s rising = false)
    (hopen : s.cap.opened.getD c none = some m) : edgeCaptured c rising stamp s =
      judgeWidth c (stamp - m.start).toNat (passMeasure s.cap.timer (stamp - s.cap.timer).toNat m).long
        (putOpened c none (stampTimer stamp (setLevel c rising s))) := by
  have ho : (stampTimer stamp (setLevel c rising s)).cap.opened.getD c none =
      some (passMeasure s.cap.timer (stamp - s.cap.timer).toNat m) := by
    have h' := stampTimer_opened stamp (setLevel c rising s) c
    rw [show (setLevel c rising s).cap = s.cap from rfl, hopen] at h'
    exact h'
  simp only [edgeCaptured, hradio, hmode, h, ho]
  rfl

/-- An inactive edge with no measurement open closes none. -/
theorem edgeCaptured_of_none {s : State} {c : Nat} {rising : Bool} (stamp : Half) (hradio : s.ctl.radio = true)
    (hmode : captureMode s = 0) (h : activeEdge s rising = false) (hopen : s.cap.opened.getD c none = none) :
    edgeCaptured c rising stamp s = stampTimer stamp (setLevel c rising s) := by
  have ho : (stampTimer stamp (setLevel c rising s)).cap.opened.getD c none = none := by
    have h' := stampTimer_opened stamp (setLevel c rising s) c
    rw [show (setLevel c rising s).cap = s.cap from rfl, hopen] at h'
    exact h'
  simp only [edgeCaptured, hradio, hmode, h, ho]
  rfl

/-- Every edge makes the timer its stamp and passes the open measurements of the other pins (R65). -/
theorem edgeCaptured_timer {s : State} (c : Nat) (rising : Bool) (stamp : Half) (hradio : s.ctl.radio = true)
    (hmode : captureMode s = 0) : (edgeCaptured c rising stamp s).cap.timer = stamp ∧
      ∀ k : Fin 6, k.val ≠ c → (edgeCaptured c rising stamp s).cap.opened.getD k none =
        (s.cap.opened.getD k none).map (passMeasure s.cap.timer (stamp - s.cap.timer).toNat) := by
  have hput (m : Option Measure) (k : Fin 6) (hk : k.val ≠ c) :
      (putOpened c m (stampTimer stamp (setLevel c rising s))).cap.opened.getD k none =
        (s.cap.opened.getD k none).map (passMeasure s.cap.timer (stamp - s.cap.timer).toNat) := by
    rw [putOpened_opened, if_neg hk, stampTimer_opened]
    rfl
  have htimer (m : Option Measure) : (putOpened c m (stampTimer stamp (setLevel c rising s))).cap.timer = stamp :=
    stampTimer_timer stamp (setLevel c rising s)
  cases ha : activeEdge s rising with
  | true =>
    rw [edgeCaptured_of_active c stamp hradio hmode ha]
    exact ⟨htimer _, hput _⟩
  | false =>
    cases hopen : s.cap.opened.getD c none with
    | none =>
      rw [edgeCaptured_of_none stamp hradio hmode ha hopen]
      exact ⟨stampTimer_timer _ _, fun k _ => stampTimer_opened stamp (setLevel c rising s) k⟩
    | some m =>
      rw [edgeCaptured_of_open stamp hradio hmode ha hopen]
      obtain ⟨ht, ho, -⟩ := judgeWidth_keeps c (stamp - m.start).toNat
        (passMeasure s.cap.timer (stamp - s.cap.timer).toNat m).long
        (putOpened c none (stampTimer stamp (setLevel c rising s)))
      rw [ht, ho]
      exact ⟨htimer _, hput _⟩

end Sys2Proof.Machine

open Sys2Proof Sys2Proof.Machine

/-- Settles O34: an active edge opens a measurement, an inactive one judges the width of the measurement it closes. -/
theorem captureEdgeMeasures : Obligations.CaptureEdgeMeasures := by
  intro s c rising stamp hlive hradio hmode
  have hexec : exec (.captureEdge c rising stamp) s = .next (edgeCaptured c rising stamp s) :=
    live_of_not_halt hlive _
  have hframe := ((edgeCaptured_changes c rising stamp s).mono (by decide : _ ⊆ [.cap, .dem, .pins])).eq
  obtain ⟨htimer, hothers⟩ := edgeCaptured_timer (s := s) c rising stamp hradio hmode
  have hinactive : rising ≠ decide (pulsePolarity s = 0) → activeEdge s rising = false := fun h =>
    Bool.eq_false_iff.2 (h ∘ (activeEdge_iff s rising).1)
  obtain ⟨hchannels, hrejected, hdem, -⟩ := stampTimer_keeps stamp (setLevel c rising s)
  refine ⟨_, hexec, hframe, htimer, ⟨fun k m hk hm => ?_, fun hr => ?_, fun m hr hm => ?_⟩, fun hr hm => ?_⟩
  · refine ⟨_, ?_, passMeasure_long s.cap.timer stamp m⟩
    rw [hothers k fun h => hk (Fin.ext h), hm]
    rfl
  · rw [edgeCaptured_of_active c.val stamp hradio hmode ((activeEdge_iff s rising).2 hr)]
    exact ⟨by rw [putOpened_opened, if_pos rfl], hchannels, hdem⟩
  · rw [edgeCaptured_of_open stamp hradio hmode (hinactive hr) hm]
    refine ⟨?_, fun hlong hlow hhigh => ?_, fun hbad => ?_⟩
    · rw [(judgeWidth_keeps ..).2.1, putOpened_opened, if_pos rfl]
    · have hflag := Bool.eq_false_iff.2 (hlong ∘ (passMeasure_long s.cap.timer stamp m).1)
      have hvalid := (widthValid_iff _).2 ⟨hlow, hhigh⟩
      rw [hflag]
      obtain ⟨hchannel, hcount, -⟩ := judgeWidth_of_valid
        (s := putOpened c none (stampTimer stamp (setLevel c rising s))) c.isLt hvalid
      rw [hchannel, hcount]
      exact ⟨rfl, rfl, rfl, hrejected, channelValue_mem _ _ _⟩
    · have hnot : widthValid (stamp - m.start).toNat = false ∨
          (passMeasure s.cap.timer (stamp - s.cap.timer).toNat m).long = true := by
        obtain hlong | hwidth := hbad
        · exact .inr ((passMeasure_long s.cap.timer stamp m).2 hlong)
        · exact .inl (widthValid_eq_false hwidth)
      rw [judgeWidth_of_not_valid hnot]
      refine ⟨hchannels, ?_, hdem⟩
      rw [← show (stampTimer stamp (setLevel c rising s)).cap.rejected = s.cap.rejected from hrejected]
      rfl
  · rw [edgeCaptured_of_none stamp hradio hmode (hinactive hr) hm]
    exact ⟨hchannels, hrejected, hdem⟩
end

section
/-! Train mode (O35). -/

namespace Sys2Proof.Machine

/-- The state in which an active edge in Train mode has moved the timer and begins the next interval (R65, R69). -/
def nextInterval (rising : Bool) (stamp : Half) (s : State) : State :=
  setTrain (fun x => { x with prev := some ⟨stamp, false⟩ }) (stampTimer stamp (setLevel 0 rising s))

theorem nextInterval_cap (rising : Bool) (stamp : Half) (s : State) :
    (nextInterval rising stamp s).cap.timer = stamp ∧ (nextInterval rising stamp s).cap.channels = s.cap.channels ∧
      (nextInterval rising stamp s).cap.rejected = s.cap.rejected ∧
      (nextInterval rising stamp s).cap.train = { s.cap.train with prev := some ⟨stamp, false⟩ } := by
  obtain ⟨hchannels, hrejected, -, -⟩ := stampTimer_keeps stamp (setLevel 0 rising s)
  exact ⟨stampTimer_timer stamp (setLevel 0 rising s), hchannels, hrejected, rfl⟩

/-- An active edge hands the interval it ends to the frame (R69). -/
theorem trainCaptured_of_active {s : State} {rising : Bool} (stamp : Half) {m : Measure} (hradio : s.ctl.radio = true)
    (hmode : captureMode s = 1) (h : activeEdge s rising = true) (hprev : s.cap.train.prev = some m) :
    trainCaptured rising stamp s = takeInterval
      (intervalOf (passMeasure s.cap.timer (stamp - s.cap.timer).toNat m) stamp) (nextInterval rising stamp s) := by
  have hp : (stampTimer stamp (setLevel 0 rising s)).cap.train.prev =
      some (passMeasure s.cap.timer (stamp - s.cap.timer).toNat m) := by
    rw [(stampTimer_keeps stamp (setLevel 0 rising s)).2.2.2]
    exact congrArg (Option.map _) hprev
  simp only [trainCaptured, hradio, hmode, h, hp]
  rfl

/-- An inactive edge moves the timer alone (R66, R69). -/
theorem trainCaptured_of_inactive {s : State} {rising : Bool} (stamp : Half) (hradio : s.ctl.radio = true)
    (hmode : captureMode s = 1) (h : activeEdge s rising = false) :
    trainCaptured rising stamp s = stampTimer stamp (setLevel 0 rising s) := by
  simp [trainCaptured, hradio, hmode, h]

/-- An interval counts 3000 µs or more where its width does, or with the long flag (R69). -/
theorem three_thousand_le_intervalOf (m : Measure) (stamp : Half) :
    3000 ≤ intervalOf m stamp ↔ m.long = true ∨ 3000 ≤ (stamp - m.start).toNat := by
  cases hlong : m.long <;> simp [intervalOf, hlong]

theorem intervalOf_passMeasure {timer stamp : Half} {d : Nat} {m : Measure} (h : (passMeasure timer d m).long = false) :
    intervalOf (passMeasure timer d m) stamp = (stamp - m.start).toNat := by
  rw [intervalOf, h]
  rfl

/-! ### What an interval does to the frame -/

/-- A gap of 3000 µs begins a frame (R69). -/
theorem takeInterval_of_gap {u : State} {n : Nat} (h : 3000 ≤ n) : takeInterval n u =
    setTrain (fun t => { t with inFrame := true, slot := 0, incomplete := false }) u := by
  simp [takeInterval, h]

/-- A shorter interval outside a frame is ignored (R69). -/
theorem takeInterval_of_outside {u : State} {n : Nat} (h : n < 3000) (hout : u.cap.train.inFrame = false) :
    takeInterval n u = u := by
  simp [takeInterval, Nat.not_le.2 h, hout]

/-- A shorter interval in a frame is its next slot (R69). -/
theorem takeInterval_of_slot {u : State} {n : Nat} (h : n < 3000) (hin : u.cap.train.inFrame = true) :
    takeInterval n u = takeSlot u.cap.train.slot n (setTrain (fun t => { t with slot := u.cap.train.slot + 1 }) u) := by
  simp [takeInterval, Nat.not_le.2 h, hin]

/-- The last slot ends the frame (R70). -/
theorem takeSlot_of_last {k : Nat} (h : 8 ≤ k) (n : Nat) (u : State) :
    takeSlot k n u = setTrain (fun t => { t with inFrame := false }) u := by
  simp [takeSlot, h]

/-- No channel takes a slot past the sixth, nor one of an incomplete frame (R70). -/
theorem takeSlot_of_ignored {k : Nat} {u : State} (hk : k < 8) (h : 6 ≤ k ∨ u.cap.train.incomplete = true) (n : Nat) :
    takeSlot k n u = u := by
  have hskip : (decide (6 ≤ k) || u.cap.train.incomplete) = true := by
    obtain h | h := h <;> simp [h]
  rw [takeSlot, if_neg (Nat.not_le.2 hk), hskip]
  rfl

/-- A slot of a complete frame is judged as a channel's width (R70). -/
theorem takeSlot_of_valid {k n : Nat} {u : State} (hk : k < 6) (hfull : u.cap.train.incomplete = false)
    (hn : widthValid n = true) : takeSlot k n u = judgeWidth k n false u := by
  simp [takeSlot, show ¬ 8 ≤ k by omega, hk, hfull, hn]

/-- A slot out of range makes the frame incomplete and is rejected (R70). -/
theorem takeSlot_of_not_valid {k n : Nat} {u : State} (hk : k < 6) (hfull : u.cap.train.incomplete = false)
    (hn : widthValid n = false) :
    takeSlot k n u = rejectWidth (setTrain (fun t => { t with incomplete := true }) u) := by
  simp [takeSlot, show ¬ 8 ≤ k by omega, hk, hfull, hn]

/-- A slot moves neither the timer nor the edge the next interval begins at, nor the slot number. -/
theorem takeSlot_keeps (k n : Nat) (u : State) : (takeSlot k n u).cap.timer = u.cap.timer ∧
    (takeSlot k n u).cap.train.prev = u.cap.train.prev ∧ (takeSlot k n u).cap.train.slot = u.cap.train.slot := by
  obtain ⟨ht, -, htrain⟩ := judgeWidth_keeps k n false u
  unfold takeSlot
  split_ifs
  · exact ⟨rfl, rfl, rfl⟩
  · exact ⟨rfl, rfl, rfl⟩
  · exact ⟨ht, by rw [htrain], by rw [htrain]⟩
  · exact ⟨rfl, rfl, rfl⟩

theorem takeInterval_keeps (n : Nat) (u : State) : (takeInterval n u).cap.timer = u.cap.timer ∧
    (takeInterval n u).cap.train.prev = u.cap.train.prev := by
  by_cases hn : 3000 ≤ n
  · rw [takeInterval_of_gap hn]
    exact ⟨rfl, rfl⟩
  · cases hin : u.cap.train.inFrame with
    | false =>
      rw [takeInterval_of_outside (Nat.lt_of_not_le hn) hin]
      exact ⟨rfl, rfl⟩
    | true =>
      rw [takeInterval_of_slot (Nat.lt_of_not_le hn) hin]
      obtain ⟨ht, hp, -⟩ := takeSlot_keeps u.cap.train.slot n
        (setTrain (fun t => { t with slot := u.cap.train.slot + 1 }) u)
      exact ⟨ht, hp⟩

/-- What a slot leaves of the channels, the rejected count and the frame (R70). -/
theorem takeSlot_spec (k n : Nat) (u : State) :
    (k ≤ 5 → u.cap.train.incomplete = false → 750 ≤ n → n ≤ 2250 →
      (channelAt (takeSlot k n u) k).width = n ∧ (channelAt (takeSlot k n u) k).age = 0 ∧
        (takeSlot k n u).cap.rejected = u.cap.rejected) ∧
    (k ≤ 5 → u.cap.train.incomplete = false → (n < 750 ∨ 2250 < n) →
      (takeSlot k n u).cap.train.incomplete = true ∧
        (takeSlot k n u).cap.rejected = min (u.cap.rejected + 1) 255 ∧
        (takeSlot k n u).cap.channels = u.cap.channels) ∧
    ((u.cap.train.incomplete = true ∨ 6 ≤ k) → (takeSlot k n u).cap.channels = u.cap.channels ∧
      (takeSlot k n u).cap.rejected = u.cap.rejected) ∧
    (8 ≤ k → (takeSlot k n u).cap.train.inFrame = false) := by
  refine ⟨fun hk hfull hlow hhigh => ?_, fun hk hfull hbad => ?_, fun hskip => ?_, fun hk => ?_⟩
  · rw [takeSlot_of_valid (by omega) hfull ((widthValid_iff n).2 ⟨hlow, hhigh⟩)]
    obtain ⟨hchannel, hcount, -⟩ := judgeWidth_of_valid (s := u) (show k < 6 by omega)
      ((widthValid_iff n).2 ⟨hlow, hhigh⟩)
    rw [hchannel, hcount]
    exact ⟨rfl, rfl, rfl⟩
  · rw [takeSlot_of_not_valid (by omega) hfull (widthValid_eq_false hbad)]
    exact ⟨rfl, rfl, rfl⟩
  · by_cases hk : 8 ≤ k
    · rw [takeSlot_of_last hk]
      exact ⟨rfl, rfl⟩
    · rw [takeSlot_of_ignored (by omega) hskip.symm]
      exact ⟨rfl, rfl⟩
  · rw [takeSlot_of_last hk]
    rfl

end Sys2Proof.Machine

open Sys2Proof Sys2Proof.Machine

/-- Settles O35: an active edge hands its interval to the frame, an inactive one moves the timer alone. -/
theorem trainEdgeSlots : Obligations.TrainEdgeSlots := by
  intro s stamp m hlive hradio hmode hprev long
  have hlong : (passMeasure s.cap.timer (stamp - s.cap.timer).toNat m).long = true ↔ long :=
    passMeasure_long s.cap.timer stamp m
  refine ⟨?_, ?_⟩
  · have hactive := trainCaptured_of_active stamp hradio hmode
      ((activeEdge_iff s (decide (pulsePolarity s = 0))).2 rfl) hprev
    have hexec : exec (.trainEdge ⟨decide (pulsePolarity s = 0), stamp⟩) s =
        .next (trainCaptured (decide (pulsePolarity s = 0)) stamp s) := live_of_not_halt hlive _
    have hframe := ((trainCaptured_changes (decide (pulsePolarity s = 0)) stamp s).mono
      (by decide : _ ⊆ [.cap, .dem, .pins])).eq
    refine ⟨_, hexec, hframe, ?_⟩
    rw [hactive]
    obtain ⟨hutimer, huchannels, hurejected, hutrain⟩ := nextInterval_cap (decide (pulsePolarity s = 0)) stamp s
    generalize nextInterval (decide (pulsePolarity s = 0)) stamp s = u at *
    obtain ⟨htimer, hnext⟩ := takeInterval_keeps
      (intervalOf (passMeasure s.cap.timer (stamp - s.cap.timer).toNat m) stamp) u
    refine ⟨htimer.trans hutimer, hnext.trans (by rw [hutrain]), fun h => ?_, fun h hn hout => ?_, fun h hn hin => ?_⟩
    · have hgap := (three_thousand_le_intervalOf (passMeasure s.cap.timer (stamp - s.cap.timer).toNat m) stamp).2
        (h.imp_left hlong.2)
      rw [takeInterval_of_gap hgap]
      refine ⟨?_, huchannels⟩
      simp [setTrain, hutrain]
    · rw [intervalOf_passMeasure (Bool.eq_false_iff.2 (h ∘ hlong.1)),
        takeInterval_of_outside hn (by rw [hutrain]; exact hout)]
      exact ⟨hutrain, huchannels⟩
    · rw [intervalOf_passMeasure (Bool.eq_false_iff.2 (h ∘ hlong.1)),
        takeInterval_of_slot hn (by rw [hutrain]; exact hin)]
      have hslot : u.cap.train.slot = s.cap.train.slot := by rw [hutrain]
      have hincomplete : u.cap.train.incomplete = s.cap.train.incomplete := by rw [hutrain]
      rw [hslot, ← hincomplete, ← hurejected, ← huchannels]
      exact ⟨(takeSlot_keeps ..).2.2, takeSlot_spec s.cap.train.slot (stamp - m.start).toNat
        (setTrain (fun t => { t with slot := s.cap.train.slot + 1 }) u)⟩
  · have hinactive : activeEdge s (!decide (pulsePolarity s = 0)) = false := by
      rw [Bool.eq_false_iff, ne_eq, activeEdge_iff]
      exact Bool.not_ne_self _
    have hexec : exec (.trainEdge ⟨!decide (pulsePolarity s = 0), stamp⟩) s =
        .next (trainCaptured (!decide (pulsePolarity s = 0)) stamp s) := live_of_not_halt hlive _
    rw [trainCaptured_of_inactive stamp hradio hmode hinactive] at hexec
    obtain ⟨hchannels, hrejected, -, htrain⟩ := stampTimer_keeps stamp (setLevel 0 (!decide (pulsePolarity s = 0)) s)
    refine ⟨_, _, hexec, rfl, stampTimer_timer _ _, hchannels, hrejected, htrain.trans ?_, hlong⟩
    rw [show (setLevel 0 (!decide (pulsePolarity s = 0)) s).cap = s.cap from rfl, hprev]
    rfl
end

section
/-! Bands, long flags and the arming timer (O36). -/

namespace Sys2Proof.Machine

/-- A band change replaces the channel's record and hands it to the demand builder (R71). -/
theorem bandChanged_eq {s : State} {c : Nat} (hradio : s.ctl.radio = true) (h : (channelAt s c).band.inUse = true) :
    bandChanged c s = channelEvent c (putChannel c (agedChannel (channelAt s c)) s) := by
  simp [bandChanged, hradio, h]

/-- A LOST channel 0 or 1 makes the link LOST (R75). -/
theorem linkOf_of_lost {c0 c1 : Channel} (h : c0.band = .lost ∨ c1.band = .lost) : linkOf c0 c1 = .lost := by
  obtain h | h := h <;> simp [linkOf, channelLost, h]

/-- The link LOST by a channel's event stops the arming timer, and in RUN disarms the throttle where it was not LOST
before (R75, R76). -/
theorem channelEvent_of_lost {u : State} {c : Nat} (hc : c ≤ 1)
    (h : linkOf (channelAt u 0) (channelAt u 1) = .lost) :
    (channelEvent c u).dem.link = .lost ∧ (channelEvent c u).dem.armingTimer = none ∧
      (u.ctl.station = .run → u.dem.link ≠ .lost → (channelEvent c u).dem.armed = false) := by
  have hlink : (evalLink u).dem.link = .lost := h
  rw [channelEvent, if_pos hc]
  refine ⟨hlink, ?_, fun hrun hbefore => ?_⟩
  · have hno : mayArm (evalLink u) = false := by simp [mayArm, hlink]
    simp [armingRule, hno]
  · have hrun' : inRun u = true := beq_iff_eq.2 hrun
    simp [armingRule, evalLink, h, hrun', hbefore]

theorem longFlagged_of_separate {s : State} (hradio : s.ctl.radio = true) (hmode : captureMode s = 0) (c : Nat) :
    longFlagged c s = putOpened c ((s.cap.opened.getD c none).map fun m => { m with long := true }) s := by
  simp [longFlagged, hradio, hmode]

theorem longFlagged_of_train {s : State} (hradio : s.ctl.radio = true) (hmode : captureMode s = 1) :
    longFlagged 0 s = setTrain (fun x => { x with prev := x.prev.map fun m => { m with long := true } }) s := by
  simp [longFlagged, hradio, hmode]

end Sys2Proof.Machine

open Sys2Proof Sys2Proof.Machine

/-- Settles O36: a band change hands its channel to the link and the arming rule. -/
theorem longFlagsBandsArming : Obligations.LongFlagsBandsArming := by
  intro s c hlive hradio
  refine ⟨fun r _ hr hband => ?_, fun hrun htimer => ?_, fun m hmode hm => ?_, fun m hmode hm => ?_⟩
  · have hat : channelAt s c = r := hr
    have huse : (channelAt s c).band.inUse = true := by
      rw [hat]
      obtain h | h := hband <;> rw [h] <;> rfl
    have hexec : exec (.channelBandChange c) s = .next (bandChanged c s) := live_of_not_halt hlive _
    have hframe := ((bandChanged_changes c s).mono (by decide : _ ⊆ [.cap, .dem])).eq
    have hchannel (k : Nat) (hk : k < 6) : channelAt (bandChanged c s) k =
        if k = c then agedChannel r else channelAt s k := by
      rw [bandChanged_eq hradio huse, channelAt, channelEvent_cap, ← hat]
      exact channelAt_putChannel c _ s k hk
    have hown := hchannel c c.isLt
    rw [if_pos rfl] at hown
    refine ⟨_, hexec, hframe, ?_, ?_, ?_, ?_, fun hc hstale => ?_, fun hc => ?_⟩
    · rw [hown]
      obtain h | h := hband <;> simp [agedChannel, h]
    · rw [hown]
      obtain h | h := hband <;> simp [agedChannel, h]
    · rw [hown]
      obtain h | h := hband <;> simp [agedChannel, h]
    · rw [hown]
      obtain h | h := hband <;> simp [agedChannel, h]
    · rw [bandChanged_eq hradio huse, hat]
      have haged : (agedChannel r).band = .lost := by simp [agedChannel, hstale]
      have hlost : linkOf (channelAt (putChannel c (agedChannel r) s) 0) (channelAt (putChannel c (agedChannel r) s) 1) =
          .lost := by
        refine linkOf_of_lost ?_
        obtain h | h : c.val = 0 ∨ c.val = 1 := by omega
        · exact .inl (by rw [channelAt_putChannel _ _ _ 0 (by decide), if_pos h.symm, haged])
        · exact .inr (by rw [channelAt_putChannel _ _ _ 1 (by decide), if_pos h.symm, haged])
      exact channelEvent_of_lost hc hlost
    · rw [bandChanged_eq hradio huse, channelEvent, if_neg (by omega)]
      rfl
  · have hexec : exec .armingTimerExpiry s = .next (armingExpired s) := live_of_not_halt hlive _
    have hrun' : inRun s = true := beq_iff_eq.2 hrun
    rw [hexec, armingExpired, hradio, hrun', htimer]
    rfl
  · have hexec : exec (.longFlag c) s = .next (longFlagged c s) := live_of_not_halt hlive _
    rw [longFlagged_of_separate hradio hmode] at hexec
    refine ⟨_, hexec, rfl, ?_, fun k hk => ?_⟩
    · rw [putOpened_opened, if_pos rfl, hm]
      rfl
    · rw [putOpened_opened, if_neg fun h => hk (Fin.ext h)]
  · have hexec : exec (.longFlag 0) s = .next (longFlagged 0 s) := live_of_not_halt hlive _
    rw [hexec, longFlagged_of_train hradio hmode, setTrain, hm]
    rfl
end

section
/-! A publication moment (O37). -/

namespace Sys2Proof.Machine

/-- Off WINCH the reaction to a DEMAND leaves the winch, its record and the port. -/
theorem demandReact_changes_of_not_winch (accepted : Bool) {s : State} (h : roleIs s .winch = false) :
    Changes [.conditions, .steer, .bridge, .pack, .lamp] s (demandReact accepted s) := by
  have hwinch : winchReact accepted (bridgeReact accepted (steerReact accepted (evalConditions s))) =
      bridgeReact accepted (steerReact accepted (evalConditions s)) :=
    winchReact_of_not_winch accepted ((roleIs_congr (by simp) .winch).trans h)
  have hctl : Changes [.conditions, .steer, .bridge, .pack, .lamp] (evalConditions s) (demandReact accepted s) := by
    rw [demandReact, hwinch]
    exact .of (by simp [allPieces, Piece.same])
  exact ((evalConditions_changes s).mono (by decide)).trans hctl

/-- A DEMAND of the station's own is heard without a conflict (R19, R20). -/
theorem heardDemand_of_own {p : Publisher} {s : State} (h : publisherAddress p = ownAddress s) :
    heardDemand p s = s.setLatest (s.latest.putAge p (some 0)) := by
  rw [heardDemand, noteConflict_of_own h]

theorem demandArrives_changes_of_own {p : Publisher} (d : List Byte) {s : State}
    (h : publisherAddress p = ownAddress s) (hwinch : roleIs s .winch = false) :
    Changes [.conditions, .records, .steer, .bridge, .pack, .lamp, .log] s (demandArrives p d s) := by
  have hheard : Changes [.records, .log] s (heardDemand p s) := by
    rw [heardDemand_of_own h]
    cases p <;> exact .of (by simp [allPieces, Piece.same, Latest.putAge])
  rw [demandArrives_eq]
  split
  · have haccept : Changes [.records, .log] s (acceptedDemand p d s) := by
      rw [acceptedDemand, heardDemand_of_own h]
      refine .trans ?_ (takenDemand_changes p d _)
      cases p <;> exact .of (by simp [allPieces, Piece.same, Latest.putAge])
    have hrole := (roleIs_congr (haccept .mode (by decide)).1 .winch).trans hwinch
    exact (haccept.mono (by decide)).trans ((demandReact_changes_of_not_winch true hrole).mono (by decide))
  · exact hheard.mono (by decide)

theorem demandArrives_of_takes {p : Publisher} (d : List Byte) {s : State} (h : takesSource p s.latest.source = true) :
    demandArrives p d s = demandReact true (acceptedDemand p d s) := by
  rw [demandArrives_eq, if_pos h]
  rfl

/-- What an own DEMAND leaves of the source and the record (R16, R19). -/
theorem demandArrives_records_of_own {p : Publisher} (d : List Byte) {s : State} :
    (demandArrives p d s).latest.ageOf p = some 0 ∧
      (demandArrives p d s).latest.source = (if takesSource p s.latest.source then some p else s.latest.source) ∧
      (takesSource p s.latest.source = true → (demandArrives p d s).latest.demand = readDemand p d) := by
  refine ⟨(demandArrives_ages p d s p).trans (ageOf_putAge_self _ _ _), ?_, fun htakes => ?_⟩
  · by_cases htakes : takesSource p s.latest.source = true
    · rw [demandArrives_of_takes d htakes, if_pos htakes]
      exact (acceptedDemand_records p d s).2.2.1
    · have hheard : (heardDemand p s).latest = s.latest.putAge p (some 0) := rfl
      rw [demandArrives_eq, if_neg htakes, if_neg htakes, hheard, (putAge_kept s.latest p (some 0)).2.2.2]
  · rw [demandArrives_of_takes d htakes]
    exact (acceptedDemand_records p d s).1

/-! ### The bytes of a DEMAND (section 11.2) -/

theorem demandData_length (s : State) : (demandData s).length = 8 := rfl

/-- A throttle that is not armed or not FRESH is published as 0 (R79). -/
theorem demandData_throttle {s : State} (h : s.dem.armed = false ∨ (channelAt s 0).band ≠ .fresh) :
    byteAt (demandData s) 0 = 0 ∧ byteAt (demandData s) 1 = 0 := by
  have hthrottle : demandThrottle s = 0 := by
    obtain h | h := h
    · simp [demandThrottle, h]
    · have hband : ((channelAt s 0).band == .fresh) = false := by
        simpa using h
      simp [demandThrottle, hband]
  have hbytes : byteAt (demandData s) 0 = byteAt (intBytes2 (demandThrottle s)) 0 ∧
      byteAt (demandData s) 1 = byteAt (intBytes2 (demandThrottle s)) 1 := ⟨rfl, rfl⟩
  rw [hbytes.1, hbytes.2, hthrottle]
  decide

theorem demandData_link (s : State) : (byteAt (demandData s) 7).getLsbD 5 = s.dem.armed ∧
    (byteAt (demandData s) 7).extractLsb' 6 2 = s.dem.link.code := by
  have hbyte : byteAt (demandData s) 7 =
      s.dem.link.code ++ BitVec.ofBool s.dem.armed ++ BitVec.ofNat 5 (quality s.dem.history) := rfl
  rw [hbyte]
  generalize BitVec.ofNat 5 (quality s.dem.history) = q
  cases s.dem.armed <;> cases s.dem.link <;> exact ⟨by revert q; decide, by revert q; decide⟩

end Sys2Proof.Machine

open Sys2Proof Sys2Proof.Machine

/-- Settles O37: the publication queues the DEMAND of the moment, and the station hears it as its own. -/
theorem demandPublished : Obligations.DemandPublished := by
  intro s p hrun hradio htimer hp hready
  have hlive : s.ctl.station ≠ .halt := by rw [hrun]; decide
  have hexec : exec .demandTimerExpiry s = .next (demandTimerExpired s) := live_of_not_halt hlive _
  let x := s.setDem { s.dem with demandTimer := some 20 }
  let u := advanceHistory x
  let q := queueFrame .demand (demandData u) (u.setDem { u.dem with published := true })
  have hexpired : demandTimerExpired s = publishDemand x := by
    simp [demandTimerExpired, hradio, inRun, hrun, htimer, x]
  have hown : ownPublisher x = some p := by
    have hx : publisherAddress p = ownAddress x := hp
    rw [ownPublisher, ← hx]
    cases p <;> rfl
  have hrole : roleIs s .winch = false := by
    rw [Bool.eq_false_iff]
    intro hw
    have hx : ownPublisher x = none := ownPublisher_of_winch hw
    rw [hx] at hown
    exact absurd hown (by simp)
  have hu : Changes [.dem] s u := .of (by simp [allPieces, Piece.same, u, advanceHistory, x])
  rw [hexpired] at hexec
  obtain ⟨hnone, -⟩ | ⟨p', hp', hsilenced, he⟩ | ⟨p', hp', hsilenced, he⟩ := publishDemand_cases x
  · rw [hown] at hnone
    exact absurd hnone (by simp)
  · have hs : silenced s = true := hsilenced
    rw [he] at hexec
    exact ⟨_, hexec, rfl, rfl, rfl, fun _ => ⟨rfl, rfl⟩, fun h => absurd (hs.symm.trans h) (by decide)⟩
  · obtain rfl : p = p' := Option.some.inj (hown.symm.trans hp')
    have hs : silenced s = false := hsilenced
    rw [he] at hexec
    have hq : Changes [.port, .dem] s q := (hu.mono (by decide)).trans
      ((show Changes [.dem] u (u.setDem { u.dem with published := true }) from
        .of (by simp [allPieces, Piece.same])).mono (by decide) |>.trans
          ((queueFrame_changes .demand (demandData u) _).mono (by decide)))
    have hport : q.port = afterQueue .demand (demandData u) (ownAddress s) s.port :=
      queueFrame_port (s := u.setDem { u.dem with published := true }) hready _ _
    have hdem : q.dem = { u.dem with published := true } := queueFrame_changes _ _ _ .dem (by decide)
    have haddress : publisherAddress p = ownAddress q :=
      hp.trans (congrArg BitVec.toNat (hq .mode (by decide)).1).symm
    have hrole' := (roleIs_congr (hq .mode (by decide)).1 .winch).trans hrole
    have harrives := demandArrives_changes_of_own (demandData u) haddress hrole'
    obtain ⟨hage, hsource, hrecord⟩ := demandArrives_records_of_own (p := p) (demandData u) (s := q)
    have hlatest : q.latest.source = s.latest.source := (hq .records (by decide)).2.2.2.2.2
    have hlength := demandData_length u
    have hthrottle := demandData_throttle (s := u)
    have hlink := demandData_link u
    have harmed : u.dem.armed = s.dem.armed ∧ u.dem.link = s.dem.link ∧ channelAt u 0 = channelAt s 0 :=
      ⟨rfl, rfl, rfl⟩
    have hdemTimer : u.dem.demandTimer = some 20 ∧ u.dem.history = s.dem.history.drop 1 ++ [allFresh s] := ⟨rfl, rfl⟩
    change exec .demandTimerExpiry s = .next (demandArrives p (demandData u) q) at hexec
    have hframe := ((hq.mono (by decide : _ ⊆ [.dem, .port, .records, .winchRecord, .mode, .conditions, .isolated,
      .faults, .startTimer, .stationTimer, .commit, .working, .steer, .bridge, .pack, .lamp, .log])).trans
      (harrives.mono (by decide))).eq
    have hdemT := harrives .dem (by decide)
    have hportT := harrives .port (by decide)
    generalize demandArrives p (demandData u) q = t at *
    obtain ⟨harmed, hlinkKept, hchannel⟩ := harmed
    rw [harmed, hchannel] at hthrottle
    rw [harmed, hlinkKept] at hlink
    refine ⟨t, hexec, hframe, ?_, ?_, fun h => absurd (hs.symm.trans h) (by decide), fun _ =>
      ⟨?_, hage, ?_, demandData u, ?_, hlength, hthrottle, hlink.1, hlink.2, fun htakes => ?_⟩⟩
    · rw [hdemT, hdem]; exact hdemTimer.1
    · rw [hdemT, hdem]; exact hdemTimer.2
    · rw [hdemT, hdem]
    · rw [hsource, hlatest]
    · rw [hportT, hport]
    · rw [hrecord (by rw [hlatest]; exact htakes)]
      exact ⟨rfl, rfl, rfl⟩
end

section
/-! The split timer and the servo frames (O38, O39). -/

namespace Sys2Proof.Machine

/-! ### The split condition (R86) -/

/-- REAR's station in RUN as the split condition begins, before the mode follows. -/
def splitBegun (s : State) : State :=
  noteSplit (s.setSteer { s.steer with splitTimer := none, split := true })

theorem splitExpired_eq {s : State} (hrear : roleIs s .rear = true) (hrun : s.ctl.station = .run)
    (htimer : s.steer.splitTimer.isSome = true) : splitExpired s =
      if splitDiffers s then steerRefresh (splitBegun s) else s.setSteer { s.steer with splitTimer := none } := by
  have hdiffers : splitDiffers (s.setSteer { s.steer with splitTimer := none }) = splitDiffers s := rfl
  simp only [splitExpired, hrear, inRun, hrun, htimer, hdiffers]
  rfl

/-- BANK-SPLIT and its incident come as the split condition begins, or, at a FRONT bank of 3, not (R86, R172). -/
theorem splitBegun_cases (s : State) :
    (splitBegun s).steer = { s.steer with splitTimer := none, split := true } ∧
      ((2 < frontBank s ∧ (splitBegun s).ctl = s.ctl ∧ (splitBegun s).log = s.log) ∨
        ((splitBegun s).ctl = { s.ctl with faults := { s.ctl.faults with bankSplit := true } } ∧
          (splitBegun s).log.entries.getLast? = some ⟨.bankSplit, s.log.clock, 0⟩)) := by
  obtain ⟨hbank, he⟩ | he := noteSplit_cases (s.setSteer { s.steer with splitTimer := none, split := true })
  · rw [splitBegun, he]
    exact ⟨rfl, .inl ⟨hbank, rfl, rfl⟩⟩
  · rw [splitBegun, he]
    exact ⟨rfl, .inr ⟨rfl, s.log.append_last .bankSplit 0⟩⟩

/-! ### Servo frames (R91, R92) -/

/-- The output of a frame start (R92). -/
theorem servoStep_spec (s : State) :
    (slewStep s = 0 → servoStep s = s.steer.shadow) ∧
      ((s.steer.shadow - s.steer.output).natAbs ≤ (slewStep s).toNat → servoStep s = s.steer.shadow) ∧
      (0 < slewStep s → s.steer.output + slewStep s < s.steer.shadow → servoStep s = s.steer.output + slewStep s) ∧
      (0 < slewStep s → s.steer.shadow + slewStep s < s.steer.output → servoStep s = s.steer.output - slewStep s) := by
  unfold servoStep moveToward
  split_ifs <;> omega

/-- The servo width of an axle target (R90). -/
theorem servoWidth_spec {s : State} (t : Int) (h : servoMin s ≤ servoMax s) :
    servoMin s ≤ servoWidth s t ∧ servoWidth s t ≤ servoMax s ∧
      (let offset := Int.tdiv (t * servoThrow s) 1000
      (servoReverse s = 0 → servoMin s ≤ servoCentre s + offset → servoCentre s + offset ≤ servoMax s →
        servoWidth s t = servoCentre s + offset) ∧
      (servoReverse s = 1 → servoMin s ≤ servoCentre s - offset → servoCentre s - offset ≤ servoMax s →
        servoWidth s t = servoCentre s - offset)) := by
  obtain ⟨hmin, hmax⟩ := limitTo_mem h (if servoReverse s = 0 then servoCentre s + towardZero (t * servoThrow s) 1000
    else servoCentre s - towardZero (t * servoThrow s) 1000)
  refine ⟨hmin, hmax, fun hforward hlow hhigh => ?_, fun hreverse hlow hhigh => ?_⟩
  · simp only [servoWidth, hforward, if_true]
    exact limitTo_of_mem hlow hhigh
  · simp only [servoWidth, hreverse, one_ne_zero, if_false]
    exact limitTo_of_mem hlow hhigh

end Sys2Proof.Machine

open Sys2Proof Sys2Proof.Machine

/-- Settles O38: where the banks still differ the condition is noted, and the mode follows it. -/
theorem splitExpiry : Obligations.SplitExpiry := by
  intro s hrear hrun htimer
  have hexec : exec .splitTimerExpiry s = .next (splitExpired s) :=
    live_of_not_halt (by rw [hrun]; decide) _
  have heq := splitExpired_eq hrear hrun htimer
  have hframe := ((splitExpired_changes s).mono (by decide : _ ⊆ [.steer, .mode, .conditions, .isolated, .faults,
    .startTimer, .stationTimer, .commit, .working, .log])).eq
  refine ⟨_, hexec, fun hagree => ?_, fun hdiffers => ?_⟩
  · rw [heq, hagree]
    rfl
  · rw [hdiffers, if_pos rfl] at heq
    obtain ⟨hsteer, hnote⟩ := splitBegun_cases s
    have hchanges : Changes [.steer, .faults, .log] s (splitBegun s) :=
      ((setSteer_changes _ s).mono (by decide)).trans ((noteSplit_changes _).mono (by decide))
    obtain ⟨-, -, hstation, hheld⟩ := hchanges .mode (by decide)
    obtain ⟨hfailsafe, -⟩ := hchanges .conditions (by decide)
    have hrun' : inRun (splitBegun s) = true := (inRun_congr hstation).trans (beq_iff_eq.2 hrun)
    obtain ⟨hkept, hmode, hcentred, -⟩ := steerRefresh_spec hrun'
    have hctl : (steerRefresh (splitBegun s)).ctl = (splitBegun s).ctl := by simp
    have hlog : (steerRefresh (splitBegun s)).log = (splitBegun s).log := by simp
    rw [heq] at hframe ⊢
    rw [hfailsafe, hsteer] at hmode
    have hcentre : servoCentre (splitBegun s) = servoCentre s := servoCentre_congr hheld
    generalize steerRefresh (splitBegun s) = t at *
    rw [← hctl, ← hlog] at hnote
    rw [hsteer] at hkept
    have hnot : t.steer.mode ≠ .follow := by
      rw [hmode, if_pos rfl]
      cases s.ctl.failsafe <;> simp
    obtain ⟨htarget, hshadow⟩ := hcentred hnot
    refine ⟨hframe, fun _ => ?_, fun hbank => ?_, ?_, ?_, htarget, hshadow.trans hcentre, hmode⟩
    · exact hnote.imp (fun h => h.2) id
    · obtain ⟨h, -⟩ | h := hnote
      · exact absurd h (Nat.not_lt.2 hbank)
      · exact h
    · rw [hkept]
    · rw [hkept]

/-- Settles O39: a frame start moves the output toward the shadow, which `servoWidth` holds within the limits. -/
theorem servoFrame : Obligations.ServoFrame := by
  intro s left haxle hrun htimer _
  have hlive : s.ctl.station ≠ .halt := by rw [hrun]; decide
  have hrun' : inRun s = true := beq_iff_eq.2 hrun
  refine ⟨?_, live_of_not_halt hlive _, fun t h => servoWidth_spec t h⟩
  have hexec : exec .servoFrameTimerExpiry s = .next (servoFrameExpired s) := live_of_not_halt hlive _
  have hstart : servoFrameExpired s = startFrame (min left 0) s := by
    simp [servoFrameExpired, htimer, haxle, hrun']
  rw [hstart] at hexec
  obtain ⟨hzero, hnear, hup, hdown⟩ := servoStep_spec s
  refine ⟨_, hexec, rfl, hzero, hnear, hup, hdown, fun hleft => ?_⟩
  have hlate : min left 0 = 0 := by omega
  rw [hlate, startFrame]
  simp
end

section
/-! Period starts and the cycle limit (O40). -/

namespace Sys2Proof.Machine

theorem drives_iff (d : DriveState) : d.drives = true ↔ d = .driveFwd ∨ d = .driveRev := by
  cases d <;> decide

theorem drives_eq_false_iff (d : DriveState) : d.drives = false ↔ d ≠ .driveFwd ∧ d ≠ .driveRev := by
  cases d <;> decide

/-- At a trip level of 0 no station selects a DRIVE state (R100, R104, R112). -/
theorem chooseAxle_of_no_trip {s : State} (h : s.bridge.tripLevel = 0) : (chooseAxle s true).state.drives = false := by
  have hdrag := dragChoice_drives s
  cases hsign : signOf s.bridge.d <;> simp only [chooseAxle, h, hsign] <;> split_ifs <;> simp_all [DriveState.drives]

theorem chooseWinch_of_no_trip {s : State} (h : s.bridge.tripLevel = 0) : (chooseWinch s).state.drives = false := by
  cases hsign : (winchDrive s).1 <;> simp only [chooseWinch, h, hsign] <;> split_ifs <;> simp_all [DriveState.drives]

/-- A selection puts its drive state into the shadow (R96). -/
theorem selectDrive_shadow {s : State} (huse : bridgeInUse s = true) : (selectDrive s).bridge.shadow =
    ⟨(selectDrive s).bridge.driveState, (selectDrive s).bridge.outDuty.natAbs, (selectDrive s).bridge.brakeLevel⟩ := by
  cases ha : isAxle s with
  | true =>
    rw [selectDrive_of_axle ha]
    rfl
  | false =>
    have hw : roleIs s .winch = true := by simpa [bridgeInUse, ha] using huse
    rw [selectDrive_of_winch ha hw]
    rfl

/-- At a trip level of 0 the bridge does not drive (R104). -/
theorem selectDrive_of_no_trip {s : State} (huse : bridgeInUse s = true) (h : s.bridge.tripLevel = 0) :
    (selectDrive s).bridge.driveState.drives = false := by
  cases ha : isAxle s with
  | true =>
    rw [selectDrive_of_axle ha]
    exact chooseAxle_of_no_trip h
  | false =>
    have hw : roleIs s .winch = true := by simpa [bridgeInUse, ha] using huse
    rw [selectDrive_of_winch ha hw]
    exact chooseWinch_of_no_trip h

theorem periodStarted_bridge {s : State} (hrun : inRun s = true) (huse : bridgeInUse s = true)
    (htimer : s.bridge.periodTimer = true) :
    let t := selectDrive (s.setBridge { s.bridge with tripLevel := min (motorLimit s) (tierGrant s) })
    periodStarted s = t.setBridge { t.bridge with applied := t.bridge.shadow, cut := false } := by
  simp only [periodStarted, hrun, huse, htimer]
  rfl

/-! ### The driving high gate (R105; log 14) -/

/-- The driving high gate is on exactly where a DRIVE state's period has an on-time that is not cut. -/
theorem highOn_iff (b : Bridge) : highOn b = true ↔
    ((b.applied.state = .driveFwd ∨ b.applied.state = .driveRev) ∧ b.applied.duty ≠ 0) ∧ b.cut = false := by
  cases hstate : b.applied.state <;> cases hcut : b.cut <;> simp [highOn, gatesOf, gatePattern, hstate, hcut]

/-- A cut period leaves the low gate of the other leg on (R105). -/
theorem gatesOf_cut {b : Bridge} (h : b.applied.state = .driveFwd ∨ b.applied.state = .driveRev) (limited : Nat) :
    gatesOf { b with cut := true, limited := limited } = ⟨0, (gatesOf b).braLow, 0, (gatesOf b).brbLow⟩ ∧
      ((gatesOf b).braLow = 1000 ∨ (gatesOf b).brbLow = 1000) := by
  obtain h | h := h <;> simp [gatesOf, gatePattern, h]

end Sys2Proof.Machine

open Sys2Proof Sys2Proof.Machine

/-- Settles O40: a selection at the trip level of the moment reaches the gates; the cycle limit cuts an on-time once. -/
theorem tripLevelLimits : Obligations.TripLevelLimits := by
  intro s hrun huse
  have hlive : s.ctl.station ≠ .halt := by rw [hrun]; decide
  have hrun' : inRun s = true := beq_iff_eq.2 hrun
  refine ⟨fun htimer => ?_, ?_⟩
  · have hexec : exec .periodStart s = .next (periodStarted s) := live_of_not_halt hlive _
    have hframe := ((periodStarted_changes s).mono (by decide : _ ⊆ [.bridge, .lamp])).eq
    let u := s.setBridge { s.bridge with tripLevel := min (motorLimit s) (tierGrant s) }
    have huse' : bridgeInUse u = true := huse
    have hshadow := selectDrive_shadow huse'
    have hbrake := selectDrive_of_no_trip huse'
    obtain ⟨-, -, -, -, hlevel, -⟩ := selectDrive_kept u
    rw [periodStarted_bridge hrun' huse htimer] at hexec hframe
    refine ⟨_, hexec, hframe, hlevel, rfl, rfl, congrArg Applied.state hshadow, fun hgrant => ?_⟩
    have hzero : u.bridge.tripLevel = 0 := by simp [u, hgrant]
    exact (drives_eq_false_iff _).1 (hbrake hzero)
  · intro i above onTime
    refine ⟨fun hon habove hcut => ?_, fun hnot => ?_⟩
    · have hexec : exec (.cycleLimit i) s = .next (cycleLimited i s) := live_of_not_halt hlive _
      have hhigh : highOn s.bridge = true := (highOn_iff _).2 ⟨hon, hcut⟩
      have hexceeds : exceeds i s.bridge.tripLevel = true := (exceeds_iff _ _).2 habove
      rw [cycleLimited, huse, hrun', hhigh, hexceeds] at hexec
      obtain ⟨hgates, hlow⟩ := gatesOf_cut hon.1 (min (s.bridge.limited + 1) 65535)
      refine ⟨_, hexec, rfl, hgates, ?_⟩
      show (gatesOf { s.bridge with cut := true, limited := min (s.bridge.limited + 1) 65535 }).braLow = 1000 ∨
        (gatesOf { s.bridge with cut := true, limited := min (s.bridge.limited + 1) 65535 }).brbLow = 1000
      rw [hgates]
      exact hlow
    · have hexec : exec (.cycleLimit i) s = .next (cycleLimited i s) := live_of_not_halt hlive _
      have hno : (bridgeInUse s && inRun s && highOn s.bridge && exceeds i s.bridge.tripLevel) = false := by
        rw [Bool.eq_false_iff]
        intro h
        rw [Bool.and_eq_true, Bool.and_eq_true, highOn_iff, exceeds_iff] at h
        obtain ⟨⟨-, hon, hcut⟩, habove⟩ := h
        obtain h | h | h := hnot
        · exact h hon
        · exact h habove
        · exact absurd (hcut.symm.trans h) (by decide)
      rw [hexec, cycleLimited, hno]
      rfl
end

section
/-! Duty steps (O41): the ramp of an axle, the ramp and the stall timer of the winch. -/

namespace Sys2Proof.Machine

/-- A selection keeps the current figure and the assist cap. -/
theorem selectDrive_figures (s : State) : (selectDrive s).bridge.current = s.bridge.current ∧
    (selectDrive s).bridge.assist = s.bridge.assist := by
  cases ha : isAxle s with
  | true => rw [selectDrive_of_axle ha]; exact ⟨rfl, rfl⟩
  | false =>
    cases hw : roleIs s .winch with
    | true => rw [selectDrive_of_winch ha hw]; exact ⟨rfl, rfl⟩
    | false =>
      have hnone : selectDrive s = s := by simp [selectDrive, ha, hw]
      rw [hnone]
      exact ⟨rfl, rfl⟩

/-- A DRIVE state has no brake level (R100). -/
theorem chooseAxle_level {s : State} (byTrip : Bool) (h : (chooseAxle s byTrip).state.drives = true) :
    (chooseAxle s byTrip).level = 0 := by
  have hdrag := dragChoice_drives s
  revert h
  cases hsign : signOf s.bridge.d <;> simp only [chooseAxle, hsign] <;> split_ifs <;> simp_all [DriveState.drives]

/-- A selection on an axle: d kept, output duty 0 but for the duty of a DRIVE state that goes on (R100, R102). -/
theorem selectDrive_duty {s : State} (haxle : isAxle s = true) :
    (selectDrive s).bridge.d = s.bridge.d ∧ (selectDrive s).bridge.outDuty =
      (if (selectDrive s).bridge.driveState.drives = true ∧ (selectDrive s).bridge.driveState = s.bridge.driveState then
        s.bridge.outDuty else 0) ∧
      ((selectDrive s).bridge.driveState.drives = true → (selectDrive s).bridge.brakeLevel = 0) := by
  rw [selectDrive_of_axle haxle]
  refine ⟨rfl, ?_, chooseAxle_level true⟩
  show (if (chooseAxle s true).state.drives then
    (if (chooseAxle s true).state.drives && s.bridge.driveState != (chooseAxle s true).state then 0 else s.bridge.outDuty)
    else 0) = if (chooseAxle s true).state.drives = true ∧ (chooseAxle s true).state = s.bridge.driveState then
      s.bridge.outDuty else 0
  generalize chooseAxle s true = c
  cases c.state.drives <;> by_cases hsame : s.bridge.driveState = c.state <;> simp [hsame, eq_comm (a := c.state)]

/-- d held to an assist cap in force (R103). -/
def assistedDuty (d : Int) : Option Nat → Int
  | some cap => min d cap
  | none => d

/-- The ramp's target (R102, R103). -/
theorem rampTarget_eq (b : Bridge) : rampTarget b =
    if b.driveState = .driveFwd then assistedDuty b.d b.assist else b.d := by
  unfold rampTarget
  cases b.driveState <;> cases b.assist <;> rfl

/-- A move toward a target: the target where it is within the step, else the whole step (R102). -/
theorem moveToward_cases (step x target : Int) :
    ((target - x).natAbs ≤ step.toNat → moveToward step x target = target) ∧
      (0 ≤ step → x + step < target → moveToward step x target = x + step) ∧
      (0 ≤ step → target + step < x → moveToward step x target = x - step) := by
  unfold moveToward
  omega

theorem rampStepOf_of_drive {b : Bridge} (step : Int) (h : b.driveState.drives = true) : rampStepOf step b =
    restartDriven (writeShadow { b with outDuty := moveToward step b.outDuty (rampTarget b) }) := if_pos h

theorem rampStepOf_of_not_drive {b : Bridge} (step : Int) (h : b.driveState.drives = false) : rampStepOf step b = b := by
  simp [rampStepOf, h]

/-- The restart of the driven timer moves that timer alone (R102). -/
theorem restartDriven_kept (b : Bridge) : restartDriven b = { b with drivenTimer := (restartDriven b).drivenTimer } ∧
    (b.driveState.drives = true → b.outDuty ≠ 0 → (restartDriven b).drivenTimer = some 1000) := by
  unfold restartDriven
  split
  · exact ⟨rfl, fun _ _ => rfl⟩
  · next h =>
    refine ⟨rfl, fun hdrives hduty => absurd ?_ h⟩
    simp [hdrives, hduty]

theorem dutyStepped_of_axle {s : State} (samples : List Int) (haxle : isAxle s = true) (hrun : inRun s = true) :
    let b := selectDrive (s.setBridge { s.bridge with current := meanCurrent samples })
    dutyStepped samples s = b.setBridge (rampStepOf (rampStep s) b.bridge) := by
  have huse : bridgeInUse s = true := by simp [bridgeInUse, haxle]
  simp only [dutyStepped, huse, hrun, winch_of_axle haxle]
  rfl

theorem dutyStepped_of_winch {s : State} (samples : List Int) (hw : roleIs s .winch = true) (hrun : inRun s = true) :
    let a := s.setBridge { s.bridge with current := meanCurrent samples }
    let b := selectDrive (a.setWinch (winchDuty (meanCurrent samples) a))
    dutyStepped samples s = b.setBridge (restartDriven b.bridge) := by
  have huse : bridgeInUse s = true := by simp [bridgeInUse, hw]
  simp only [dutyStepped, huse, hrun, hw]
  rfl

/-- The duty step of an axle: the selection, then the ramp of a DRIVE state (R102). -/
theorem dutyStepped_axle {s : State} (samples : List Int) (haxle : isAxle s = true) (hrun : inRun s = true) :
    let b := (dutyStepped samples s).bridge
    b.current = meanCurrent samples ∧ b.d = s.bridge.d ∧ b.applied = s.bridge.applied ∧
      (b.driveState.drives = false → b.outDuty = 0) ∧
      (b.driveState.drives = true →
        b.outDuty = moveToward (rampStep s) (if b.driveState = s.bridge.driveState then s.bridge.outDuty else 0)
          (if b.driveState = .driveFwd then assistedDuty s.bridge.d s.bridge.assist else s.bridge.d) ∧
        (b.outDuty ≠ 0 → b.drivenTimer = some 1000) ∧ b.shadow = ⟨b.driveState, b.outDuty.natAbs, 0⟩) := by
  rw [dutyStepped_of_axle samples haxle hrun]
  obtain ⟨hcurrent, hassist⟩ := selectDrive_figures (s.setBridge { s.bridge with current := meanCurrent samples })
  obtain ⟨hd, hduty, hlevel⟩ := selectDrive_duty (s := s.setBridge { s.bridge with current := meanCurrent samples }) haxle
  obtain ⟨-, -, -, -, -, happlied, -⟩ := selectDrive_kept (s.setBridge { s.bridge with current := meanCurrent samples })
  dsimp only [State.setBridge_bridge] at hcurrent hassist hd hduty happlied ⊢
  generalize (selectDrive (s.setBridge { s.bridge with current := meanCurrent samples })).bridge = b at *
  cases hdrives : b.driveState.drives with
  | false =>
    rw [rampStepOf_of_not_drive _ hdrives]
    exact ⟨hcurrent, hd, happlied, fun _ => hduty.trans (if_neg fun h => absurd (hdrives.symm.trans h.1) (by decide)),
      fun h => absurd (hdrives.symm.trans h) (by decide)⟩
  | true =>
    rw [rampStepOf_of_drive _ hdrives]
    obtain ⟨hkept, hdriven⟩ := restartDriven_kept
      (writeShadow { b with outDuty := moveToward (rampStep s) b.outDuty (rampTarget b) })
    rw [hkept]
    have hstart : b.outDuty = if b.driveState = s.bridge.driveState then s.bridge.outDuty else 0 := by
      simpa [hdrives] using hduty
    refine ⟨hcurrent, hd, happlied, fun h => absurd (hdrives.symm.trans h) (by decide), fun _ => ⟨?_, hdriven hdrives, ?_⟩⟩
    · show moveToward (rampStep s) b.outDuty (rampTarget b) =
        moveToward (rampStep s) (if b.driveState = s.bridge.driveState then s.bridge.outDuty else 0)
          (if b.driveState = .driveFwd then assistedDuty s.bridge.d s.bridge.assist else s.bridge.d)
      rw [rampTarget_eq, hassist, hd, hstart]
    · show (⟨b.driveState, _, b.brakeLevel⟩ : Applied) = _
      rw [hlevel hdrives]
      rfl

/-- The duty step of the winch: its ramp, tension and stall timer, then the selection (R112, R120, R123). -/
theorem dutyStepped_winch {s : State} (samples : List Int) (hw : roleIs s .winch = true) (hrun : inRun s = true) :
    let t := dutyStepped samples s
    t.bridge.current = meanCurrent samples ∧ t.bridge.d = (winchDrive t).2 ∧
      t.winch = winchDuty (meanCurrent samples) (s.setBridge { s.bridge with current := meanCurrent samples }) := by
  rw [dutyStepped_of_winch samples hw hrun]
  dsimp only
  generalize hu : State.setWinch _ _ = u
  have hrole : roleIs u .winch = true := by rw [← hu]; exact hw
  obtain ⟨hcurrent, -⟩ := selectDrive_figures u
  have hd : (selectDrive u).bridge.d = (winchDrive u).2 := by
    rw [selectDrive_of_winch (isAxle_of_winch hrole) hrole]
    rfl
  have hchanges := selectDrive_changes u
  have hwinch : (selectDrive u).winch = u.winch := hchanges .winch (by decide)
  rw [State.setBridge_bridge, State.setBridge_winch, (restartDriven_kept _).1]
  refine ⟨?_, ?_, ?_⟩
  · show (selectDrive u).bridge.current = _
    rw [hcurrent, ← hu]
    rfl
  · show (selectDrive u).bridge.d = _
    rw [hd]
    unfold winchDrive haulNow payoutNow haulDuty payoutDuty unhomedDuty cfgN cfg
    simp
  · rw [hwinch, ← hu]
    rfl

end Sys2Proof.Machine

open Sys2Proof Sys2Proof.Machine

/-- Settles O41: the ramp of a duty step follows the selection, on WINCH it comes before it. -/
theorem dutyStepRamps : Obligations.DutyStepRamps := by
  intro s samples hrun huse
  have hrun' : inRun s = true := beq_iff_eq.2 hrun
  have hexec : exec (.dutyStep samples) s = .next (dutyStepped samples s) :=
    live_of_not_halt (by rw [hrun]; decide) _
  have hframe := ((dutyStepped_changes samples s).mono (by decide : _ ⊆ [.bridge, .lamp, .winch])).eq
  have hcurrent : (dutyStepped samples s).bridge.current = meanCurrent samples := by
    cases ha : isAxle s with
    | true => exact (dutyStepped_axle samples ha hrun').1
    | false =>
      have hw : roleIs s .winch = true := by simpa [bridgeInUse, ha] using huse
      exact (dutyStepped_winch samples hw hrun').1
  have hwinch (ha : isAxle s = true) : (dutyStepped samples s).winch = s.winch := by
    rw [dutyStepped_of_axle samples ha hrun']
    simp
  refine ⟨_, hexec, hframe, hcurrent, fun haxle => ?_, fun hw => ?_⟩
  · have hwinch := hwinch haxle
    obtain ⟨-, hd, happlied, hstill, hdrive⟩ := dutyStepped_axle samples haxle hrun'
    generalize dutyStepped samples s = t at *
    refine ⟨hwinch, hd, fun hfwd hrev => hstill ((drives_eq_false_iff _).2 ⟨hfwd, hrev⟩), fun hdrives hstep => ?_⟩
    obtain ⟨hduty, hdriven, hshadow⟩ := hdrive ((drives_iff _).2 hdrives)
    intro start target
    obtain ⟨hnear, hup, hdown⟩ := moveToward_cases (rampStep s) start target
    exact ⟨fun h => hduty.trans (hnear h), fun h => hduty.trans (hup hstep h), fun h => hduty.trans (hdown hstep h),
      hdriven, happlied, hshadow⟩
  · obtain ⟨-, hd, hwinch⟩ := dutyStepped_winch samples hw hrun'
    generalize dutyStepped samples s = t at *
    refine ⟨hd, fun hstate => ?_, fun hstate => ?_, fun hhaul hpayout => ?_⟩
    · rw [hwinch, hcurrent]
      simp only [winchDuty, State.setBridge_winch, hstate]
      rfl
    · rw [hwinch, hcurrent]
      simp only [winchDuty, State.setBridge_winch, hstate]
      rfl
    · rw [hwinch]
      cases hstate : s.winch.state <;> simp [winchDuty, hstate] at hhaul hpayout ⊢
end

section
/-! One-shot trips (O42). -/

namespace Sys2Proof.Machine

/-- What a one-shot trip puts into the bridge unit and a later selection leaves there (R106, R108). -/
structure TripStands (x b : Bridge) : Prop where
  tripped : b.tripped = true
  latched : b.latched = x.latched
  applied : b.applied = x.applied
  cut : b.cut = x.cut
  tripCount : b.tripCount = x.tripCount
  sinceTrip : b.sinceTrip = x.sinceTrip
  windowTimer : b.windowTimer = x.windowTimer

/-- The drive state of a tripped bridge (R100, R112). -/
def trippedState (latched : Bool) : DriveState := if latched then .latched else .tripped

/-- A selection on a tripped bridge: LATCHED or TRIPPED, output duty 0, the trip as it stands (R100, R112). -/
theorem selectDrive_of_tripped {x : Bridge} {s : State} (huse : bridgeInUse s = true) (hrun : inRun s = true)
    (h : TripStands x s.bridge) : TripStands x (selectDrive s).bridge ∧
      (selectDrive s).bridge.driveState = trippedState x.latched ∧ (selectDrive s).bridge.outDuty = 0 := by
  obtain ⟨htripped, hlatched, happlied, hcut, hcount, hsince, hwindow⟩ := h
  cases ha : isAxle s with
  | true =>
    have hchoice : (chooseAxle s true).state = trippedState x.latched := by
      cases hl : x.latched with
      | true => rw [chooseAxle_of_latched true hrun (hlatched.trans hl)]; rfl
      | false => rw [chooseAxle_of_tripped true hrun (hlatched.trans hl) htripped]; rfl
    rw [selectDrive_of_axle ha]
    refine ⟨⟨htripped, hlatched, happlied, hcut, hcount, hsince, hwindow⟩, hchoice, if_neg ?_⟩
    rw [hchoice]
    cases x.latched <;> decide
  | false =>
    have hw : roleIs s .winch = true := by simpa [bridgeInUse, ha] using huse
    have hchoice : (chooseWinch s).state = trippedState x.latched := by
      cases hl : x.latched <;> simp [chooseWinch, hrun, hlatched, htripped, hl, trippedState]
    rw [selectDrive_of_winch ha hw]
    refine ⟨⟨htripped, hlatched, happlied, hcut, hcount, hsince, hwindow⟩, hchoice, if_neg ?_⟩
    rw [hchoice]
    cases x.latched <;> decide

/-- An entry that is no end of the line leaves the trip as it stands (R112, R126). -/
theorem enterWinch_of_tripped {x : Bridge} {s : State} (hw : roleIs s .winch = true) (hrun : inRun s = true)
    (h : TripStands x s.bridge) (new : WinchState) (hnew : new ≠ s.winch.state)
    (hend : endBrake s.winch.state new = false) : TripStands x (enterWinch new s).bridge ∧
      (enterWinch new s).bridge.driveState = trippedState x.latched ∧ (enterWinch new s).bridge.outDuty = 0 := by
  have huse : bridgeInUse s = true := by simp [bridgeInUse, hw]
  rw [enterWinch_bridge hnew, hend]
  exact selectDrive_of_tripped (s := s.setWinch (turnedWinch new s)) huse hrun h

/-- The station after a one-shot trip, before the selection: the bridge tripped, the faults set, the incidents recorded
(R106, R108). -/
def tripNoted (s : State) : State :=
  let latches := s.bridge.windowTimer.isSome
  let a := record .bridgeTrip 0 <|
    setFaults { s.ctl.faults with bridgeTrip := true, bridgeLatched := s.ctl.faults.bridgeLatched || latches } <|
      s.setBridge (trippedBridge s.bridge)
  if latches then record .bridgeLatched 0 a else a

theorem tripNoted_fields (s : State) : (tripNoted s).bridge = trippedBridge s.bridge ∧ (tripNoted s).winch = s.winch ∧
    (tripNoted s).ctl = { s.ctl with faults := { s.ctl.faults with
      bridgeTrip := true, bridgeLatched := s.ctl.faults.bridgeLatched || s.bridge.windowTimer.isSome } } := by
  unfold tripNoted
  dsimp only
  split <;> exact ⟨rfl, rfl, rfl⟩

theorem tripNoted_log (s : State) :
    (s.bridge.windowTimer = none →
      (tripNoted s).log.entries.getLast? = some ⟨.bridgeTrip, s.log.clock, 0⟩) ∧
    (s.bridge.windowTimer.isSome = true →
      (tripNoted s).log.entries.getLast? = some ⟨.bridgeLatched, s.log.clock, 0⟩ ∧
      ⟨.bridgeTrip, s.log.clock, 0⟩ ∈ (tripNoted s).log.entries) := by
  have hfirst := s.log.append_last .bridgeTrip 0
  refine ⟨fun h => ?_, fun h => ?_⟩
  · have hlog : (tripNoted s).log = s.log.append .bridgeTrip 0 := by
      simp only [tripNoted, h]
      rfl
    rw [hlog]
    exact hfirst
  · have hlog : (tripNoted s).log = (s.log.append .bridgeTrip 0).append .bridgeLatched 0 := by
      simp only [tripNoted, h]
      rfl
    rw [hlog]
    exact ⟨(s.log.append .bridgeTrip 0).append_last .bridgeLatched 0, mem_append_of_last hfirst _ _⟩

theorem oneShotTripped_of_trip {s : State} {i : Current} (huse : bridgeInUse s = true) (hrun : inRun s = true)
    (hgate : gateOn s.bridge = true) (habove : exceeds i (motorTrip s) = true) :
    oneShotTripped i s = winchTripped (selectDrive (tripNoted s)) := by
  simp only [oneShotTripped, huse, hrun, hgate, habove]
  rfl

/-- The winch controller's answer to a trip: the hold-off, and HOLD from HAUL, PAYOUT and STARVED (R126). -/
theorem winchTripped_cases (s : State) :
    (roleIs s .winch = false ∧ winchTripped s = s) ∨
    (roleIs s .winch = true ∧ (s.winch.state = .haul ∨ s.winch.state = .payout ∨ s.winch.state = .starved) ∧
      winchTripped s = enterWinch .hold (s.setWinch { s.winch with holdOff := true })) ∨
    (roleIs s .winch = true ∧ ¬ (s.winch.state = .haul ∨ s.winch.state = .payout ∨ s.winch.state = .starved) ∧
      winchTripped s = s.setWinch { s.winch with holdOff := true }) := by
  cases hw : roleIs s .winch with
  | false => exact .inl ⟨rfl, by simp [winchTripped, hw]⟩
  | true => cases hstate : s.winch.state <;> simp [winchTripped, hw, hstate]

/-- The bridge and the winch after a one-shot trip (R106, R108, R126). -/
theorem winchTripped_spec {x : Bridge} {s : State} (huse : bridgeInUse s = true) (hrun : inRun s = true)
    (h : TripStands x s.bridge) :
    let t := winchTripped (selectDrive s)
    TripStands x t.bridge ∧ t.bridge.driveState = trippedState x.latched ∧ t.bridge.outDuty = 0 ∧
      t.ctl = s.ctl ∧ t.log = s.log ∧
      (roleIs s .winch = true → t.winch.holdOff = true ∧
        (s.winch.state.working = true → s.winch.state ≠ .stalled → t.winch.state = .hold)) := by
  obtain ⟨hstands, hdrive, hduty⟩ := selectDrive_of_tripped huse hrun h
  have hchanges := selectDrive_changes s
  have hctl : (selectDrive s).ctl = s.ctl := by simp
  have hlog : (selectDrive s).log = s.log := by simp
  have hwinch : (selectDrive s).winch = s.winch := by simp
  generalize selectDrive s = u at *
  have hrole : roleIs u .winch = roleIs s .winch := roleIs_congr (hchanges .mode (by decide)).1 .winch
  have hrun' : inRun u = true := (inRun_congr (hchanges .mode (by decide)).2.2.1).trans hrun
  obtain ⟨hw, he⟩ | ⟨hw, hstate, he⟩ | ⟨hw, hstate, he⟩ := winchTripped_cases u
  · rw [he]
    exact ⟨hstands, hdrive, hduty, hctl, hlog, fun h => absurd ((hrole.trans h).symm.trans hw) (by decide)⟩
  · rw [he]
    have hend : endBrake u.winch.state .hold = false := by cases u.winch.state <;> decide
    have hne : WinchState.hold ≠ u.winch.state := by
      obtain h | h | h := hstate <;> rw [h] <;> decide
    obtain ⟨hstands', hdrive', hduty'⟩ := enterWinch_of_tripped
      (s := u.setWinch { u.winch with holdOff := true }) hw hrun' hstands .hold hne hend
    exact ⟨hstands', hdrive', hduty', by simp [hctl], by simp [hlog], fun _ => ⟨by simp, fun _ _ => by simp⟩⟩
  · rw [he]
    refine ⟨hstands, hdrive, hduty, hctl, hlog, fun _ => ⟨rfl, fun hworking hstalled => absurd ?_ hstate⟩⟩
    rw [hwinch]
    revert hworking hstalled
    cases s.winch.state <;> decide

end Sys2Proof.Machine

open Sys2Proof Sys2Proof.Machine

/-- Settles O42: the trip stands in the bridge through the selection and the winch's answer. -/
theorem oneShotTripOpens : Obligations.OneShotTripOpens := by
  intro s i hrun huse above
  have hrun' : inRun s = true := beq_iff_eq.2 hrun
  have hexec : exec (.oneShotTrip i) s = .next (oneShotTripped i s) := live_of_not_halt (by rw [hrun]; decide) _
  have hgate : gateOn s.bridge = true ↔ gatesOf s.bridge ≠ {} := by simp [gateOn]
  have habove : exceeds i (motorTrip s) = true ↔ above := exceeds_iff i _
  refine ⟨fun hnot => ?_, fun hgates hcurrent => ?_⟩
  · have hno : (bridgeInUse s && inRun s && gateOn s.bridge && exceeds i (motorTrip s)) = false := by
      rw [Bool.eq_false_iff]
      intro h
      simp only [Bool.and_eq_true, hgate, habove] at h
      obtain ⟨⟨-, hg⟩, ha⟩ := h
      exact hnot.elim hg (· ha)
    rw [hexec, oneShotTripped, hno]
    rfl
  · have hframe := ((oneShotTripped_changes i s).mono (by decide : _ ⊆ [.bridge, .mode, .conditions, .isolated, .faults,
      .startTimer, .stationTimer, .commit, .working, .log, .winch, .lamp, .port, .records, .winchRecord])).eq
    have heq := oneShotTripped_of_trip huse hrun' (hgate.2 hgates) (habove.2 hcurrent)
    obtain ⟨hbridge, hwinch, hctl⟩ := tripNoted_fields s
    obtain ⟨hlogNew, hlogAgain⟩ := tripNoted_log s
    have hrole : roleIs (tripNoted s) .winch = roleIs s .winch := roleIs_congr (by rw [hctl]) .winch
    have huse' : bridgeInUse (tripNoted s) = true := by
      have hall (r : Role) : roleIs (tripNoted s) r = roleIs s r := roleIs_congr (by rw [hctl]) r
      rw [bridgeInUse, isAxle, hall, hall, hall]
      exact huse
    have hrunNoted : inRun (tripNoted s) = true := (inRun_congr (by rw [hctl])).trans hrun'
    have hstands : TripStands (trippedBridge s.bridge) (tripNoted s).bridge := by
      rw [hbridge]
      exact ⟨rfl, rfl, rfl, rfl, rfl, rfl, rfl⟩
    obtain ⟨⟨-, hlatched, happlied, hcut, hcount, hsince, hwindow⟩, hdrive, hduty, hctlT, hlogT, hwinchT⟩ :=
      winchTripped_spec huse' hrunNoted hstands
    rw [← heq] at hlatched happlied hcut hcount hsince hwindow hdrive hduty hctlT hlogT hwinchT
    rw [hrole, hwinch] at hwinchT
    rw [← hlogT] at hlogNew hlogAgain
    rw [hctl] at hctlT
    generalize oneShotTripped i s = t at *
    refine ⟨t, hexec, hframe, happlied, ?_, hduty, hcount, hsince, by rw [hctlT], fun hfirst => ?_, fun hagain => ?_, hwinchT⟩
    · rw [gatesOf, happlied]
      rfl
    · refine ⟨?_, fun hfree => ?_, hlogNew hfirst, ?_⟩
      · rw [hwindow, trippedBridge, hfirst]
        rfl
      · rw [hdrive, trippedBridge, hfirst, hfree]
        rfl
      · rw [hctlT, hfirst]
        exact Bool.or_false _
    · have hlatch : t.bridge.latched = true := by
        rw [hlatched, trippedBridge, hagain]
        exact Bool.or_true _
      refine ⟨?_, hlatch, ?_, ?_, hlogAgain hagain⟩
      · rw [hwindow, trippedBridge, hagain]
        rfl
      · rw [hdrive, ← hlatched, hlatch]
        rfl
      · rw [hctlT, hagain]
        exact Bool.or_true _
end

section
/-! The dwell and the bridge unit's other timers (O43). -/

namespace Sys2Proof.Machine

/-! ### What a selection makes of the dwell (R100, R101) -/

/-- A dwell begins where d turns against the last driven sign (R100). -/
theorem chooseAxle_startDwell {s : State} (byTrip : Bool) (h : (chooseAxle s byTrip).startDwell = true) :
    ∃ sign, signOf s.bridge.d = some sign ∧ s.bridge.lastSign = some (opposite sign) := by
  have hdrag : (dragChoice s).startDwell = false := by unfold dragChoice; split <;> rfl
  revert h
  cases hsign : signOf s.bridge.d <;> simp only [chooseAxle, hsign] <;> split_ifs <;> simp_all

/-- What a selection on an axle leaves of the dwell and the last driven sign (R100, R101). -/
theorem selectDrive_dwell {s : State} (haxle : isAxle s = true) :
    let c := chooseAxle s true
    (selectDrive s).bridge.driveState = c.state ∧
      (selectDrive s).bridge.dwellTimer = (if c.startDwell then some (reverseDwell s) else if c.stopDwell then none
        else s.bridge.dwellTimer) ∧
      (selectDrive s).bridge.pendingSign = (if c.startDwell then signOf s.bridge.d else s.bridge.pendingSign) ∧
      (selectDrive s).bridge.lastSign = (if c.state.drives && s.bridge.driveState != c.state then c.state.sign
        else s.bridge.lastSign) := by
  rw [selectDrive_of_axle haxle]
  exact ⟨rfl, rfl, rfl, rfl⟩

/-- No selection gives TRIPPED once the trip has ended (R100, R112). -/
theorem selectDrive_of_rearmed {s : State} (huse : bridgeInUse s = true) (htripped : s.bridge.tripped = false) :
    (selectDrive s).bridge.driveState ≠ .tripped ∧ (selectDrive s).bridge.rearmTimer = none := by
  cases ha : isAxle s with
  | true =>
    have hdrag : (dragChoice s).state ≠ .tripped := by unfold dragChoice; split <;> simp
    have hdrive (sign : Sign) : driveOf sign ≠ .tripped := by cases sign <;> decide
    have hchoice : (chooseAxle s true).state ≠ .tripped := by
      cases hsign : signOf s.bridge.d <;> simp only [chooseAxle, htripped, hsign] <;> split_ifs <;> simp_all
    rw [selectDrive_of_axle ha]
    exact ⟨hchoice, if_neg (by simp [applyChoice, writeShadow, htripped])⟩
  | false =>
    have hw : roleIs s .winch = true := by simpa [bridgeInUse, ha] using huse
    have hdrive (sign : Sign) : driveOf sign ≠ .tripped := by cases sign <;> decide
    have hchoice : (chooseWinch s).state ≠ .tripped := by
      cases hsign : (winchDrive s).1 <;> simp only [chooseWinch, htripped, hsign] <;> split_ifs <;> simp_all
    rw [selectDrive_of_winch ha hw]
    exact ⟨hchoice, if_neg (by simp [applyChoice, writeShadow, htripped])⟩

/-! ### The rule of a running dwell (R101) -/

/-- On an axle a running dwell has a pending sign, the sign of every d that is not 0. -/
def DwellHeld (s : State) : Prop :=
  isAxle s = true → s.bridge.dwellTimer.isSome = true →
    s.bridge.pendingSign.isSome = true ∧ (s.bridge.d = 0 ∨ signOf s.bridge.d = s.bridge.pendingSign)

theorem dwellSafe_iff (s : State) : dwellSafe s = true ↔ DwellHeld s := by
  unfold dwellSafe DwellHeld
  cases isAxle s <;> cases s.bridge.dwellTimer <;> simp

/-- The rule reads the role and four fields of the bridge. -/
theorem dwellHeld_of_eq {s t : State} (hrole : t.ctl.role = s.ctl.role)
    (hdwell : t.bridge.dwellTimer.isSome = s.bridge.dwellTimer.isSome)
    (hpending : t.bridge.pendingSign = s.bridge.pendingSign) (hd : t.bridge.d = s.bridge.d) (hs : DwellHeld s) :
    DwellHeld t := by
  unfold DwellHeld at hs ⊢
  rw [isAxle_congr hrole, hdwell, hpending, hd]
  exact hs

theorem dwellHeld_of_none {s : State} (h : s.bridge.dwellTimer = none) : DwellHeld s := fun _ hdwell => by
  rw [h] at hdwell
  exact absurd hdwell (by decide)

theorem dwellHeld_selectDrive {s : State} (hs : DwellHeld s) : DwellHeld (selectDrive s) := by
  intro haxle' hrunning
  have haxle : isAxle s = true := (isAxle_congr (selectDrive_changes s .mode (by decide)).1).symm.trans haxle'
  obtain ⟨-, htimer, hpending, -⟩ := selectDrive_dwell haxle
  have hd := (selectDrive_duty haxle).1
  rw [hpending, hd]
  cases hstart : (chooseAxle s true).startDwell with
  | true =>
    obtain ⟨sign, hsign, -⟩ := chooseAxle_startDwell true hstart
    rw [if_pos rfl]
    exact ⟨by rw [hsign]; rfl, .inr rfl⟩
  | false =>
    rw [hstart] at htimer
    rw [if_neg (by decide)]
    refine hs haxle ?_
    cases hstop : (chooseAxle s true).stopDwell with
    | true =>
      rw [htimer, hstop] at hrunning
      exact absurd hrunning (by simp)
    | false =>
      rw [htimer, hstop] at hrunning
      exact hrunning

/-- A d taken against the pending sign takes the pending sign with it (R101). -/
theorem dwellHeld_rocked {s : State} {ms : Nat} {b : Bridge}
    (hb : s.bridge.dwellTimer.isSome = b.dwellTimer.isSome) (hpending : s.bridge.pendingSign = b.pendingSign)
    (hs : DwellHeld s) : DwellHeld (s.setBridge (rocked ms b)) := by
  intro haxle hrunning
  change (rocked ms b).pendingSign.isSome = true ∧ ((rocked ms b).d = 0 ∨ signOf (rocked ms b).d = (rocked ms b).pendingSign)
  change (rocked ms b).dwellTimer.isSome = true at hrunning
  unfold rocked at hrunning ⊢
  split at hrunning
  · next h =>
    rw [if_pos h]
    simp only [Bool.and_eq_true] at h
    exact ⟨h.1.2, .inr rfl⟩
  · next h =>
    rw [if_neg h]
    obtain ⟨hsome, -⟩ := hs haxle (hb.trans hrunning)
    refine ⟨by rw [← hpending]; exact hsome, ?_⟩
    cases hsign : signOf b.d with
    | none => exact .inl (signOf_eq_none.1 hsign)
    | some sign => exact .inr (by simpa [hrunning, hsign] using h)

theorem dwellHeld_bridgeReact (accepted : Bool) {s : State} (hs : DwellHeld s) : DwellHeld (bridgeReact accepted s) := by
  have hrole : (bridgeReact accepted s).ctl.role = s.ctl.role := by simp
  cases haxle : isAxle s with
  | false => exact fun h => absurd (((isAxle_congr hrole).symm.trans h).symm.trans haxle) (by decide)
  | true =>
    cases hrun : inRun s with
    | true =>
      rw [bridgeReact_of_axle accepted haxle hrun]
      refine dwellHeld_selectDrive (dwellHeld_rocked ?_ ?_ hs) <;> rfl
    | false =>
      rw [bridgeReact_of_not_run hrun accepted]
      exact hs

theorem dwellHeld_rule : BridgeRule DwellHeld DwellHeld where
  stable {ps s t} h hfree hs := by
    obtain ⟨hrole, -⟩ := h .mode fun hp => hfree _ hp (by decide)
    have hbridge : t.bridge = s.bridge := h .bridge fun hp => hfree _ hp (by decide)
    exact dwellHeld_of_eq hrole (by rw [hbridge]) (by rw [hbridge]) (by rw [hbridge]) hs
  stableWeak {ps s t} h hfree hs := by
    obtain ⟨hrole, -⟩ := h .mode fun hp => hfree _ hp (by decide)
    have hbridge : t.bridge = s.bridge := h .bridge fun hp => hfree _ hp (by decide)
    exact dwellHeld_of_eq hrole (by rw [hbridge]) (by rw [hbridge]) (by rw [hbridge]) hs
  minor x s hx hs := by
    obtain ⟨-, -, -, -, hd, hdwell, hpending⟩ := hx
    exact dwellHeld_of_eq (s := s) (t := s.setBridge x) rfl (congrArg Option.isSome hdwell) hpending hd hs
  weaken s hs := hs
  select s hs := dwellHeld_selectDrive hs
  demand accepted s hs := by
    refine dwellHeld_bridgeReact accepted ?_
    have hbridge : (steerReact accepted (evalConditions s)).bridge = s.bridge := by simp
    exact dwellHeld_of_eq (by simp) (by rw [hbridge]) (by rw [hbridge]) (by rw [hbridge]) hs
  dwell s hs := by
    unfold dwellExpired
    split
    · exact dwellHeld_selectDrive (dwellHeld_of_none rfl)
    · exact hs
  rearm s hs := dwellHeld_of_eq (s := s) rfl rfl rfl rfl hs
  trip s _ := dwellHeld_of_none rfl
  enter s := by
    unfold bridgeEnterRun
    split
    · exact dwellHeld_selectDrive (dwellHeld_of_none rfl)
    · next h => exact fun ha => absurd (by simp [bridgeInUse, ha]) h
  setup s hs := dwellHeld_of_eq (s := s) rfl rfl rfl rfl hs
  halt s _ := dwellHeld_of_none (by simp [enterHalt, bridgeStop])
  reset kind pins s := dwellHeld_of_none (by simp [resetStation_blocks])
  timers s hs := dwellHeld_of_eq (s := s) (t := advanceTimers s) rfl (Option.isSome_map ..) rfl rfl hs

end Sys2Proof.Machine

open Sys2Proof Sys2Proof.Machine

/-- Settles O43: the rule of a running dwell is a rule of the bridge unit; each expiry ends in one selection. -/
theorem bridgeTimersExpire : Obligations.BridgeTimersExpire := by
  refine ⟨fun s t hs h => (dwellSafe_iff t).2
    (dwellHeld_rule.toStepRule.keeps_step (by decide) ((dwellSafe_iff s).1 hs) h), fun s hrun => ?_⟩
  have hlive : s.ctl.station ≠ .halt := by rw [hrun]; decide
  have hrun' : inRun s = true := beq_iff_eq.2 hrun
  refine ⟨fun haxle hdwell hstate hpending hd => ?_, fun huse htripped hlatched htimer => ?_,
    live_of_not_halt hlive fun x => x.setBridge { x.bridge with windowTimer := none }, ?_⟩
  · have hexec : exec .dwellTimerExpiry s = .next (dwellExpired s) := live_of_not_halt hlive _
    have hframe := ((dwellExpired_changes s).mono (by decide : _ ⊆ [.bridge, .lamp])).eq
    let u := s.setBridge { s.bridge with dwellTimer := none, lastSign := s.bridge.pendingSign, pendingSign := none }
    have heq : dwellExpired s = selectDrive u := by simp [dwellExpired, haxle, hrun', hdwell, u]
    obtain ⟨hdrive, htimer, hsign, hlast⟩ := selectDrive_dwell (s := u) haxle
    have hstart : (chooseAxle u true).startDwell = false := by
      rw [Bool.eq_false_iff]
      intro h
      obtain ⟨sign, hs, hagainst⟩ := chooseAxle_startDwell true h
      have hs' : signOf s.bridge.d = some sign := hs
      have hne : s.bridge.d ≠ 0 := fun h0 => by rw [signOf_eq_none.2 h0] at hs'; exact absurd hs' (by simp)
      have hsame : some sign = some (opposite sign) :=
        hs'.symm.trans ((hd.resolve_left hne).trans hagainst)
      cases sign <;> exact absurd hsame (by decide)
    rw [heq] at hexec hframe
    generalize hc : chooseAxle u true = c at *
    generalize selectDrive u = t at *
    have hentered (sign : Sign) (h : t.bridge.driveState = driveOf sign) : t.bridge.lastSign = some sign := by
      rw [hlast, show u.bridge.driveState = .dwell from hstate, ← hdrive, h]
      cases sign <;> rfl
    refine ⟨t, hexec, hframe, ?_, ?_, hentered .plus, hentered .minus, fun h => ?_⟩
    · rw [hsign, hstart]
      rfl
    · rw [htimer, hstart]
      cases c.stopDwell <;> rfl
    · rw [hlast, ← hdrive, h]
      rfl
  · have hexec : exec .rearmTimerExpiry s = .next (rearmExpired s) := live_of_not_halt hlive _
    have hframe := ((rearmExpired_changes s).mono (by decide : _ ⊆ [.bridge, .lamp, .winch])).eq
    let u := s.setBridge { s.bridge with tripped := false, rearmTimer := none }
    have heq : rearmExpired s = if roleIs s .winch then endHoldOff (selectDrive u) else selectDrive u := by
      rw [rearmExpired, if_pos (by simp [huse, hrun', htripped, hlatched, htimer])]
    have hbridge : (rearmExpired s).bridge = (selectDrive u).bridge := by
      rw [heq]
      split <;> simp
    obtain ⟨hstate, hstopped⟩ := selectDrive_of_rearmed (s := u) huse rfl
    obtain ⟨-, -, hkept, -⟩ := selectDrive_kept u
    rw [← hbridge] at hstate hstopped hkept
    exact ⟨_, hexec, hframe, hkept, hstopped, hstate⟩
  · have hexec : exec .drivenTimerExpiry s = .next (cueEvent s (s.setBridge { s.bridge with drivenTimer := none })) :=
      live_of_not_halt hlive fun x => cueEvent x (x.setBridge { x.bridge with drivenTimer := none })
    refine ⟨_, hexec, ((cueEvent_changes s _).mono (by decide : _ ⊆ [.lamp])).eq, ?_⟩
    have hbridge : (cueEvent s (s.setBridge { s.bridge with drivenTimer := none })).bridge.drivenTimer = none := by simp
    rw [brakingFlag, hbridge]
    simp
end

section
/-! The drive state an axle selects after a DEMAND (O44). -/

namespace Sys2Proof.Machine

/-- The lines of the selection table of an axle below its trips, in their order (R100). -/
inductive AxleLine (s : State) : Choice → Prop where
  | held : s.ctl.failsafe = true ∨ digLock s = true → AxleLine s { state := .brake, level := 100, stopDwell := true }
  | dwells : digLock s = false → s.bridge.dwellTimer.isSome = true → AxleLine s { state := .dwell, level := 100 }
  | still : digLock s = false → s.bridge.dwellTimer = none → s.bridge.d = 0 → AxleLine s (dragChoice s)
  | against (sign : Sign) : digLock s = false → s.bridge.dwellTimer = none → signOf s.bridge.d = some sign →
      s.bridge.lastSign = some (opposite sign) → 0 < reverseDwell s →
      AxleLine s { state := .dwell, level := 100, startDwell := true }
  | unpowered (sign : Sign) : digLock s = false → s.bridge.dwellTimer = none → signOf s.bridge.d = some sign →
      ¬ (s.bridge.lastSign = some (opposite sign) ∧ 0 < reverseDwell s) → s.bridge.tripLevel = 0 →
      AxleLine s (dragChoice s)
  | drives (sign : Sign) : digLock s = false → s.bridge.dwellTimer = none → signOf s.bridge.d = some sign →
      ¬ (s.bridge.lastSign = some (opposite sign) ∧ 0 < reverseDwell s) → 0 < s.bridge.tripLevel →
      AxleLine s { state := driveOf sign }

/-- In RUN an axle without a trip selects by a line of the table (R100). -/
theorem axleLine_of_untripped {s : State} (hrun : inRun s = true) (hlatched : s.bridge.latched = false)
    (htripped : s.bridge.tripped = false) : AxleLine s (chooseAxle s true) := by
  by_cases hheld : s.ctl.failsafe = true ∨ digLock s = true
  · rw [chooseAxle_of_digLock true hrun hlatched htripped hheld]
    exact .held hheld
  · obtain ⟨hf, hd⟩ := not_or.1 hheld
    have hfailsafe := Bool.eq_false_iff.2 hf
    have hdig := Bool.eq_false_iff.2 hd
    cases hdwell : s.bridge.dwellTimer with
    | some n =>
      rw [chooseAxle_of_dwell true hrun hlatched htripped hfailsafe hdig (by rw [hdwell]; rfl)]
      exact .dwells hdig (by rw [hdwell]; rfl)
    | none =>
      cases hsign : signOf s.bridge.d with
      | none =>
        rw [chooseAxle_of_still true hrun hlatched htripped hfailsafe hdig hdwell hsign]
        exact .still hdig hdwell (signOf_eq_none.1 hsign)
      | some sign =>
        by_cases hagainst : s.bridge.lastSign = some (opposite sign) ∧ 0 < reverseDwell s
        · rw [chooseAxle_of_against true hrun hlatched htripped hfailsafe hdig hdwell hsign hagainst]
          exact .against sign hdig hdwell hsign hagainst.1 hagainst.2
        · rw [chooseAxle_of_drive true hrun hlatched htripped hfailsafe hdig hdwell hsign hagainst]
          by_cases htrip : s.bridge.tripLevel = 0
          · rw [if_pos (by simp [htrip])]
            exact .unpowered sign hdig hdwell hsign hagainst htrip
          · rw [if_neg (by simp [htrip])]
            exact .drives sign hdig hdwell hsign hagainst (Nat.pos_of_ne_zero htrip)

/-- The drag brake is OFF at a level of 0 and BRAKE at its level otherwise (R100). -/
theorem dragChoice_cases (s : State) :
    (dragBrake s = 0 ∧ dragChoice s = { state := .off }) ∨
      (0 < dragBrake s ∧ dragChoice s = { state := .brake, level := dragBrake s }) := by
  unfold dragChoice
  split
  · next h => exact .inl ⟨h, rfl⟩
  · next h => exact .inr ⟨Nat.pos_of_ne_zero h, rfl⟩

namespace AxleLine

variable {s : State} {c : Choice} (line : AxleLine s c)
include line

/-- A DRIVE state needs d its way, a trip level above 0 and no dig lock (R100). -/
theorem of_drive {sign : Sign} (h : c.state = driveOf sign) :
    signOf s.bridge.d = some sign ∧ 0 < s.bridge.tripLevel ∧ digLock s = false := by
  have hdrag (hstate : (dragChoice s).state = driveOf sign) : False := by
    have hdrives := dragChoice_drives s
    rw [hstate, driveOf_drives] at hdrives
    exact absurd hdrives (by decide)
  cases line with
  | held | dwells | against => cases sign <;> cases h
  | still | unpowered => exact (hdrag h).elim
  | drives sign' hdig _ hsign _ htrip =>
    obtain rfl : sign' = sign := by cases sign' <;> cases sign <;> simp [driveOf] at h ⊢
    exact ⟨hsign, htrip, hdig⟩

theorem of_off (h : c.state = .off) : dragBrake s = 0 := by
  have hdrag (hstate : (dragChoice s).state = .off) : dragBrake s = 0 := by
    obtain ⟨hzero, -⟩ | ⟨-, he⟩ := dragChoice_cases s
    · exact hzero
    · rw [he] at hstate; cases hstate
  cases line with
  | held | dwells | against => cases h
  | still | unpowered => exact hdrag h
  | drives sign => cases sign <;> cases h

/-- DWELL brakes fully while its timer runs on or starts (R101). -/
theorem of_dwell (h : c.state = .dwell) :
    c.level = 100 ∧ (if c.startDwell then some (reverseDwell s) else if c.stopDwell then none
      else s.bridge.dwellTimer).isSome = true := by
  have hdrag (hstate : (dragChoice s).state = .dwell) : False := by
    obtain ⟨-, he⟩ | ⟨-, he⟩ := dragChoice_cases s <;> rw [he] at hstate <;> cases hstate
  cases line with
  | held => cases h
  | dwells _ hdwell => exact ⟨rfl, hdwell⟩
  | against => exact ⟨rfl, rfl⟩
  | still | unpowered => exact (hdrag h).elim
  | drives sign => cases sign <;> cases h

end AxleLine

/-! ### d taken, with a dwell begun anew (R98, R101) -/

theorem dutyTaken_kept (accepted : Bool) (s : State) :
    (dutyTaken accepted s).tripped = s.bridge.tripped ∧ (dutyTaken accepted s).latched = s.bridge.latched ∧
      (dutyTaken accepted s).tripLevel = s.bridge.tripLevel ∧ (dutyTaken accepted s).driveState = s.bridge.driveState ∧
      (dutyTaken accepted s).lastSign = s.bridge.lastSign ∧
      (dutyTaken accepted s).dwellTimer.isSome = s.bridge.dwellTimer.isSome := by
  obtain ⟨-, -, -, htripped, hlatched, hlevel, hdrive, hlast, -, hdwell⟩ := rocked_kept (reverseDwell s) { s.bridge with
    activeDig := (stagedDig accepted s).1, pendingDig := (stagedDig accepted s).2, d := commandedDuty s }
  exact ⟨htripped, hlatched, hlevel, hdrive, hlast, hdwell⟩

/-- A running dwell goes on, or begins anew where d turned against its pending sign (R101). -/
theorem dutyTaken_dwell (accepted : Bool) {s : State} {n : Nat} (h : s.bridge.dwellTimer = some n) :
    ((dutyTaken accepted s).d = 0 ∨ signOf (dutyTaken accepted s).d = s.bridge.pendingSign →
      (dutyTaken accepted s).dwellTimer = some n ∧ (dutyTaken accepted s).pendingSign = s.bridge.pendingSign) ∧
    ((dutyTaken accepted s).d ≠ 0 → signOf (dutyTaken accepted s).d ≠ s.bridge.pendingSign →
      (dutyTaken accepted s).dwellTimer = some (reverseDwell s) ∧
        (dutyTaken accepted s).pendingSign = signOf (dutyTaken accepted s).d) := by
  rw [dutyTaken_d]
  unfold dutyTaken rocked
  dsimp only
  rw [h]
  refine ⟨fun hsame => ?_, fun hd hother => ?_⟩
  · rw [if_neg]
    · exact ⟨rfl, rfl⟩
    · obtain hzero | hsign := hsame
      · simp [hzero, signOf]
      · simp [hsign]
  · have hsome : (signOf (commandedDuty s)).isSome = true := by
      rw [Option.isSome_iff_ne_none]
      exact fun hnone => hd (signOf_eq_none.1 hnone)
    rw [if_pos (by simp [hsome, hother])]
    exact ⟨rfl, rfl⟩

/-! ### A selection in RUN without a trip -/

section
variable {s : State} (haxle : isAxle s = true) (hrun : inRun s = true) (hlatched : s.bridge.latched = false)
  (htripped : s.bridge.tripped = false)
include haxle

theorem selectDrive_level : (selectDrive s).bridge.brakeLevel = (chooseAxle s true).level := by
  rw [selectDrive_of_axle haxle]
  rfl

/-- The drag brake is selected (R100). -/
theorem selectDrive_drags (h : chooseAxle s true = dragChoice s) :
    (dragBrake s = 0 → (selectDrive s).bridge.driveState = .off) ∧
      (0 < dragBrake s → (selectDrive s).bridge.driveState = .brake ∧
        (selectDrive s).bridge.brakeLevel = dragBrake s) := by
  obtain ⟨hstate, -⟩ := selectDrive_dwell haxle
  rw [hstate, selectDrive_level haxle, h]
  obtain ⟨hzero, he⟩ | ⟨hpos, he⟩ := dragChoice_cases s
  · rw [he]
    exact ⟨fun _ => rfl, fun h => absurd hzero (Nat.ne_of_gt h)⟩
  · rw [he]
    exact ⟨fun h => absurd h (Nat.ne_of_gt hpos), fun _ => ⟨rfl, rfl⟩⟩

include hrun hlatched htripped

/-- FAILSAFE and dig lock brake fully and stop the dwell (R100). -/
theorem selectDrive_held (h : s.ctl.failsafe = true ∨ digLock s = true) :
    (selectDrive s).bridge.driveState = .brake ∧ (selectDrive s).bridge.brakeLevel = 100 ∧
      (selectDrive s).bridge.dwellTimer = none := by
  obtain ⟨hstate, htimer, -⟩ := selectDrive_dwell haxle
  rw [hstate, htimer, selectDrive_level haxle, chooseAxle_of_digLock true hrun hlatched htripped h]
  exact ⟨rfl, rfl, rfl⟩

/-- What a drive state says of the bridge that selected it (R100). -/
theorem selectDrive_inverse :
    (∀ sign, (selectDrive s).bridge.driveState = driveOf sign →
      signOf s.bridge.d = some sign ∧ 0 < s.bridge.tripLevel ∧ digLock s = false) ∧
    ((selectDrive s).bridge.driveState = .off → dragBrake s = 0) ∧
    ((selectDrive s).bridge.driveState = .dwell →
      (selectDrive s).bridge.dwellTimer.isSome = true ∧ (selectDrive s).bridge.brakeLevel = 100) := by
  obtain ⟨hstate, htimer, -⟩ := selectDrive_dwell haxle
  have hline := axleLine_of_untripped hrun hlatched htripped
  rw [hstate, htimer, selectDrive_level haxle]
  exact ⟨fun sign h => hline.of_drive h, hline.of_off, fun h => ⟨(hline.of_dwell h).2, (hline.of_dwell h).1⟩⟩

variable (hfailsafe : s.ctl.failsafe = false) (hdig : digLock s = false)
include hfailsafe hdig

/-- A dwell that runs goes on (R101). -/
theorem selectDrive_dwelling (h : s.bridge.dwellTimer.isSome = true) : (selectDrive s).bridge.driveState = .dwell ∧
    (selectDrive s).bridge.dwellTimer = s.bridge.dwellTimer ∧
      (selectDrive s).bridge.pendingSign = s.bridge.pendingSign := by
  obtain ⟨hstate, htimer, hpending, -⟩ := selectDrive_dwell haxle
  rw [hstate, htimer, hpending, chooseAxle_of_dwell true hrun hlatched htripped hfailsafe hdig h]
  exact ⟨rfl, rfl, rfl⟩

variable (hdwell : s.bridge.dwellTimer = none)
include hdwell

/-- A d against the last driven sign begins a dwell (R100, R101). -/
theorem selectDrive_against {sign : Sign} (h : signOf s.bridge.d = some sign)
    (hagainst : s.bridge.lastSign = some (opposite sign) ∧ 0 < reverseDwell s) :
    (selectDrive s).bridge.driveState = .dwell ∧ (selectDrive s).bridge.brakeLevel = 100 ∧
      (selectDrive s).bridge.dwellTimer = some (reverseDwell s) ∧ (selectDrive s).bridge.pendingSign = some sign := by
  obtain ⟨hstate, htimer, hpending, -⟩ := selectDrive_dwell haxle
  rw [hstate, htimer, hpending, selectDrive_level haxle, ← h,
    chooseAxle_of_against true hrun hlatched htripped hfailsafe hdig hdwell h hagainst]
  exact ⟨rfl, rfl, rfl, rfl⟩

/-- Any other d drives its way, from an output duty of 0 where the state is new (R100, R102). -/
theorem selectDrive_drives {sign : Sign} (h : signOf s.bridge.d = some sign)
    (hfree : ¬ (s.bridge.lastSign = some (opposite sign) ∧ 0 < reverseDwell s)) (htrip : 0 < s.bridge.tripLevel) :
    (selectDrive s).bridge.driveState = driveOf sign ∧
      ((selectDrive s).bridge.driveState ≠ s.bridge.driveState →
        (selectDrive s).bridge.lastSign = some sign ∧ (selectDrive s).bridge.outDuty = 0) := by
  obtain ⟨hstate, -, -, hlast⟩ := selectDrive_dwell haxle
  obtain ⟨-, hduty, -⟩ := selectDrive_duty haxle
  have hchoice := chooseAxle_of_drive true hrun hlatched htripped hfailsafe hdig hdwell h hfree
  rw [if_neg (by simp [Nat.ne_of_gt htrip])] at hchoice
  rw [hchoice] at hstate hlast
  refine ⟨hstate, fun hnew => ⟨?_, hduty.trans (if_neg fun hsame => hnew hsame.2)⟩⟩
  rw [hstate] at hnew
  have hentering : ((driveOf sign).drives && s.bridge.driveState != driveOf sign) = true := by
    rw [driveOf_drives, Bool.true_and, bne_iff_ne]
    exact Ne.symm hnew
  rw [hlast, if_pos hentering]
  cases sign <;> rfl

end

/-- A tripped axle selects TRIPPED, a latched one LATCHED (R100). -/
theorem selectDrive_trip {s : State} (haxle : isAxle s = true) (hrun : inRun s = true) :
    (s.bridge.latched = true → (selectDrive s).bridge.driveState = .latched) ∧
      (s.bridge.latched = false → s.bridge.tripped = true → (selectDrive s).bridge.driveState = .tripped) := by
  obtain ⟨hstate, -⟩ := selectDrive_dwell haxle
  refine ⟨fun h => ?_, fun h h' => ?_⟩
  · rw [hstate, chooseAxle_of_latched true hrun h]
  · rw [hstate, chooseAxle_of_tripped true hrun h h']

theorem selectDrive_digLock (s : State) : digLock (selectDrive s) = digLock s := by
  obtain ⟨hrole, -, hstation, -⟩ := selectDrive_changes s .mode (by decide)
  rw [digLock, digLock, inRun_congr hstation, roleIs_congr hrole, roleIs_congr hrole, (selectDrive_kept s).1]

end Sys2Proof.Machine

open Sys2Proof Sys2Proof.Machine

/-- Settles O44: d is taken, and the line of the selection table that applies then gives the drive state. -/
theorem driveSelection : Obligations.DriveSelection := by
  intro s accepted haxle hrun
  have hrun' : inRun s = true := beq_iff_eq.2 hrun
  have hduty := bridgeReact_d accepted haxle hrun'
  obtain ⟨htripped, hlatched, hlevel, hdrive, hlast, hdwell⟩ := dutyTaken_kept accepted s
  have hrunning := fun n (h : s.bridge.dwellTimer = some n) => dutyTaken_dwell accepted h
  have hframe : Changes [.bridge, .lamp] s (selectDrive (s.setBridge (dutyTaken accepted s))) :=
    ((setBridge_changes _ s).mono (by decide)).trans (selectDrive_changes _)
  rw [bridgeReact_of_axle accepted haxle hrun'] at hduty ⊢
  have hd := (selectDrive_duty (s := s.setBridge (dutyTaken accepted s)) haxle).1
  have hdig := selectDrive_digLock (s.setBridge (dutyTaken accepted s))
  generalize hu : s.setBridge (dutyTaken accepted s) = u at *
  have haxle' : isAxle u = true := by rw [← hu]; exact haxle
  have hrunU : inRun u = true := by rw [← hu]; exact hrun'
  have hfailsafe : u.ctl.failsafe = s.ctl.failsafe := by rw [← hu]; rfl
  have hsettings : dragBrake u = dragBrake s ∧ reverseDwell u = reverseDwell s := by rw [← hu]; exact ⟨rfl, rfl⟩
  have hbridge : dutyTaken accepted s = u.bridge := by rw [← hu]; rfl
  obtain ⟨hdrag, hreverse⟩ := hsettings
  rw [hbridge] at htripped hlatched hlevel hdrive hlast hdwell
  simp only [hbridge] at hrunning
  obtain ⟨hlatch, htrip⟩ := selectDrive_trip haxle' hrunU
  refine ⟨fun h => ?_, fun hf hh => ?_, fun h => hlatch (hlatched.trans h), fun h h' =>
    htrip (hlatched.trans h) (htripped.trans h'), fun hl ht => ?_, hframe.eq⟩
  · rw [hduty]
    obtain h | h := h <;> simp [h]
  · rw [hduty]
    simp [hf, hh]
  · have hl' := hlatched.trans hl
    have ht' := htripped.trans ht
    obtain ⟨hdrives, hoff, hdwelling⟩ := selectDrive_inverse haxle' hrunU hl' ht'
    have hheld := selectDrive_held haxle' hrunU hl' ht'
    rw [hdig, ← hfailsafe, ← hlevel, ← hdrag]
    refine ⟨fun h => hheld (.inl h), fun h => ?_, fun h => ?_, hoff, hdwelling, fun h => hheld (.inr h), fun hf hno => ?_⟩
    · obtain ⟨hsign, htripLevel, hfree⟩ := hdrives .plus h
      exact ⟨hd ▸ signOf_eq_plus.1 hsign, htripLevel, hfree⟩
    · obtain ⟨hsign, htripLevel, hfree⟩ := hdrives .minus h
      exact ⟨hd ▸ signOf_eq_minus.1 hsign, htripLevel, hfree⟩
    · rw [hd, ← hlast, ← hdrive, ← hreverse]
      refine ⟨fun n hn => ?_, fun hnone => ?_⟩
      · obtain ⟨hgoes, hrocks⟩ := hrunning n hn
        rw [← hreverse] at hrocks
        obtain ⟨hstate, htimer, hpending⟩ := selectDrive_dwelling haxle' hrunU hl' ht' hf hno
          (hdwell.trans (by rw [hn]; rfl))
        rw [htimer, hpending]
        exact ⟨hstate, hgoes, hrocks⟩
      · have hnone' : u.bridge.dwellTimer = none := by
          rw [← Option.not_isSome_iff_eq_none, hdwell, hnone]
          decide
        refine ⟨fun hzero => ?_, fun sign hsign => ⟨fun hopposite hpos => ?_, fun hfree => ?_⟩⟩
        · exact selectDrive_drags haxle'
            (chooseAxle_of_still true hrunU hl' ht' hf hno hnone' (signOf_eq_none.2 hzero))
        · exact selectDrive_against haxle' hrunU hl' ht' hf hno hnone' hsign ⟨hopposite, hpos⟩
        · have hfree' : ¬ (u.bridge.lastSign = some (opposite sign) ∧ 0 < reverseDwell u) := by
            rintro ⟨h, hpos⟩
            exact hfree.elim (· h) (Nat.ne_of_gt hpos)
          refine ⟨fun hpower => ?_, fun hpower => ?_⟩
          · refine selectDrive_drags haxle' ?_
            rw [chooseAxle_of_drive true hrunU hl' ht' hf hno hnone' hsign hfree', if_pos (by simp [hpower])]
          · obtain ⟨hstate, hentered⟩ := selectDrive_drives haxle' hrunU hl' ht' hf hno hnone' hsign hfree' hpower
            exact ⟨hstate.trans (by cases sign <;> rfl), hentered⟩
end

section
/-! The rule of the winch's two ends (O46): no inward drive with HOME active, no outward drive at the outward end. -/

namespace Sys2Proof.Machine

/-! ### The rule -/

/-- The duty shadow names the drive state, which drives inward in HAUL alone and outward in PAYOUT alone. -/
structure DriveMatches (b : Bridge) (w : WinchState) : Prop where
  shadow : b.shadow.state = b.driveState
  inward : b.driveState = .driveFwd → w = .haul
  outward : b.driveState = .driveRev → w = .payout

/-- With HOME active the winch does not haul and the gates do not drive inward; at the outward end it does not pay out
and they do not drive outward. -/
structure EndsHeld (s : State) : Prop where
  home : homeActive s = true → s.winch.state ≠ .haul ∧ s.bridge.applied.state ≠ .driveFwd
  lineEnd : atLineEnd s = true → s.winch.state ≠ .payout ∧ s.bridge.applied.state ≠ .driveRev

/-- What a selection needs: no capture unit, and the two ends held. -/
def EndsReady (s : State) : Prop :=
  roleIs s .winch = true → s.ctl.station ≠ .halt → s.ctl.radio = false ∧ EndsHeld s

/-- The rule that every step keeps. -/
def LineHeld (s : State) : Prop :=
  roleIs s .winch = true → s.ctl.station ≠ .halt →
    s.ctl.radio = false ∧ DriveMatches s.bridge s.winch.state ∧ EndsHeld s

theorem lineEndSafe_iff (s : State) : lineEndSafe s = true ↔ LineHeld s := by
  have hsafe : lineEndSafe s = true ↔ (roleIs s .winch = true → s.ctl.station ≠ .halt →
      s.ctl.radio = false ∧ (s.bridge.shadow.state = s.bridge.driveState ∧
        (s.bridge.driveState = .driveFwd → s.winch.state = .haul) ∧
        (s.bridge.driveState = .driveRev → s.winch.state = .payout)) ∧
      (homeActive s = true → s.winch.state ≠ .haul ∧ s.bridge.applied.state ≠ .driveFwd) ∧
      (atLineEnd s = true → s.winch.state ≠ .payout ∧ s.bridge.applied.state ≠ .driveRev)) := by
    unfold lineEndSafe
    cases roleIs s .winch <;> cases homeActive s <;> cases atLineEnd s <;>
      simp [imp_iff_not_or, or_comm, and_assoc]
  rw [hsafe]
  refine forall_congr' fun _ => forall_congr' fun _ => and_congr_right fun _ => and_congr ⟨?_, ?_⟩ ⟨?_, ?_⟩
  · exact fun ⟨hshadow, hin, hout⟩ => ⟨hshadow, hin, hout⟩
  · exact fun ⟨hshadow, hin, hout⟩ => ⟨hshadow, hin, hout⟩
  · exact fun ⟨hhome, hend⟩ => ⟨hhome, hend⟩
  · exact fun ⟨hhome, hend⟩ => ⟨hhome, hend⟩

/-! ### What the rule reads -/

/-- The two states agree on what says where the line stands and which state the winch is in. -/
structure SameLine (s t : State) : Prop where
  role : t.ctl.role = s.ctl.role
  radio : t.ctl.radio = s.ctl.radio
  station : t.ctl.station = s.ctl.station
  held : t.ctl.held = s.ctl.held
  pins : t.pins = s.pins
  state : t.winch.state = s.winch.state
  homed : t.winch.homed = s.winch.homed
  position : t.winch.position = s.winch.position

theorem atLineEnd_congr {s t : State} (hheld : t.ctl.held = s.ctl.held) (hhomed : t.winch.homed = s.winch.homed)
    (hposition : t.winch.position = s.winch.position) : atLineEnd t = atLineEnd s := by
  rw [atLineEnd, atLineEnd, lineMax, lineMax, cfg_congr hheld, hhomed, hposition]

theorem homeActive_congr {s t : State} (h : t.pins = s.pins) : homeActive t = homeActive s := by
  rw [homeActive, homeActive, h]

theorem EndsHeld.of_same {s t : State} (h : SameLine s t) (happlied : t.bridge.applied = s.bridge.applied)
    (hs : EndsHeld s) : EndsHeld t := by
  refine ⟨?_, ?_⟩
  · rw [homeActive_congr h.pins, h.state, happlied]
    exact hs.home
  · rw [atLineEnd_congr h.held h.homed h.position, h.state, happlied]
    exact hs.lineEnd

theorem EndsReady.of_same {s t : State} (h : SameLine s t) (happlied : t.bridge.applied = s.bridge.applied)
    (hs : EndsReady s) : EndsReady t := by
  intro hw hstation
  rw [roleIs_congr h.role] at hw
  rw [h.station] at hstation
  obtain ⟨hradio, hends⟩ := hs hw hstation
  exact ⟨h.radio.trans hradio, hends.of_same h happlied⟩

theorem LineHeld.of_same {s t : State} (h : SameLine s t) (happlied : t.bridge.applied = s.bridge.applied)
    (hshadow : t.bridge.shadow = s.bridge.shadow) (hdrive : t.bridge.driveState = s.bridge.driveState)
    (hs : LineHeld s) : LineHeld t := by
  intro hw hstation
  rw [roleIs_congr h.role] at hw
  rw [h.station] at hstation
  obtain ⟨hradio, ⟨hmatch, hin, hout⟩, hends⟩ := hs hw hstation
  refine ⟨h.radio.trans hradio, ⟨?_, ?_, ?_⟩, hends.of_same h happlied⟩
  · rw [hshadow, hdrive]; exact hmatch
  · rw [hdrive, h.state]; exact hin
  · rw [hdrive, h.state]; exact hout

theorem LineHeld.ready {s : State} (hs : LineHeld s) : EndsReady s := fun hw hstation =>
  ⟨(hs hw hstation).1, (hs hw hstation).2.2⟩

theorem SameLine.of_changes {ps : List Piece} {s t : State} (h : Changes ps s t)
    (hfree : ∀ p ∈ ps, p ∉ ([.mode, .pins, .winch] : List Piece)) : SameLine s t := by
  obtain ⟨hrole, hradio, hstation, hheld⟩ := h .mode fun hp => hfree _ hp (by decide)
  have hpins : t.pins = s.pins := h .pins fun hp => hfree _ hp (by decide)
  have hwinch : t.winch = s.winch := h .winch fun hp => hfree _ hp (by decide)
  exact ⟨hrole, hradio, hstation, hheld, hpins, by rw [hwinch], by rw [hwinch], by rw [hwinch]⟩

theorem lineHeld_of_changes {ps : List Piece} {s t : State} (h : Changes ps s t)
    (hfree : ∀ p ∈ ps, p ∉ ([.mode, .pins, .bridge, .winch] : List Piece)) (hs : LineHeld s) : LineHeld t := by
  have hbridge : t.bridge = s.bridge := h .bridge fun hp => hfree _ hp (by decide)
  have hsame := SameLine.of_changes h fun p hp hmem => hfree p hp (by revert hmem; cases p <;> decide)
  exact hs.of_same hsame (by rw [hbridge]) (by rw [hbridge]) (by rw [hbridge])

/-- The rule speaks of WINCH alone. -/
theorem lineHeld_of_winch {s t : State} (hrole : t.ctl.role = s.ctl.role) (h : roleIs s .winch = true → LineHeld t) :
    LineHeld t := fun hw hstation => h ((roleIs_congr hrole .winch).symm.trans hw) hw hstation

theorem lineHeld_setBridge {s : State} {x : Bridge} (happlied : x.applied = s.bridge.applied)
    (hshadow : x.shadow = s.bridge.shadow) (hdrive : x.driveState = s.bridge.driveState) (hs : LineHeld s) :
    LineHeld (s.setBridge x) :=
  hs.of_same (s := s) (t := s.setBridge x) ⟨rfl, rfl, rfl, rfl, rfl, rfl, rfl, rfl⟩ happlied hshadow hdrive

theorem lineHeld_setWinch {s : State} {x : Winch} (hstate : x.state = s.winch.state) (hhomed : x.homed = s.winch.homed)
    (hposition : x.position = s.winch.position) (hs : LineHeld s) : LineHeld (s.setWinch x) :=
  hs.of_same (s := s) (t := s.setWinch x) ⟨rfl, rfl, rfl, rfl, rfl, hstate, hhomed, hposition⟩ rfl rfl rfl

/-! ### Selections and entries (R112, R125) -/

/-- The command of the winch controller drives inward in HAUL alone, outward in PAYOUT alone (R112). -/
theorem chooseWinch_direction (s : State) :
    ((chooseWinch s).state = .driveFwd → s.winch.state = .haul) ∧
      ((chooseWinch s).state = .driveRev → s.winch.state = .payout) := by
  cases hstate : s.winch.state <;> simp only [chooseWinch, winchDrive, hstate] <;> split_ifs <;> simp [driveOf]

theorem selectDrive_matches {s : State} (hw : roleIs s .winch = true) :
    DriveMatches (selectDrive s).bridge s.winch.state := by
  obtain ⟨hin, hout⟩ := chooseWinch_direction s
  rw [selectDrive_of_winch (isAxle_of_winch hw) hw]
  exact ⟨rfl, hin, hout⟩

/-- A selection brings the rule wherever the two ends are held. -/
theorem lineHeld_selectDrive {s : State} (hs : EndsReady s) : LineHeld (selectDrive s) := by
  have hchanges := selectDrive_changes s
  have hsame := SameLine.of_changes hchanges (by decide)
  obtain ⟨-, -, -, -, -, happlied, -⟩ := selectDrive_kept s
  intro hw hstation
  obtain ⟨hradio, hends⟩ := hs.of_same hsame happlied hw hstation
  rw [roleIs_congr hsame.role] at hw
  rw [hsame.state]
  exact ⟨hradio, selectDrive_matches hw, hends⟩

theorem DriveMatches.still {b : Bridge} {w : WinchState} (h : DriveMatches b w) (hhaul : w ≠ .haul)
    (hpayout : w ≠ .payout) : b.driveState.drives = false :=
  (drives_eq_false_iff _).2 ⟨fun hd => hhaul (h.inward hd), fun hd => hpayout (h.outward hd)⟩

/-- The bridge after an entry: the drive of the new state, on the gates at once at an end of the line (R112, R125). -/
theorem enterWinch_drive {new : WinchState} {s : State} (hw : roleIs s .winch = true) (h : new ≠ s.winch.state) :
    DriveMatches (enterWinch new s).bridge new ∧
      (endBrake s.winch.state new = true →
        (enterWinch new s).bridge.applied = (enterWinch new s).bridge.shadow ∧ (enterWinch new s).bridge.cut = false) ∧
      (endBrake s.winch.state new = false → (enterWinch new s).bridge.applied = s.bridge.applied) := by
  have hturned : (turnedWinch new s).state = new := by
    rw [turnedWinch, (starveRule_fields _ _ _).1]
    rfl
  have hmatch := selectDrive_matches (s := s.setWinch (turnedWinch new s)) hw
  rw [State.setWinch_winch, hturned] at hmatch
  obtain ⟨hshadow, hin, hout⟩ := hmatch
  obtain ⟨-, -, -, -, -, happlied, -⟩ := selectDrive_kept (s.setWinch (turnedWinch new s))
  rw [enterWinch_bridge h]
  cases endBrake s.winch.state new
  · exact ⟨⟨hshadow, hin, hout⟩, fun h => absurd h (by decide), fun _ => happlied⟩
  · exact ⟨⟨hshadow, hin, hout⟩, fun _ => ⟨rfl, rfl⟩, fun h => absurd h (by decide)⟩

theorem endBrake_iff (old new : WinchState) : endBrake old new = true ↔
    (old = .haul ∨ old = .payout) ∧ (new = .endIn ∨ new = .endOut) := by
  cases old <;> cases new <;> decide

theorem enterWinch_same_line (new : WinchState) (s : State) : homeActive (enterWinch new s) = homeActive s ∧
    atLineEnd (enterWinch new s) = atLineEnd s := by
  obtain ⟨-, -, hposition, hhomed, -⟩ := enterWinch_kept new s
  have hctl : (enterWinch new s).ctl = s.ctl := by simp
  exact ⟨homeActive_congr (by simp), atLineEnd_congr (by rw [hctl]) hhomed hposition⟩

/-- The brake at an end of the line stops the gates, whatever they did before (R125). -/
theorem lineHeld_endWinch {new : WinchState} {s : State}
    (hradio : roleIs s .winch = true → s.ctl.station ≠ .halt → s.ctl.radio = false)
    (hend : endBrake s.winch.state new = true) : LineHeld (enterWinch new s) := by
  have hctl : (enterWinch new s).ctl = s.ctl := by simp
  obtain ⟨hold, hnew⟩ := (endBrake_iff _ _).1 hend
  have hne : new ≠ s.winch.state := by
    obtain h | h := hold <;> obtain h' | h' := hnew <;> rw [h, h'] <;> decide
  have hnot : new ≠ .haul ∧ new ≠ .payout := by
    obtain h | h := hnew <;> rw [h] <;> decide
  intro hw hstation
  replace hw : roleIs s .winch = true := (roleIs_congr (congrArg Controller.role hctl) .winch).symm.trans hw
  rw [hctl] at hstation ⊢
  obtain ⟨hmatch, hbrake, -⟩ := enterWinch_drive hw hne
  obtain ⟨happlied, -⟩ := hbrake hend
  obtain ⟨hfwd, hrev⟩ := (drives_eq_false_iff _).1 (hmatch.still hnot.1 hnot.2)
  have hstate : (enterWinch new s).winch.state = new := enterWinch_state new s
  rw [hstate]
  refine ⟨hradio hw hstation, hmatch, fun _ => ?_, fun _ => ?_⟩
  · rw [hstate, happlied, hmatch.shadow]
    exact ⟨hnot.1, hfwd⟩
  · rw [hstate, happlied, hmatch.shadow]
    exact ⟨hnot.2, hrev⟩

/-- An entry keeps the rule where HAUL is not entered with HOME active nor PAYOUT at the outward end. -/
theorem lineHeld_enterWinch {new : WinchState} {s : State}
    (hhaul : new = .haul → s.winch.state = .haul ∨ homeActive s = false)
    (hpayout : new = .payout → s.winch.state = .payout ∨ atLineEnd s = false) (hs : LineHeld s) :
    LineHeld (enterWinch new s) := by
  by_cases hne : new = s.winch.state
  · rw [enterWinch_same hne]
    exact hs
  cases hend : endBrake s.winch.state new with
  | true => exact lineHeld_endWinch (fun hw hstation => (hs hw hstation).1) hend
  | false =>
    have hctl : (enterWinch new s).ctl = s.ctl := by simp
    intro hw hstation
    replace hw : roleIs s .winch = true := (roleIs_congr (congrArg Controller.role hctl) .winch).symm.trans hw
    rw [hctl] at hstation ⊢
    obtain ⟨hradio, -, hends⟩ := hs hw hstation
    obtain ⟨hmatch, -, hkept⟩ := enterWinch_drive hw hne
    obtain ⟨hhome, hline⟩ := enterWinch_same_line new s
    have hstate : (enterWinch new s).winch.state = new := enterWinch_state new s
    rw [hstate]
    refine ⟨hradio, hmatch, ?_, ?_⟩
    · rw [hhome, hstate, hkept hend]
      refine fun hactive => ⟨fun hnew => ?_, (hends.home hactive).2⟩
      obtain hold | hoff := hhaul hnew
      · exact hne (hnew.trans hold.symm)
      · exact absurd (hactive.symm.trans hoff) (by decide)
    · rw [hline, hstate, hkept hend]
      refine fun hactive => ⟨fun hnew => ?_, (hends.lineEnd hactive).2⟩
      obtain hold | hoff := hpayout hnew
      · exact hne (hnew.trans hold.symm)
      · exact absurd (hactive.symm.trans hoff) (by decide)

/-- The brake on the gates keeps the rule (R96). -/
theorem lineHeld_brakeGates {s : State} (hs : LineHeld s) : LineHeld (brakeGates s) := by
  intro hw hstation
  obtain ⟨hradio, hmatch, hends⟩ := hs hw hstation
  obtain ⟨hshadow, hin, hout⟩ := hmatch
  refine ⟨hradio, ⟨hshadow, hin, hout⟩, fun hactive => ?_, fun hactive => ?_⟩
  · have hstate := (hends.home hactive).1
    exact ⟨hstate, fun hgates => hstate (hin (hshadow.symm.trans hgates))⟩
  · have hstate := (hends.lineEnd hactive).1
    exact ⟨hstate, fun hgates => hstate (hout (hshadow.symm.trans hgates))⟩

/-- Where the state is one that the ends allow, the brake at an end brings the rule (R125). -/
theorem lineHeld_brakeAtEnd {s : State}
    (hs : roleIs s .winch = true → s.ctl.station ≠ .halt → s.ctl.radio = false ∧ DriveMatches s.bridge s.winch.state ∧
      (homeActive s = true → s.winch.state ≠ .haul) ∧ (atLineEnd s = true → s.winch.state ≠ .payout)) :
    LineHeld (brakeAtEnd s) := by
  obtain ⟨-, he⟩ | ⟨hno, he⟩ := brakeAtEnd_cases s
  · rw [he]
    intro hw hstation
    obtain ⟨hradio, ⟨hshadow, hin, hout⟩, hhome, hend⟩ := hs hw hstation
    exact ⟨hradio, ⟨hshadow, hin, hout⟩,
      fun hactive => ⟨hhome hactive, fun hgates => hhome hactive (hin (hshadow.symm.trans hgates))⟩,
      fun hactive => ⟨hend hactive, fun hgates => hend hactive (hout (hshadow.symm.trans hgates))⟩⟩
  · rw [he]
    intro hw hstation
    obtain ⟨hradio, hmatch, hhome, hend⟩ := hs hw hstation
    simp only [drivesPastEnd, Bool.or_eq_false_iff, Bool.and_eq_false_iff, beq_eq_false_iff_ne] at hno
    obtain ⟨hfwd, hrev⟩ := hno
    exact ⟨hradio, hmatch,
      fun hactive => ⟨hhome hactive, hfwd.resolve_left (by simp [hactive])⟩,
      fun hactive => ⟨hend hactive, hrev.resolve_left (by simp [hactive])⟩⟩

end Sys2Proof.Machine
end

section
/-! The rule of the winch's two ends is kept by every event, and by RUN entry and the resets. -/

namespace Sys2Proof.Machine

/-! ### The winch controller (R117, R121 to R126) -/

/-- An evaluation enters HAUL only with HOME inactive and PAYOUT only short of the outward end (R117, R120, R121). -/
theorem evaluatedState_drives (s : State) :
    (evaluatedState s = .haul → s.winch.state = .haul ∨ homeActive s = false) ∧
      (evaluatedState s = .payout → s.winch.state = .payout ∨ atLineEnd s = false) := by
  unfold evaluatedState
  cases s.winch.state <;> cases s.winch.command <;> grind

theorem lineHeld_endHoldOff {s : State} (hs : LineHeld s) : LineHeld (endHoldOff s) := by
  unfold endHoldOff
  split
  · exact lineHeld_setWinch rfl rfl rfl hs
  · exact hs

theorem lineHeld_winchEvaluate {s : State} (hs : LineHeld s) : LineHeld (winchEvaluate s) :=
  lineHeld_enterWinch (evaluatedState_drives (endHoldOff s)).1 (evaluatedState_drives (endHoldOff s)).2
    (lineHeld_endHoldOff hs)

theorem lineHeld_motor : MotorKept LineHeld where
  stable h hfree hs := lineHeld_of_changes h (fun p hp hmem => hfree p hp (by revert hmem; cases p <;> decide)) hs
  react accepted s hs := winchReact_keeps accepted hs (fun _ _ => lineHeld_setWinch rfl rfl rfl hs)
    (fun hu => lineHeld_enterWinch (by simp) (by simp) hu) fun _ hu => lineHeld_winchEvaluate hu
  handOver s hs := by
    obtain h | ⟨-, -, -, ⟨-, -, h⟩ | ⟨-, -, h⟩⟩ | ⟨-, -, -, h⟩ := winchHandOver_cases s
    · rw [h]; exact hs
    · rw [h]
      cases hhome : homeActive s
      · exact lineHeld_enterWinch (fun _ => .inr hhome) (by simp) hs
      · exact lineHeld_enterWinch (by simp) (by simp) hs
    · rw [h]
      cases hend : atLineEnd s
      · exact lineHeld_enterWinch (by simp) (fun _ => .inr hend) hs
      · exact lineHeld_enterWinch (by simp) (by simp) hs
    · obtain ⟨hstate, -, -, hposition, hhomed, -⟩ := starveRule_fields (winchMinimum s) (tierGrant s) s.winch
      rw [h]
      exact lineHeld_setWinch hstate hhomed hposition hs

theorem lineHeld_demands : DemandKept LineHeld where
  stable h hfree hs := lineHeld_of_changes h (fun p hp hmem => hfree p hp (by revert hmem; cases p <;> decide)) hs
  react accepted s hs := by
    have hquiet (u : State) : Changes [.pack, .lamp] u (evalCues (packQuiet u)) :=
      .of (by simp [allPieces, Piece.same])
    have hsteer : LineHeld (steerReact accepted (evalConditions s)) :=
      lineHeld_of_changes (ps := [.steer, .conditions])
        (((evalConditions_changes s).mono (by decide)).trans (.of (by simp [allPieces, Piece.same]))) (by decide) hs
    have hbridge : LineHeld (bridgeReact accepted (steerReact accepted (evalConditions s))) := by
      generalize steerReact accepted (evalConditions s) = u at hsteer ⊢
      refine lineHeld_of_winch (s := u) (by simp) fun hw => ?_
      have hreact : bridgeReact accepted u = if inRun u then selectDrive u else u := by
        simp [bridgeReact, isAxle_of_winch hw, hw]
      rw [hreact]
      split
      · exact lineHeld_selectDrive hsteer.ready
      · exact hsteer
    exact lineHeld_of_changes (hquiet _) (by decide) (lineHeld_motor.react accepted _ hbridge)

theorem lineHeld_publishWinch {s : State} (hs : LineHeld s) : LineHeld (publishWinch s) := by
  have hctl : (publishWinch s).ctl = s.ctl := by simp
  exact hs.of_same ⟨by rw [hctl], by rw [hctl], by rw [hctl], by rw [hctl], by simp, by rw [publishWinch_winch],
    by rw [publishWinch_winch], by rw [publishWinch_winch]⟩ (by simp) (by simp) (by simp)

/-! ### Hall edges and HOME (R114, R116, R125) -/

theorem lineHeld_hallEdged (stamp : Half) {s : State} (hs : LineHeld s) : LineHeld (hallEdged stamp s) := by
  refine lineHeld_of_winch (hallEdged_changes stamp s .mode (by decide)).1 fun hwinch => ?_
  rw [hallEdged_eq stamp hwinch]
  have hcount : roleIs (hallCounted stamp s) .winch = true → (hallCounted stamp s).ctl.station ≠ .halt →
      (hallCounted stamp s).ctl.radio = false ∧ DriveMatches (hallCounted stamp s).bridge s.winch.state ∧
        (homeActive (hallCounted stamp s) = true → s.winch.state ≠ .haul) := fun hw hstation =>
    ⟨(hs hw hstation).1, (hs hw hstation).2.1, fun h => ((hs hw hstation).2.2.home h).1⟩
  have hstate : (hallCounted stamp s).winch.state = s.winch.state := rfl
  split
  · next h =>
    obtain ⟨hpayout, -⟩ := Bool.and_eq_true_iff.1 h
    have hend : endBrake (hallCounted stamp s).winch.state .endOut = true := by
      rw [hstate, beq_iff_eq.1 hpayout]
      decide
    refine lineHeld_brakeAtEnd fun hw hstation => ?_
    obtain ⟨hradio, hmatch, hends⟩ :=
      lineHeld_endWinch (fun hw hstation => (hcount hw hstation).1) hend hw hstation
    exact ⟨hradio, hmatch, fun h => (hends.home h).1, fun h => (hends.lineEnd h).1⟩
  · next h =>
    refine lineHeld_brakeAtEnd fun hw hstation => ?_
    obtain ⟨hradio, hmatch, hhome⟩ := hcount hw hstation
    refine ⟨hradio, hmatch, hhome, fun hactive hpayout => h ?_⟩
    rw [hactive, Bool.and_true]
    exact beq_iff_eq.2 hpayout

/-- The level of CAP5 is low after an activation of HOME (R116). -/
theorem homeActive_homeCounted (s : State) : homeActive (homeCounted s) = true := by
  have hlow (c : BitVec 6) : (c &&& 0x1F).getLsbD 5 = false := by revert c; decide
  have hcaps : (homeCounted s).pins.caps = s.pins.caps &&& 0x1F := rfl
  rw [homeActive, hcaps, hlow]
  rfl

/-- HOME in HAUL, and in PAYOUT at the outward end, brings the brake at an end of the line; elsewhere the state stays
(R116, R120, R121). -/
theorem homeActivated_cases {s : State} (hw : roleIs s .winch = true) :
    (s.winch.state = .haul ∧ homeActivated s = brakeAtEnd (enterWinch .endIn (homeCounted s))) ∨
    (s.winch.state = .payout ∧ atLineEnd (homeCounted s) = true ∧
      homeActivated s = brakeAtEnd (enterWinch .endOut (homeCounted s))) ∨
    (s.winch.state = .payout ∧ atLineEnd (homeCounted s) = false ∧
      homeActivated s = brakeAtEnd (selectDrive (homeCounted s))) ∨
    (s.winch.state ≠ .haul ∧ s.winch.state ≠ .payout ∧ homeActivated s = brakeAtEnd (homeCounted s)) := by
  rw [homeActivated_eq hw]
  cases hstate : s.winch.state with
  | haul => exact .inl ⟨rfl, rfl⟩
  | payout =>
    cases hend : atLineEnd (homeCounted s) with
    | true => exact .inr (.inl ⟨rfl, rfl, rfl⟩)
    | false => exact .inr (.inr (.inl ⟨rfl, rfl, rfl⟩))
  | locked | hold | stalled | starved | endIn | endOut => exact .inr (.inr (.inr ⟨by simp, by simp, rfl⟩))

theorem lineHeld_homeActivated {s : State} (hs : LineHeld s) : LineHeld (homeActivated s) := by
  refine lineHeld_of_winch (homeActivated_changes s .mode (by decide)).1 fun hwinch => ?_
  have hradio : roleIs (homeCounted s) .winch = true → (homeCounted s).ctl.station ≠ .halt →
      (homeCounted s).ctl.radio = false := fun hw hstation => (hs hw hstation).1
  have hbraked {new : WinchState} (hend : endBrake s.winch.state new = true) :
      LineHeld (brakeAtEnd (enterWinch new (homeCounted s))) := by
    refine lineHeld_brakeAtEnd fun hw hstation => ?_
    obtain ⟨hradio, hmatch, hends⟩ := lineHeld_endWinch hradio hend hw hstation
    exact ⟨hradio, hmatch, fun h => (hends.home h).1, fun h => (hends.lineEnd h).1⟩
  obtain ⟨hstate, he⟩ | ⟨hstate, -, he⟩ | ⟨hstate, hline, he⟩ | ⟨hhaul, hpayout, he⟩ := homeActivated_cases hwinch
  · rw [he]
    exact hbraked (by rw [hstate]; decide)
  · rw [he]
    exact hbraked (by rw [hstate]; decide)
  · rw [he]
    have hsame := SameLine.of_changes (selectDrive_changes (homeCounted s)) (by decide)
    refine lineHeld_brakeAtEnd fun hw hstation => ?_
    rw [roleIs_congr hsame.role] at hw
    rw [hsame.station] at hstation
    rw [hsame.radio, hsame.state, atLineEnd_congr hsame.held hsame.homed hsame.position, hline]
    have hpayout : (homeCounted s).winch.state = .payout := hstate
    refine ⟨hradio hw hstation, selectDrive_matches hw, fun _ => ?_, fun h => absurd h (by decide)⟩
    rw [hpayout]
    decide
  · rw [he]
    refine lineHeld_brakeAtEnd fun hw hstation => ?_
    exact ⟨hradio hw hstation, (hs hw hstation).2.1, fun _ => hhaul, fun _ => hpayout⟩

theorem lineHeld_homeReleased {s : State} (hs : LineHeld s) :
    LineHeld (if roleIs s .winch then setHomeLevel true s else s) := by
  split
  · have hhigh (c : BitVec 6) : (c ||| 0x20).getLsbD 5 = true := by revert c; decide
    have hcaps : (setHomeLevel true s).pins.caps = s.pins.caps ||| 0x20 := rfl
    have hoff : homeActive (setHomeLevel true s) = false := by
      rw [homeActive, hcaps, hhigh]
      rfl
    intro hw hstation
    obtain ⟨hradio, hmatch, hends⟩ := hs hw hstation
    exact ⟨hradio, hmatch, fun h => absurd (h.symm.trans hoff) (by decide), hends.lineEnd⟩
  · exact hs

/-! ### The bridge unit's events (R96, R102, R106, R107) -/

theorem lineHeld_periodStarted {s : State} (hs : LineHeld s) : LineHeld (periodStarted s) := by
  have hlevel : LineHeld (s.setBridge { s.bridge with tripLevel := min (motorLimit s) (tierGrant s) }) :=
    lineHeld_setBridge rfl rfl rfl hs
  unfold periodStarted
  split
  · exact lineHeld_brakeGates (lineHeld_selectDrive hlevel.ready)
  · exact hs

theorem lineHeld_cycleLimited (i : Current) {s : State} (hs : LineHeld s) : LineHeld (cycleLimited i s) := by
  unfold cycleLimited
  dsimp only
  split
  · exact lineHeld_setBridge rfl rfl rfl hs
  · exact hs

theorem winchDuty_line (fig : Nat) (s : State) : (winchDuty fig s).state = s.winch.state ∧
    (winchDuty fig s).homed = s.winch.homed ∧ (winchDuty fig s).position = s.winch.position := by
  unfold winchDuty
  dsimp only
  split <;> exact ⟨rfl, rfl, rfl⟩

theorem lineHeld_dutyStepped (samples : List Int) {s : State} (hs : LineHeld s) : LineHeld (dutyStepped samples s) := by
  have hrole := (dutyStepped_changes samples s .mode (by decide)).1
  refine lineHeld_of_winch hrole fun hw => ?_
  cases hrun : inRun s with
  | false =>
    have hnone : dutyStepped samples s = s := by simp [dutyStepped, hrun]
    rw [hnone]
    exact hs
  | true =>
    rw [dutyStepped_of_winch samples hw hrun]
    have hcurrent : LineHeld (s.setBridge { s.bridge with current := meanCurrent samples }) :=
      lineHeld_setBridge rfl rfl rfl hs
    obtain ⟨hstate, hhomed, hposition⟩ :=
      winchDuty_line (meanCurrent samples) (s.setBridge { s.bridge with current := meanCurrent samples })
    have hselected := lineHeld_selectDrive (lineHeld_setWinch hstate hhomed hposition hcurrent).ready
    refine lineHeld_setBridge ?_ ?_ ?_ hselected <;> rw [(restartDriven_kept _).1]

theorem lineHeld_winchTripped {s : State} (hs : LineHeld s) : LineHeld (winchTripped s) := by
  have hset : LineHeld (s.setWinch { s.winch with holdOff := true }) := lineHeld_setWinch rfl rfl rfl hs
  obtain ⟨-, he⟩ | ⟨-, -, he⟩ | ⟨-, -, he⟩ := winchTripped_cases s
  · rw [he]; exact hs
  · rw [he]; exact lineHeld_enterWinch (by simp) (by simp) hset
  · rw [he]; exact hset

/-- A one-shot trip takes the gates off, so the ends are held (R106). -/
theorem lineHeld_oneShotTripped (i : Current) {s : State} (hs : LineHeld s) : LineHeld (oneShotTripped i s) := by
  have hnoted : EndsReady (tripNoted s) := by
    have hchanges : (tripNoted s).pins = s.pins := by
      unfold tripNoted
      dsimp only
      split <;> rfl
    obtain ⟨hbridge, hwinch, hctl⟩ := tripNoted_fields s
    intro hw hstation
    rw [hctl] at hstation
    obtain ⟨hradio, -, hends⟩ := hs ((roleIs_congr (by rw [hctl]) .winch).symm.trans hw) hstation
    refine ⟨by rw [hctl]; exact hradio, ?_, ?_⟩
    · rw [homeActive_congr hchanges, hwinch, hbridge]
      exact fun h => ⟨(hends.home h).1, by simp [trippedBridge]⟩
    · rw [atLineEnd_congr (s := s) (by rw [hctl]) (by rw [hwinch]) (by rw [hwinch]), hwinch, hbridge]
      exact fun h => ⟨(hends.lineEnd h).1, by simp [trippedBridge]⟩
  have hcases : oneShotTripped i s = winchTripped (selectDrive (tripNoted s)) ∨ oneShotTripped i s = s := by
    unfold oneShotTripped
    split
    · exact .inl rfl
    · exact .inr rfl
  obtain he | he := hcases
  · rw [he]
    exact lineHeld_winchTripped (lineHeld_selectDrive hnoted)
  · rw [he]
    exact hs

theorem lineHeld_rearmExpired {s : State} (hs : LineHeld s) : LineHeld (rearmExpired s) := by
  have hrearmed : LineHeld (s.setBridge { s.bridge with tripped := false, rearmTimer := none }) :=
    lineHeld_setBridge rfl rfl rfl hs
  unfold rearmExpired
  dsimp only
  split
  · have hselected := lineHeld_selectDrive hrearmed.ready
    split
    · exact lineHeld_endHoldOff hselected
    · exact hselected
  · exact hs

theorem lineHeld_stallExpired {s : State} (hs : LineHeld s) : LineHeld (stallExpired s) := by
  unfold stallExpired
  split
  · exact lineHeld_enterWinch (by simp) (by simp)
      (lineHeld_motor.record _ _ (lineHeld_motor.setFaults _ (lineHeld_setWinch rfl rfl rfl hs)))
  · exact hs

theorem lineHeld_starveExpired {s : State} (hs : LineHeld s) : LineHeld (starveExpired s) := by
  unfold starveExpired
  split
  · exact lineHeld_enterWinch (by simp) (by simp) hs
  · exact hs

theorem lineHeld_winchTimerExpired {s : State} (hs : LineHeld s) : LineHeld (winchTimerExpired s) := by
  unfold winchTimerExpired
  split
  · exact lineHeld_publishWinch hs
  · exact hs

/-- An event that a WINCH station's capture unit does not take, since it has no RADIO (R65). -/
theorem lineHeld_captured {s t : State} (hrole : t.ctl.role = s.ctl.role) (hstation : t.ctl.station = s.ctl.station)
    (h : s.ctl.radio = false → t = s) (hs : LineHeld s) : LineHeld t := by
  intro hw hlive
  obtain ⟨hradio, -⟩ := hs ((roleIs_congr hrole .winch).symm.trans hw) (by rw [← hstation]; exact hlive)
  rw [h hradio] at hw hlive ⊢
  exact hs hw hlive

theorem lineHeld_edgeCaptured (c : Nat) (rising : Bool) (stamp : Half) {s : State} (hs : LineHeld s) :
    LineHeld (edgeCaptured c rising stamp s) := by
  obtain ⟨hrole, -, hstation, -⟩ := edgeCaptured_changes c rising stamp s .mode (by decide)
  exact lineHeld_captured hrole hstation (fun h => by simp [edgeCaptured, h]) hs

theorem lineHeld_trainCaptured (rising : Bool) (stamp : Half) {s : State} (hs : LineHeld s) :
    LineHeld (trainCaptured rising stamp s) := by
  obtain ⟨hrole, -, hstation, -⟩ := trainCaptured_changes rising stamp s .mode (by decide)
  exact lineHeld_captured hrole hstation (fun h => by simp [trainCaptured, h]) hs

/-- An event of an axle alone. -/
theorem lineHeld_of_axle {s t : State} (hrole : t.ctl.role = s.ctl.role) (h : isAxle s = false → t = s)
    (hs : LineHeld s) : LineHeld t :=
  lineHeld_of_winch hrole fun hw => by
    rw [h (isAxle_of_winch hw)]
    exact hs

theorem lineHeld_evalAssist {s : State} (hs : LineHeld s) : LineHeld (evalAssist s) :=
  lineHeld_of_axle (by simp) (fun h => by simp [evalAssist, h]) hs

theorem lineHeld_winchRecordLost {s : State} (hs : LineHeld s) : LineHeld (winchRecordLost s) := by
  unfold winchRecordLost
  dsimp only
  split
  · exact lineHeld_evalAssist (lineHeld_motor.setLatest _ hs)
  · exact hs

/-! ### Every event -/

theorem lineHeld_live (c : Instr) (s : State) (hc : compound c = false) (hs : LineHeld s) : LineHeld (liveEffect c s) := by
  cases c
  case startTimerExpiry | commitEnd | frameSendEnd | demandTimerExpiry => cases hc
  case demandRecordStale => exact lineHeld_demands.demandStale hs
  case demandRecordLost => exact lineHeld_demands.demandLostNow hs
  case allowanceRecordLost => exact lineHeld_motor.allowanceLost hs
  case winchRecordLost => exact lineHeld_winchRecordLost hs
  case scanCompletion scan => exact lineHeld_motor.scanCompleted scan hs
  case checkTimerExpiry => exact lineHeld_motor.checkExpired hs
  case packTrip i => exact lineHeld_motor.packTripped i hs
  case shareTimerExpiry => exact lineHeld_motor.shareExpired hs
  case captureEdge channel rising stamp => exact lineHeld_edgeCaptured channel rising stamp hs
  case trainEdge edge => exact lineHeld_trainCaptured edge.rising edge.stamp hs
  case periodStart => exact lineHeld_periodStarted hs
  case dutyStep samples => exact lineHeld_dutyStepped samples hs
  case cycleLimit i => exact lineHeld_cycleLimited i hs
  case oneShotTrip i => exact lineHeld_oneShotTripped i hs
  case dwellTimerExpiry =>
    exact lineHeld_of_axle (dwellExpired_changes s .mode (by decide)).1 (fun h => by simp [liveEffect, dwellExpired, h]) hs
  case rearmTimerExpiry => exact lineHeld_rearmExpired hs
  case windowTimerExpiry => exact lineHeld_setBridge (s := s) (x := { s.bridge with windowTimer := none }) rfl rfl rfl hs
  case drivenTimerExpiry =>
    exact lineHeld_of_changes (cueEvent_changes s (s.setBridge { s.bridge with drivenTimer := none })) (by decide)
      (lineHeld_setBridge (s := s) (x := { s.bridge with drivenTimer := none }) rfl rfl rfl hs)
  case hallEdge stamp => exact lineHeld_hallEdged stamp hs
  case homeActivation => exact lineHeld_homeActivated hs
  case homeRelease => exact lineHeld_homeReleased hs
  case stallTimerExpiry => exact lineHeld_stallExpired hs
  case starveTimerExpiry => exact lineHeld_starveExpired hs
  case winchTimerExpiry => exact lineHeld_winchTimerExpired hs
  all_goals exact lineHeld_of_changes (liveEffect_changes _ s) (of_decide_eq_true rfl) hs

theorem lineHeld_deliver (v : Delivery) (source : BitVec 4) (data : List Byte) (s : State) (hv : v.single = true)
    (hs : LineHeld s) : LineHeld (v.run source data s) := by
  cases v
  case demand | echoOnly | hold | release | restart | fetch => cases hv
  case allowance =>
    show LineHeld (deliverAllowance source data s)
    unfold deliverAllowance
    split
    · exact lineHeld_motor.acceptAllowance _ hs
    · exact hs
  case winch =>
    show LineHeld (deliverWinch source data s)
    unfold deliverWinch
    split
    · exact lineHeld_evalAssist (lineHeld_motor.setLatest _ hs)
    · exact hs
  case trip =>
    show LineHeld (deliverTrip source data s)
    unfold deliverTrip
    split
    · exact lineHeld_motor.takeTrip hs
    · exact hs
  all_goals exact lineHeld_of_changes (Delivery.run_changes _ source data s) (of_decide_eq_true rfl) hs

/-! ### RUN entry and the resets (R111, R170) -/

/-- At RUN entry the winch is LOCKED and the bridge does not drive (R111, section 7.10). -/
theorem lineHeld_blocksEnterRun {s : State} (hstart : s.ctl.station ≠ .halt) (hs : LineHeld s) :
    LineHeld (blocksEnterRun s) := by
  have hrole : (blocksEnterRun s).ctl.role = s.ctl.role := by rw [blocksEnterRun_ctl, beforeBridge_ctl]
  refine lineHeld_of_winch hrole fun hw => ?_
  obtain ⟨hradio, -, hends⟩ := hs hw hstart
  let u := beforeBridge s
  have hu := beforeBridge_changes s
  have hctl := beforeBridge_ctl s
  have huw : roleIs u .winch = true := (roleIs_congr (by rw [hctl]) .winch).trans hw
  have huse : bridgeInUse u = true := by simp [bridgeInUse, huw]
  have hubridge : u.bridge = s.bridge := by rw [hu .bridge (by decide), controllerEnterRun_eq]
  have huwinch : u.winch = s.winch := by rw [hu .winch (by decide), controllerEnterRun_eq]
  have hupins : u.pins = s.pins := by rw [hu .pins (by decide), controllerEnterRun_eq]
  let v := u.setBridge { u.bridge with
    periodTimer := true, d := 0, outDuty := 0, tripLevel := 0, pendingDig := none, dwellTimer := none
    pendingSign := none, rearmTimer := none, windowTimer := none, drivenTimer := none }
  have henter : bridgeEnterRun u = selectDrive v := if_pos huse
  have hv : (selectDrive v).bridge.driveState.drives = false := selectDrive_of_no_trip (s := v) huse rfl
  have hmatch := selectDrive_matches (s := v) huw
  have happlied : (selectDrive v).bridge.applied = s.bridge.applied := by
    obtain ⟨-, -, -, -, -, happlied, -⟩ := selectDrive_kept v
    exact happlied.trans (show u.bridge.applied = s.bridge.applied by rw [hubridge])
  have hafter := afterBridge_changes s
  have hbridge : (blocksEnterRun s).bridge = (selectDrive v).bridge := by
    rw [hafter .bridge (by decide), ← henter]
  have hbwinch : (bridgeEnterRun u).winch = s.winch :=
    (bridgeEnterRun_changes u .winch (by decide)).trans huwinch
  have hwinch : (blocksEnterRun s).winch.state = .locked ∧ (blocksEnterRun s).winch.homed = s.winch.homed ∧
      (blocksEnterRun s).winch.position = s.winch.position := by
    have hrole' : roleIs (bridgeEnterRun u) .winch = true :=
      (roleIs_congr (bridgeEnterRun_changes u .mode (by decide)).1 .winch).trans huw
    have heq : (blocksEnterRun s).winch = (winchEnterRun (bridgeEnterRun u)).winch := by
      show (lampsEnterRun (packEnterRun (winchEnterRun (bridgeEnterRun u)))).winch = _
      rw [lampsEnterRun_changes _ .winch (by decide), packEnterRun_changes _ .winch (by decide)]
    rw [heq, winchEnterRun, if_pos hrole', publishWinch_winch, ← hbwinch]
    exact ⟨rfl, rfl, rfl⟩
  have hpins : (blocksEnterRun s).pins = s.pins := by
    rw [hafter .pins (by decide), bridgeEnterRun_changes _ .pins (by decide)]
    exact hupins
  obtain ⟨hstate, hhomed, hposition⟩ := hwinch
  obtain ⟨hfwd, hrev⟩ := (drives_eq_false_iff _).1 hv
  intro _ _
  rw [blocksEnterRun_ctl, beforeBridge_ctl, hbridge, hstate]
  refine ⟨hradio, ⟨hmatch.shadow, fun h => absurd h hfwd, fun h => absurd h hrev⟩, ?_, ?_⟩
  · rw [homeActive_congr hpins, hstate, hbridge, happlied]
    exact fun h => ⟨by decide, (hends.home h).2⟩
  · rw [atLineEnd_congr (by rw [blocksEnterRun_ctl, beforeBridge_ctl]) hhomed hposition, hstate, hbridge, happlied]
    exact fun h => ⟨by decide, (hends.lineEnd h).2⟩

theorem lineHeld_enterRun {s : State} (hstart : s.ctl.station = .start) (hs : LineHeld s) : LineHeld (enterRun s) := by
  have hblocks := lineHeld_blocksEnterRun (by rw [hstart]; decide) hs
  rw [enterRun_eq]
  exact lineHeld_motor.shareEnterRun (lineHeld_demands.demandEnterRun hblocks)

/-- Straps that are no fault give no RADIO to WINCH (R2). -/
theorem lineHeld_resetStation (kind : ResetKind) (pins : Pins) (s : State) : LineHeld (resetStation kind pins s) := by
  intro hw hstation
  have hbridge : (resetStation kind pins s).bridge = {} := by simp [resetStation_blocks]
  rw [resetStation_station] at hstation
  have hfault : strapFault pins = false := by
    rw [← Bool.not_eq_true]
    exact fun h => hstation (if_pos h)
  obtain ⟨d, he⟩ := resetStation_of_valid kind s hfault
  have hlocked : (resetStation kind pins s).winch.state = .locked := by
    rw [he]
    dsimp only
    split <;> rfl
  have hradio : (resetStation kind pins s).ctl.radio = false := by
    have hrole : roleOf pins.role = some .winch := by
      rw [he] at hw
      exact beq_iff_eq.1 hw
    have hwinch : pins.role = 2 := by
      generalize pins.role = r at hrole
      revert r
      decide
    rw [he]
    show pins.radio = false
    have hstraps := hfault
    rw [strapFault, hwinch] at hstraps
    simpa using hstraps
  rw [hbridge, hlocked]
  refine ⟨hradio, ⟨rfl, fun h => ?_, fun h => ?_⟩, fun _ => ?_, fun _ => ?_⟩
  · cases h
  · cases h
  · rw [hlocked, hbridge]
    decide
  · rw [hlocked, hbridge]
    decide

theorem lineHeld_rule : StepRule [.mode, .pins, .bridge, .winch] LineHeld where
  stable h hfree hs := lineHeld_of_changes h hfree hs
  ages s hs := lineHeld_of_changes (advanceAges_changes s) (by decide) hs
  timers s hs := by
    have hwinch : (advanceTimers s).winch.state = s.winch.state ∧ (advanceTimers s).winch.homed = s.winch.homed ∧
        (advanceTimers s).winch.position = s.winch.position := by
      unfold advanceTimers
      dsimp only
      split <;> exact ⟨rfl, rfl, rfl⟩
    exact hs.of_same (s := s) (t := advanceTimers s) ⟨rfl, rfl, rfl, rfl, rfl, hwinch.1, hwinch.2.1, hwinch.2.2⟩ rfl rfl rfl
  reset kind pins s _ := lineHeld_resetStation kind pins s
  halt s _ := fun _ hstation => absurd (by rw [enterHalt_ctl]) hstation
  run s hstart hs := lineHeld_enterRun hstart hs
  setup s hstart hs := by
    refine lineHeld_of_changes (enterSetup_changes s) (by decide) ?_
    intro hw _
    obtain ⟨hradio, hmatch, hends⟩ := hs hw (by rw [hstart]; decide)
    exact ⟨hradio, hmatch, hends.home, hends.lineEnd⟩
  arrives p d s hs := lineHeld_demands.demandArrives p d s hs
  isolated _ hs := lineHeld_demands.evalIsolated hs
  live c s hc hs := lineHeld_live c s hc hs
  deliver v source data s hv hs := lineHeld_deliver v source data s hv hs

end Sys2Proof.Machine
end

section
/-! Hall edges and HOME (O46). -/

namespace Sys2Proof.Machine

/-- The gates take the brake of the shadow. -/
def GatesBraked (b : Bridge) : Prop := b.applied = b.shadow ∧ b.cut = false

/-- The brake at an end of the line moves the gates alone, and leaves them braked where they drove past the end or were
braked before (R125). -/
theorem brakeAtEnd_spec (s : State) : (brakeAtEnd s).winch = s.winch ∧ (brakeAtEnd s).pins = s.pins ∧
    (brakeAtEnd s).bridge.driveState = s.bridge.driveState ∧ (brakeAtEnd s).bridge.d = s.bridge.d ∧
    (drivesPastEnd s = true ∨ GatesBraked s.bridge → GatesBraked (brakeAtEnd s).bridge) ∧
    (drivesPastEnd s = false → brakeAtEnd s = s) := by
  obtain ⟨hpast, he⟩ | ⟨hpast, he⟩ := brakeAtEnd_cases s
  · rw [he]
    exact ⟨rfl, rfl, rfl, rfl, fun _ => ⟨rfl, rfl⟩, fun h => absurd (hpast.symm.trans h) (by decide)⟩
  · rw [he]
    exact ⟨rfl, rfl, rfl, rfl, fun h => h.resolve_left (by simp [hpast]), fun _ => rfl⟩

theorem drivesPastEnd_of_home {s : State} (hhome : homeActive s = true) (h : s.bridge.applied.state = .driveFwd) :
    drivesPastEnd s = true := by
  simp [drivesPastEnd, hhome, h]

theorem drivesPastEnd_of_lineEnd {s : State} (hend : atLineEnd s = true) (h : s.bridge.applied.state = .driveRev) :
    drivesPastEnd s = true := by
  simp [drivesPastEnd, hend, h]

/-- HAUL or PAYOUT ended at an end of the line: the bridge no longer drives, and its gates brake at once (R125). -/
theorem lineEnded_spec {new : WinchState} {s : State} (hw : roleIs s .winch = true)
    (hend : endBrake s.winch.state new = true) : let t := brakeAtEnd (enterWinch new s)
    t.winch.state = new ∧ t.bridge.driveState.drives = false ∧ GatesBraked t.bridge := by
  obtain ⟨hold, hnew⟩ := (endBrake_iff _ _).1 hend
  have hne : new ≠ s.winch.state := by
    obtain h | h := hold <;> obtain h' | h' := hnew <;> rw [h, h'] <;> decide
  have hnot : new ≠ .haul ∧ new ≠ .payout := by
    obtain h | h := hnew <;> rw [h] <;> decide
  obtain ⟨hmatch, hbrake, -⟩ := enterWinch_drive hw hne
  obtain ⟨hwinch, -, hdrive, -, hbraked, -⟩ := brakeAtEnd_spec (enterWinch new s)
  dsimp only
  rw [hwinch, hdrive]
  exact ⟨enterWinch_state new s, hmatch.still hnot.1 hnot.2, hbraked (.inr (hbrake hend))⟩

theorem atLineEnd_iff (s : State) : atLineEnd s = true ↔ s.winch.homed = true ∧ lineMax s ≤ s.winch.position := by
  simp [atLineEnd]

/-! ### A Hall edge (R114) -/

theorem hallCounted_position (stamp : Half) (s : State) : (hallCounted stamp s).winch.position =
    limitTo (-32768) 32767 (s.winch.position + hallChange s.bridge.driveState) := rfl

theorem hallChange_of_not_inward {d : DriveState} (h : d ≠ .driveFwd) : hallChange d = 1 := by
  cases d <;> simp_all [hallChange]

/-- What a Hall edge does: the count, then the outward end or the brake past an end (R114, R121, R125). -/
theorem hallEdged_cases (stamp : Half) {s : State} (hw : roleIs s .winch = true) :
    (s.winch.state = .payout ∧ atLineEnd (hallCounted stamp s) = true ∧
      hallEdged stamp s = brakeAtEnd (enterWinch .endOut (hallCounted stamp s))) ∨
    ((s.winch.state ≠ .payout ∨ atLineEnd (hallCounted stamp s) = false) ∧
      hallEdged stamp s = brakeAtEnd (hallCounted stamp s)) := by
  have heq := hallEdged_eq stamp hw
  split at heq
  · next h =>
    rw [Bool.and_eq_true, beq_iff_eq] at h
    exact .inl ⟨h.1, h.2, heq⟩
  · next h =>
    rw [Bool.and_eq_true, beq_iff_eq, not_and_or, Bool.not_eq_true] at h
    exact .inr ⟨h, heq⟩

/-- What a Hall edge leaves of the winch's counts. -/
theorem hallEdged_counts (stamp : Half) {s : State} (hw : roleIs s .winch = true) :
    (hallEdged stamp s).winch.position = (hallCounted stamp s).winch.position ∧
      (hallEdged stamp s).winch.hallEdges = satSucc 65535 s.winch.hallEdges ∧
      (s.winch.state ≠ .payout → (hallEdged stamp s).winch.state = s.winch.state) := by
  obtain ⟨hstate, -, he⟩ | ⟨-, he⟩ := hallEdged_cases stamp hw
  · obtain ⟨-, -, hposition, -, -, -, hedges, -⟩ := enterWinch_kept .endOut (hallCounted stamp s)
    rw [he, (brakeAtEnd_spec _).1]
    exact ⟨hposition, hedges, fun h => absurd hstate h⟩
  · rw [he, (brakeAtEnd_spec _).1]
    exact ⟨rfl, rfl, fun _ => rfl⟩

/-- At the outward end PAYOUT ends, and outward gates brake (R121, R125). -/
theorem hallEdged_lineEnd (stamp : Half) {s : State} (hw : roleIs s .winch = true)
    (hend : atLineEnd (hallCounted stamp s) = true) :
    (s.winch.state = .payout → (hallEdged stamp s).winch.state = .endOut ∧
      (hallEdged stamp s).bridge.driveState.drives = false ∧ GatesBraked (hallEdged stamp s).bridge) ∧
    (s.bridge.applied.state = .driveRev → GatesBraked (hallEdged stamp s).bridge) := by
  obtain ⟨hstate, -, he⟩ | ⟨hnot, he⟩ := hallEdged_cases stamp hw
  · have hbrake : endBrake (hallCounted stamp s).winch.state .endOut = true :=
      (endBrake_iff _ _).2 ⟨.inr hstate, .inr rfl⟩
    have hended := lineEnded_spec (s := hallCounted stamp s) hw hbrake
    rw [he]
    exact ⟨fun _ => hended, fun _ => hended.2.2⟩
  · have hstate : s.winch.state ≠ .payout := hnot.resolve_right (by simp [hend])
    refine ⟨fun h => absurd h hstate, fun hgates => ?_⟩
    rw [he]
    obtain ⟨-, -, -, -, hbraked, -⟩ := brakeAtEnd_spec (hallCounted stamp s)
    exact hbraked (.inl (drivesPastEnd_of_lineEnd hend hgates))

/-- Away from both ends a Hall edge leaves the state and the bridge. -/
theorem hallEdged_midway (stamp : Half) {s : State} (hw : roleIs s .winch = true) (hhome : homeActive s = false)
    (hend : atLineEnd (hallCounted stamp s) = false) :
    (hallEdged stamp s).winch.state = s.winch.state ∧ (hallEdged stamp s).bridge = s.bridge := by
  obtain ⟨-, hend', -⟩ | ⟨-, he⟩ := hallEdged_cases stamp hw
  · exact absurd (hend.symm.trans hend') (by decide)
  · have hhome' : homeActive (hallCounted stamp s) = false := hhome
    have hpast : drivesPastEnd (hallCounted stamp s) = false := by simp [drivesPastEnd, hhome', hend]
    rw [he, (brakeAtEnd_spec _).2.2.2.2.2 hpast]
    exact ⟨rfl, rfl⟩

/-! ### HOME (R116) -/

/-- What an activation of HOME leaves of the winch's counts and the pin. -/
theorem homeActivated_counts {s : State} (hw : roleIs s .winch = true) :
    (homeActivated s).winch.position = 0 ∧ (homeActivated s).winch.homed = true ∧
      (homeActivated s).winch.activations = satSucc 255 s.winch.activations ∧ homeActive (homeActivated s) = true ∧
      (s.winch.state ≠ .haul → s.winch.state ≠ .payout → (homeActivated s).winch.state = s.winch.state) := by
  have hentered (new : WinchState) : (enterWinch new (homeCounted s)).winch.position = 0 ∧
      (enterWinch new (homeCounted s)).winch.homed = true ∧
      (enterWinch new (homeCounted s)).winch.activations = satSucc 255 s.winch.activations ∧
      (enterWinch new (homeCounted s)).pins = (homeCounted s).pins := by
    obtain ⟨-, -, hposition, hhomed, -, -, -, hactivations⟩ := enterWinch_kept new (homeCounted s)
    exact ⟨hposition, hhomed, hactivations, by simp⟩
  have hpin {u : State} (h : u.pins = (homeCounted s).pins) : homeActive u = true :=
    (homeActive_congr h).trans (homeActive_homeCounted s)
  have hselect : (selectDrive (homeCounted s)).winch = (homeCounted s).winch ∧
      (selectDrive (homeCounted s)).pins = (homeCounted s).pins := by simp
  obtain ⟨hstate, he⟩ | ⟨hstate, -, he⟩ | ⟨hstate, -, he⟩ | ⟨-, -, he⟩ := homeActivated_cases hw
  · obtain ⟨hwinch, hpins, -⟩ := brakeAtEnd_spec (enterWinch .endIn (homeCounted s))
    obtain ⟨hposition, hhomed, hactivations, hpins'⟩ := hentered .endIn
    rw [he, hwinch]
    exact ⟨hposition, hhomed, hactivations, hpin (hpins.trans hpins'), fun h => absurd hstate h⟩
  · obtain ⟨hwinch, hpins, -⟩ := brakeAtEnd_spec (enterWinch .endOut (homeCounted s))
    obtain ⟨hposition, hhomed, hactivations, hpins'⟩ := hentered .endOut
    rw [he, hwinch]
    exact ⟨hposition, hhomed, hactivations, hpin (hpins.trans hpins'), fun _ h => absurd hstate h⟩
  · obtain ⟨hwinch, hpins, -⟩ := brakeAtEnd_spec (selectDrive (homeCounted s))
    rw [he, hwinch, hselect.1]
    exact ⟨rfl, rfl, rfl, hpin (hpins.trans hselect.2), fun _ h => absurd hstate h⟩
  · obtain ⟨hwinch, hpins, -⟩ := brakeAtEnd_spec (homeCounted s)
    rw [he, hwinch]
    exact ⟨rfl, rfl, rfl, hpin hpins, fun _ _ => rfl⟩

theorem atLineEnd_homeCounted (s : State) : atLineEnd (homeCounted s) = true ↔ lineMax s ≤ 0 := by
  rw [atLineEnd_iff]
  exact ⟨fun h => h.2, fun h => ⟨rfl, h⟩⟩

/-- HOME ends HAUL in END-IN, and PAYOUT where the line has no length (R116, R120, R121, R125). -/
theorem homeActivated_lineEnd {s : State} (hw : roleIs s .winch = true) :
    (s.winch.state = .haul → (homeActivated s).winch.state = .endIn ∧
      (homeActivated s).bridge.driveState.drives = false ∧ GatesBraked (homeActivated s).bridge) ∧
    (s.winch.state = .payout → lineMax s ≤ 0 → (homeActivated s).winch.state = .endOut ∧
      (homeActivated s).bridge.driveState.drives = false ∧ GatesBraked (homeActivated s).bridge) := by
  have hended {new : WinchState} (hend : endBrake s.winch.state new = true) :=
    lineEnded_spec (s := homeCounted s) (new := new) hw hend
  obtain ⟨hstate, he⟩ | ⟨hstate, -, he⟩ | ⟨hstate, hline, he⟩ | ⟨hhaul, hpayout, -⟩ := homeActivated_cases hw
  · rw [he]
    exact ⟨fun _ => hended ((endBrake_iff _ _).2 ⟨.inl hstate, .inl rfl⟩),
      fun h => absurd (hstate.symm.trans h) (by decide)⟩
  · rw [he]
    exact ⟨fun h => absurd (hstate.symm.trans h) (by decide),
      fun _ _ => hended ((endBrake_iff _ _).2 ⟨.inr hstate, .inr rfl⟩)⟩
  · refine ⟨fun h => absurd (hstate.symm.trans h) (by decide), fun _ h => ?_⟩
    exact absurd (((atLineEnd_homeCounted s).2 h).symm.trans hline) (by decide)
  · exact ⟨fun h => absurd h hhaul, fun h => absurd h hpayout⟩

/-- PAYOUT goes on from HOME at the payout duty (R116, R121). -/
theorem homeActivated_payout {s : State} (hw : roleIs s .winch = true) (hstate : s.winch.state = .payout)
    (hline : 0 < lineMax s) :
    (homeActivated s).winch.state = .payout ∧ (homeActivated s).bridge.d = -(payoutDuty s : Int) := by
  have hnot : ¬ lineMax s ≤ 0 := by omega
  obtain ⟨hstate', -⟩ | ⟨-, hend, -⟩ | ⟨-, -, he⟩ | ⟨-, hpayout, -⟩ := homeActivated_cases hw
  · exact absurd (hstate.symm.trans hstate') (by decide)
  · exact absurd ((atLineEnd_homeCounted s).1 hend) hnot
  · have hselect : (selectDrive (homeCounted s)).winch = (homeCounted s).winch := by simp
    have hd : (selectDrive (homeCounted s)).bridge.d = (winchDrive (homeCounted s)).2 := by
      rw [selectDrive_of_winch (isAxle_of_winch (s := homeCounted s) hw) hw]
      rfl
    have hdrive : winchDrive (homeCounted s) = (some .minus, -(payoutDuty s : Int)) := by
      have hpay : (homeCounted s).winch.state = .payout := hstate
      rw [winchDrive, hpay]
      rfl
    obtain ⟨hwinch, -, -, hkept, -⟩ := brakeAtEnd_spec (selectDrive (homeCounted s))
    rw [he, hwinch, hkept, hselect, hd, hdrive]
    exact ⟨hstate, rfl⟩
  · exact absurd hstate hpayout

/-- Gates that drive inward brake as HOME becomes active (R125). -/
theorem homeActivated_gates {s : State} (hw : roleIs s .winch = true) (hgates : s.bridge.applied.state = .driveFwd) :
    GatesBraked (homeActivated s).bridge := by
  obtain ⟨hhaul, hpayout⟩ := homeActivated_lineEnd hw
  have hpast {u : State} (hpins : u.pins = (homeCounted s).pins) (happlied : u.bridge.applied = s.bridge.applied) :
      drivesPastEnd u = true :=
    drivesPastEnd_of_home ((homeActive_congr hpins).trans (homeActive_homeCounted s)) (by rw [happlied, hgates])
  obtain ⟨hstate, -⟩ | ⟨hstate, hend, -⟩ | ⟨-, -, he⟩ | ⟨-, -, he⟩ := homeActivated_cases hw
  · exact (hhaul hstate).2.2
  · exact (hpayout hstate ((atLineEnd_homeCounted s).1 hend)).2.2
  · obtain ⟨-, -, -, -, hbraked, -⟩ := brakeAtEnd_spec (selectDrive (homeCounted s))
    obtain ⟨-, -, -, -, -, happlied, -⟩ := selectDrive_kept (homeCounted s)
    rw [he]
    exact hbraked (.inl (hpast (by simp) happlied))
  · obtain ⟨-, -, -, -, hbraked, -⟩ := brakeAtEnd_spec (homeCounted s)
    rw [he]
    exact hbraked (.inl (hpast rfl rfl))

end Sys2Proof.Machine

open Sys2Proof Sys2Proof.Machine

/-- Settles O46: the rule of the two ends is kept by every step; each edge counts first, and brakes at an end in the same
event. -/
theorem linePosition : Obligations.LinePosition := by
  refine ⟨fun s t hs h => (lineEndSafe_iff t).2
    (lineHeld_rule.keeps_step (by decide) ((lineEndSafe_iff s).1 hs) h), fun s stamp hlive hw => ⟨?_, ?_, ?_⟩⟩
  · have hexec : exec (.hallEdge stamp) s = .next (hallEdged stamp s) := live_of_not_halt hlive _
    have hframe := ((hallEdged_changes stamp s).mono
      (by decide : _ ⊆ [.winch, .cap, .bridge, .lamp, .port, .records, .winchRecord])).eq
    obtain ⟨hposition, hedges, hstate⟩ := hallEdged_counts stamp hw
    have hcounted := hallCounted_position stamp s
    have hend : atLineEnd (hallCounted stamp s) = true ↔
        s.winch.homed = true ∧ lineMax s ≤ (hallCounted stamp s).winch.position := atLineEnd_iff _
    have hlineEnd := hallEdged_lineEnd stamp hw
    have hmidway := hallEdged_midway stamp hw
    generalize hallEdged stamp s = t at *
    rw [← hposition] at hcounted hend
    refine ⟨t, hexec, hframe, hedges, fun hd hlow hhigh => ?_, fun hd hlow hhigh => ?_, fun hd hlow => ?_,
      fun hd hhigh => ?_, fun hpayout hhomed hmax => ?_, fun hhomed hmax hgates => ?_, fun hhome hshort => ?_, hstate⟩
    · rw [hcounted, hd]
      exact limitTo_of_mem (x := s.winch.position + -1) (by omega) (by omega)
    · rw [hcounted, hallChange_of_not_inward hd]
      exact limitTo_of_mem (by omega) (by omega)
    · rw [hcounted, hd, hlow]
      rfl
    · rw [hcounted, hallChange_of_not_inward hd, hhigh]
      rfl
    · exact (hlineEnd (hend.2 ⟨hhomed, hmax⟩)).1 hpayout
    · exact (hlineEnd (hend.2 ⟨hhomed, hmax⟩)).2 hgates
    · refine hmidway hhome (Bool.eq_false_iff.2 fun h => ?_)
      obtain ⟨hhomed, hmax⟩ := hend.1 h
      obtain hunhomed | hless := hshort
      · exact absurd (hhomed.symm.trans hunhomed) (by decide)
      · omega
  · have hexec : exec .homeActivation s = .next (homeActivated s) := live_of_not_halt hlive _
    have hframe := ((homeActivated_changes s).mono
      (by decide : _ ⊆ [.winch, .pins, .bridge, .lamp, .port, .records, .winchRecord])).eq
    obtain ⟨hposition, hhomed, hactivations, hactive, hother⟩ := homeActivated_counts hw
    obtain ⟨hhaul, hpayout⟩ := homeActivated_lineEnd hw
    exact ⟨_, hexec, hframe, hposition, hhomed, hactivations, hactive, hhaul, homeActivated_gates hw,
      homeActivated_payout hw, hpayout, hother⟩
  · have hexec : exec .homeRelease s = .next (setHomeLevel true s) :=
      (live_of_not_halt hlive fun x => if roleIs x .winch then setHomeLevel true x else x).trans (by rw [if_pos hw])
    have hhigh (c : BitVec 6) : (c ||| 0x20).getLsbD 5 = true := by revert c; decide
    have hcaps : (setHomeLevel true s).pins.caps = s.pins.caps ||| 0x20 := rfl
    refine ⟨_, hexec, rfl, ?_⟩
    rw [homeActive, hcaps, hhigh]
    rfl
end

section
/-! Stall, starvation, the command evaluated, the hand-over of a grant (O47), and the WINCH published (O48). -/

namespace Sys2Proof.Machine

/-! ### An entry as the bus and the bridge see it (R120, R123, R129) -/

/-- The winch controller has just entered its state: the record shows it, the bridge does not drive but in HAUL and
PAYOUT, and the haul ramp starts with HAUL. -/
structure JustEntered (s : State) : Prop where
  record : s.latest.winch.winchState = s.winch.state.code
  still : s.winch.state ≠ .haul → s.winch.state ≠ .payout → s.bridge.driveState.drives = false
  ramp : s.winch.state = .haul → s.winch.ramp = some 0

theorem publishWinch_latest (s : State) :
    (publishWinch s).latest = { s.latest with winch := readWinch (winchData s) } := by
  simp [publishWinch]

theorem readWinch_state (s : State) : (readWinch (winchData s)).winchState = s.winch.state.code := rfl

theorem enteredWinch_timers (new : WinchState) (s : State) :
    (enteredWinch new s).stallTimer = none ∧ (enteredWinch new s).ramp = (if new = .haul then some 0 else none) ∧
      (enteredWinch new s).starvedFrom = (if new = .starved then some s.winch.state else none) := by
  obtain ⟨-, -, -, -, -, -, hfrom, hramp, hstall, -⟩ := starveRule_fields (winchMinimum s)
    (tierGrant (s.setWinch (changedState new s.winch))) (changedState new s.winch)
  exact ⟨hstall, hramp, hfrom⟩

theorem enterWinch_record {new : WinchState} {s : State} (h : new ≠ s.winch.state) :
    (enterWinch new s).latest.winch.winchState = new.code := by
  have hif (b : Bool) (u : State) : (if b then brakeGates u else u).winch = u.winch := by cases b <;> simp
  unfold enterWinch
  rw [if_neg h]
  dsimp only
  rw [publishWinch_latest]
  dsimp only
  rw [readWinch_state]
  simp [hif, changedState]

theorem enterWinch_justEntered {new : WinchState} {s : State} (hw : roleIs s .winch = true) (h : new ≠ s.winch.state) :
    JustEntered (enterWinch new s) := by
  have hstate : (enterWinch new s).winch.state = new := enterWinch_state new s
  refine ⟨?_, ?_, ?_⟩
  · rw [hstate, enterWinch_record h]
  · rw [hstate]
    exact (enterWinch_drive hw h).1.still
  · rw [hstate, enterWinch_winch h, (enteredWinch_timers new s).2.1]
    exact fun hhaul => if_pos hhaul

theorem endHoldOff_eq (s : State) : ∃ off, endHoldOff s = s.setWinch { s.winch with holdOff := off } := by
  unfold endHoldOff
  split
  · exact ⟨false, rfl⟩
  · exact ⟨s.winch.holdOff, rfl⟩

/-- A reaction that changes the state has just entered it (R120, R125, R129). -/
theorem winchReact_entered (accepted : Bool) {s : State} (hw : roleIs s .winch = true) :
    (winchReact accepted s).winch.state ≠ s.winch.state → JustEntered (winchReact accepted s) := by
  let P (u : State) : Prop := roleIs u .winch = true ∧ (u.winch.state ≠ s.winch.state → JustEntered u)
  have henter (new : WinchState) (u : State) (hu : P u) : P (enterWinch new u) := by
    have hctl : (enterWinch new u).ctl = u.ctl := by simp
    refine ⟨(roleIs_congr (congrArg Controller.role hctl) .winch).trans hu.1, fun hnew => ?_⟩
    by_cases hsame : new = u.winch.state
    · rw [enterWinch_same hsame] at hnew ⊢
      exact hu.2 hnew
    · exact enterWinch_justEntered hu.1 hsame
  have hend (u : State) (hu : P u) : P (endHoldOff u) := by
    obtain ⟨off, he⟩ := endHoldOff_eq u
    rw [he]
    refine ⟨hu.1, fun hnew => ?_⟩
    obtain ⟨hrecord, hstill, hramp⟩ := hu.2 hnew
    exact ⟨hrecord, hstill, hramp⟩
  have hread : P (winchRead s) := ⟨hw, fun h => absurd rfl h⟩
  have hreact : P (winchReact accepted s) :=
    winchReact_keeps accepted ⟨hw, fun h => absurd rfl h⟩ (fun _ _ => hread) (fun hu => henter _ _ hu)
      fun u hu => henter _ _ (hend u hu)
  exact hreact.2

/-! ### The command evaluated (R117 to R122, R126) -/

theorem effectiveCommand_iff {s : State} (hrun : inRun s = true) :
    (effectiveCommand s = .inward ↔ (s.latest.demand.band = .fresh ∧ s.ctl.failsafe = false ∧ s.ctl.demandHold = false) ∧
      s.latest.demand.winchCommand = 1) ∧
    (effectiveCommand s = .outward ↔ (s.latest.demand.band = .fresh ∧ s.ctl.failsafe = false ∧ s.ctl.demandHold = false) ∧
      s.latest.demand.winchCommand = 2) := by
  have hread (c : BitVec 4) : (readCommand c = .inward ↔ c = 1) ∧ (readCommand c = .outward ↔ c = 2) := by
    revert c
    decide
  obtain ⟨hinward, houtward⟩ := hread s.latest.demand.winchCommand
  by_cases hheeded : s.latest.demand.band = .fresh ∧ s.ctl.failsafe = false ∧ s.ctl.demandHold = false
  · have heq : effectiveCommand s = readCommand s.latest.demand.winchCommand :=
      if_pos (by simp [hrun, hheeded.1, hheeded.2.1, hheeded.2.2])
    rw [heq, hinward, houtward]
    exact ⟨⟨fun h => ⟨hheeded, h⟩, And.right⟩, ⟨fun h => ⟨hheeded, h⟩, And.right⟩⟩
  · have heq : effectiveCommand s = .hold := by
      refine if_neg fun h => hheeded ?_
      simpa [hrun, and_assoc] using h
    rw [heq]
    exact ⟨⟨fun h => absurd h (by decide), fun h => absurd h.1 hheeded⟩,
      ⟨fun h => absurd h (by decide), fun h => absurd h.1 hheeded⟩⟩

theorem lockCause_iff (s : State) : lockCause s = true ↔ s.ctl.failsafe = true ∨
    (s.latest.allowance.band = .fresh ∧ 4 ≤ s.latest.allowance.packState.toNat) := by
  simp [lockCause, allowanceShows]

theorem winchUnlocked_of_locking {s : State} (hlock : lockCause s = true) (hbefore : s.winch.lock = false) :
    winchUnlocked s = enterWinch .locked (winchRead s) := by
  simp [winchUnlocked, winchLocked, hlock, hbefore]

theorem winchUnlocked_of_free {s : State} (hlock : lockCause s = false) :
    winchUnlocked s = if s.winch.lock then winchEvaluate (winchRead s) else winchRead s := by
  simp [winchUnlocked, winchLocked, hlock]

theorem winchReact_accepted {s : State} (hw : roleIs s .winch = true) (hrun : inRun s = true) :
    winchReact true s = winchEvaluate (winchUnlocked s) := by
  rw [winchReact_eq true hw hrun]
  rfl

/-- A lock condition that begins enters LOCKED, which stays (R118). -/
theorem winchReact_locks {s : State} (hw : roleIs s .winch = true) (hrun : inRun s = true) (hlock : lockCause s = true)
    (hbefore : s.winch.lock = false) : (winchReact true s).winch.state = .locked := by
  rw [winchReact_accepted hw hrun, winchUnlocked_of_locking hlock hbefore, winchEvaluate_state]
  obtain ⟨off, he⟩ := endHoldOff_eq (enterWinch .locked (winchRead s))
  rw [he]
  refine evaluatedState_of_locked (s := (enterWinch .locked (winchRead s)).setWinch _) ?_ ?_
  · exact enterWinch_state .locked (winchRead s)
  · exact (enterWinch_kept .locked (winchRead s)).1.trans hlock

/-- A lock condition over, or none begun: LOCKED ends at HOLD (R118, R119). -/
def Unlocking (c : WinchCommand) (s : State) : Prop :=
  s.winch.command = c ∧ s.winch.lock = false ∧ (s.winch.state = .locked ∨ (s.winch.state = .hold ∧ c = .hold))

theorem unlocking_evaluate {c : WinchCommand} {s : State} (h : Unlocking c s) :
    Unlocking c (winchEvaluate s) ∧ (winchEvaluate s).winch.state = (if c = .hold then .hold else .locked) := by
  obtain ⟨hcommand, hlock, hstate⟩ := h
  obtain ⟨hlockKept, hcommandKept, -⟩ := winchEvaluate_kept s
  have hresult : (winchEvaluate s).winch.state = if c = .hold then .hold else .locked := by
    obtain ⟨off, he⟩ := endHoldOff_eq s
    rw [winchEvaluate_state, he]
    obtain hlocked | ⟨hhold, hc⟩ := hstate
    · cases c <;> simp [evaluatedState, hlocked, hlock, hcommand]
    · simp [evaluatedState, hhold, hcommand, hc]
  refine ⟨⟨hcommandKept.trans hcommand, hlockKept.trans hlock, ?_⟩, hresult⟩
  rw [hresult]
  split
  · next hc => exact .inr ⟨rfl, hc⟩
  · exact .inl rfl

theorem winchReact_unlocks {s : State} (hw : roleIs s .winch = true) (hrun : inRun s = true) (hlock : lockCause s = false)
    (hstate : s.winch.state = .locked) :
    (winchReact true s).winch.state = (if effectiveCommand s = .hold then .hold else .locked) := by
  have hread : Unlocking (effectiveCommand s) (winchRead s) := ⟨rfl, hlock, .inl hstate⟩
  rw [winchReact_accepted hw hrun, winchUnlocked_of_free hlock]
  split
  · exact (unlocking_evaluate (unlocking_evaluate hread).1).2
  · exact (unlocking_evaluate hread).2

/-- The trip hold-off stands while the bridge is TRIPPED, and holds HOLD (R126). -/
theorem winchEvaluate_of_holdOff {s : State} (hstate : s.winch.state = .hold) (hoff : s.winch.holdOff = true)
    (htripped : s.bridge.tripped = true) : winchEvaluate s = s := by
  have hend : endHoldOff s = s := by simp [endHoldOff, htripped]
  have hevaluated : evaluatedState s = s.winch.state := by
    cases hcommand : s.winch.command <;> simp [evaluatedState, hstate, hcommand, hoff]
  rw [winchEvaluate, hend, enterWinch_same hevaluated]

theorem winchReact_holdOff {s : State} (hw : roleIs s .winch = true) (hrun : inRun s = true) (hlock : lockCause s = false)
    (hstate : s.winch.state = .hold) (hoff : s.winch.holdOff = true) (htripped : s.bridge.tripped = true) :
    (winchReact true s).winch.state = .hold := by
  have hsame : winchEvaluate (winchRead s) = winchRead s := winchEvaluate_of_holdOff hstate hoff htripped
  rw [winchReact_accepted hw hrun, winchUnlocked_of_free hlock, hsame, ite_self, hsame]
  exact hstate

/-- With no lock condition and no hold-off a reaction is one evaluation of the command (R117). -/
theorem winchReact_evaluates {s : State} (hw : roleIs s .winch = true) (hrun : inRun s = true) (hlock : lockCause s = false)
    (hbefore : s.winch.lock = false) (hoff : s.winch.holdOff = false) :
    (winchReact true s).winch.state = evaluatedState (winchRead s) := by
  have hend : endHoldOff (winchRead s) = winchRead s := by
    have hoff' : (winchRead s).winch.holdOff = false := hoff
    simp [endHoldOff, hoff']
  rw [winchReact_accepted hw hrun, winchUnlocked_of_free hlock, hbefore, if_neg (by decide), winchEvaluate_state, hend]

/-- The states an evaluation gives with neither hold-off nor latch (R119 to R124). -/
theorem evaluatedState_of_free {s : State} (hoff : s.winch.holdOff = false) (hlatched : s.bridge.latched = false) :
    let inward := if homeActive s then WinchState.endIn else .haul
    let outward := if atLineEnd s then WinchState.endOut else .payout
    let c := s.winch.command
    (s.winch.state = .hold → evaluatedState s = (if c = .inward then inward else if c = .outward then outward else .hold)) ∧
    (s.winch.state = .haul → evaluatedState s = (if c = .inward then .haul else .hold)) ∧
    (s.winch.state = .payout → evaluatedState s = (if c = .outward then .payout else .hold)) ∧
    (s.winch.state = .stalled → evaluatedState s = (if c = .hold then .hold else .stalled)) ∧
    (s.winch.state = .starved → evaluatedState s =
      (if (c = .inward ∧ s.winch.starvedFrom = some .haul) ∨ (c = .outward ∧ s.winch.starvedFrom = some .payout) then
        .starved else .hold)) ∧
    (s.winch.state = .endIn → evaluatedState s =
      (if c = .inward then .endIn else if c = .outward then outward else .hold)) ∧
    (s.winch.state = .endOut → evaluatedState s =
      (if c = .outward then .endOut else if c = .inward then inward else .hold)) := by
  refine ⟨fun h => ?_, fun h => ?_, fun h => ?_, fun h => ?_, fun h => ?_, fun h => ?_, fun h => ?_⟩ <;>
    cases hcommand : s.winch.command <;> simp [evaluatedState, h, hcommand, hoff, hlatched]

/-! ### The hand-over of a grant (R124) -/

/-- The grant of the tier the winch is counted in, in HAUL and PAYOUT and where it starved from them (R47, R124). -/
theorem tierGrant_of_winch {s : State} (hw : roleIs s .winch = true) :
    (s.winch.state = .haul → tierGrant s = s.share.grants.a) ∧
      (s.winch.state = .payout → tierGrant s = s.share.grants.b) ∧
      (s.winch.state = .starved → s.winch.starvedFrom = some .haul → tierGrant s = s.share.grants.a) ∧
      (s.winch.state = .starved → s.winch.starvedFrom = some .payout → tierGrant s = s.share.grants.b) := by
  have haxle := isAxle_of_winch hw
  refine ⟨fun h => ?_, fun h => ?_, fun h h' => ?_, fun h h' => ?_⟩
  · simp [tierGrant, haxle, hw, h]
  · simp [tierGrant, haxle, hw, h]
  · simp [tierGrant, haxle, hw, h, h']
  · simp [tierGrant, haxle, hw, h, h']

/-- A STARVED winch at a hand-over: it returns where the grant is 5/4 of WinchMinimum (R124). -/
theorem winchHandOver_of_starved {s : State} (hw : roleIs s .winch = true) (hrun : inRun s = true)
    (h : s.winch.state = .starved) :
    (winchMinimum s * 5 / 4 ≤ tierGrant s →
      (s.winch.starvedFrom = some .haul → s.winch.command = .inward →
        (winchHandOver s).winch.state = if homeActive s then .endIn else .haul) ∧
      (s.winch.starvedFrom = some .payout → s.winch.command = .outward →
        (winchHandOver s).winch.state = if atLineEnd s then .endOut else .payout)) ∧
    (tierGrant s < winchMinimum s * 5 / 4 → winchHandOver s = s) := by
  refine ⟨fun henough => ⟨fun hfrom hcommand => ?_, fun hfrom hcommand => ?_⟩, fun hless => ?_⟩
  · simp [winchHandOver, hw, hrun, h, hfrom, hcommand, henough]
  · simp [winchHandOver, hw, hrun, h, hfrom, hcommand, henough]
  · have hno : decide (winchMinimum s * 5 / 4 ≤ tierGrant s) = false := decide_eq_false (Nat.not_le.2 hless)
    simp only [winchHandOver, hw, hrun, h, hno, Bool.and_self, if_true, Bool.false_eq_true, if_false]
    split <;> rfl

/-- Otherwise a hand-over moves the starve timer (R124). -/
theorem winchHandOver_of_driving {s : State} (hw : roleIs s .winch = true) (hrun : inRun s = true)
    (h : s.winch.state = .haul ∨ s.winch.state = .payout) : winchHandOver s = { s with winch := { s.winch with
      starveTimer := (if tierGrant s < winchMinimum s then some (s.winch.starveTimer.getD 100) else none) } } := by
  obtain h | h := h <;> simp [winchHandOver, hw, hrun, h, starveRule, State.setWinch]

end Sys2Proof.Machine

open Sys2Proof Sys2Proof.Machine

/-- Settles O47: every change of winch state is one entry, which the record, the bridge and the ramp show; the reaction is
one evaluation of the command where no lock condition and no hold-off stand. -/
theorem stallAndStarve : Obligations.StallAndStarve := by
  refine ⟨fun s hw hrun hdriving => ⟨fun htimer => ?_, fun htimer => ?_⟩, fun s hw hrun => ?_⟩
  · have hrun' : inRun s = true := beq_iff_eq.2 hrun
    have hexec : exec .stallTimerExpiry s = .next (stallExpired s) := live_of_not_halt (by rw [hrun]; decide) _
    have hframe := ((stallExpired_changes s).mono (by decide : _ ⊆ [.winch, .mode, .conditions, .isolated, .faults,
      .startTimer, .stationTimer, .commit, .working, .log, .bridge, .lamp, .port, .records, .winchRecord])).eq
    let u := record .winchStall (BitVec.ofInt 16 s.winch.position) <|
      setFaults { s.ctl.faults with winchStall := true } <|
        s.setWinch { s.winch with stallCount := satSucc 255 s.winch.stallCount }
    have heq : stallExpired s = enterWinch .stalled u := if_pos (by
      obtain h | h := hdriving <;> simp [hw, hrun', htimer, h])
    have hne : WinchState.stalled ≠ u.winch.state := by
      show WinchState.stalled ≠ s.winch.state
      obtain h | h := hdriving <;> rw [h] <;> decide
    have hctl : (enterWinch .stalled u).ctl = u.ctl := by simp
    have hlog : (enterWinch .stalled u).log = u.log := by simp
    have hstate : (enterWinch .stalled u).winch.state = .stalled := enterWinch_state .stalled u
    obtain ⟨-, -, -, -, -, hcount, -⟩ := enterWinch_kept .stalled u
    have htimerT : (enterWinch .stalled u).winch.stallTimer = none := by
      rw [enterWinch_winch hne]
      exact (enteredWinch_timers .stalled u).1
    have hdrives := (enterWinch_drive (s := u) hw hne).1.still (by decide) (by decide)
    have hrecord := enterWinch_record hne
    rw [heq] at hexec hframe
    generalize enterWinch .stalled u = t at *
    exact ⟨t, hexec, hframe, hstate, hcount, by rw [hctl]; rfl, by rw [hlog]; exact s.log.append_last _ _, htimerT,
      hdrives, hrecord⟩
  · have hrun' : inRun s = true := beq_iff_eq.2 hrun
    have hexec : exec .starveTimerExpiry s = .next (starveExpired s) := live_of_not_halt (by rw [hrun]; decide) _
    have hframe := ((starveExpired_changes s).mono
      (by decide : _ ⊆ [.winch, .bridge, .lamp, .port, .records, .winchRecord])).eq
    have heq : starveExpired s = enterWinch .starved s := if_pos (by
      obtain h | h := hdriving <;> simp [hw, hrun', htimer, h])
    have hne : WinchState.starved ≠ s.winch.state := by
      obtain h | h := hdriving <;> rw [h] <;> decide
    have hstate : (enterWinch .starved s).winch.state = .starved := enterWinch_state .starved s
    have hwinch := enterWinch_winch hne
    have hfrom := (enteredWinch_timers .starved s).2.2
    have hdrives := (enterWinch_drive hw hne).1.still (by decide) (by decide)
    have hrecord := enterWinch_record hne
    rw [heq] at hexec hframe
    rw [← hwinch] at hfrom
    have hstopped : (enterWinch .starved s).winch.starveTimer = none := by
      rw [hwinch]
      rfl
    generalize enterWinch .starved s = t at *
    exact ⟨t, hexec, hframe, hstate, hfrom, hstopped, hdrives, hrecord⟩
  · have hrun' : inRun s = true := beq_iff_eq.2 hrun
    have hend : (if s.winch.homed = true ∧ lineMax s ≤ s.winch.position then WinchState.endOut else .payout) =
        if atLineEnd s then .endOut else .payout := if_congr (atLineEnd_iff s).symm rfl rfl
    have hlock := lockCause_iff s
    dsimp only
    rw [hend, ← hlock]
    refine ⟨?_, ?_⟩
    · obtain ⟨hcommand, hlockT⟩ := winchReact_command true hw hrun'
      obtain ⟨hinward, houtward⟩ := effectiveCommand_iff hrun'
      have hlocks := winchReact_locks hw hrun'
      have hunlocks := fun h => winchReact_unlocks hw hrun' (Bool.eq_false_iff.2 h)
      have hholds := fun h => winchReact_holdOff hw hrun' (Bool.eq_false_iff.2 h)
      have hevaluates := fun h => winchReact_evaluates hw hrun' (Bool.eq_false_iff.2 h)
      have htable := fun hoff hlatched => evaluatedState_of_free (s := winchRead s) hoff hlatched
      have hentered := winchReact_entered true hw
      generalize winchReact true s = t at *
      rw [hcommand]
      refine ⟨hinward, houtward, by rw [hlockT], hlocks, hunlocks, fun hs hoff htripped hfree =>
        hholds hfree hs hoff htripped, fun hfree hbefore hoff hlatched => ?_, fun hnew => ?_⟩
      · rw [hevaluates hfree hbefore hoff]
        exact htable hoff hlatched
      · obtain ⟨hrecord, hstill, hramp⟩ := hentered hnew
        exact ⟨hrecord, hstill, hramp⟩
    · obtain ⟨hhaul, hpayout, hfromHaul, hfromPayout⟩ := tierGrant_of_winch hw
      refine ⟨fun hs henough => ?_, fun hs hless hfrom => ?_, fun hs => ?_⟩
      · have hnot : s.winch.state ≠ .haul := by rw [hs]; decide
        have hreturn := (winchHandOver_of_starved hw hrun' hs).1
        refine ⟨fun hfrom hcommand => ?_, fun hfrom hcommand => ?_⟩
        · rw [if_pos (.inr ⟨hs, hfrom⟩), ← hfromHaul hs hfrom] at henough
          exact (hreturn henough).1 hfrom hcommand
        · rw [if_neg (by simp [hs, hfrom]), ← hfromPayout hs hfrom] at henough
          exact (hreturn henough).2 hfrom hcommand
      · refine (winchHandOver_of_starved hw hrun' hs).2 ?_
        obtain hfrom | hfrom := hfrom
        · rw [if_pos (.inr ⟨hs, hfrom⟩), ← hfromHaul hs hfrom] at hless
          exact hless
        · rw [if_neg (by simp [hs, hfrom]), ← hfromPayout hs hfrom] at hless
          exact hless
      · have hgrant : (if s.winch.state = .haul ∨ (s.winch.state = .starved ∧ s.winch.starvedFrom = some .haul) then
            s.share.grants.a else s.share.grants.b) = tierGrant s := by
          obtain hs | hs := hs
          · rw [if_pos (.inl hs), hhaul hs]
          · rw [if_neg (by simp [hs]), hpayout hs]
        rw [hgrant]
        exact winchHandOver_of_driving hw hrun' hs
end

section
/-! The WINCH published at the WINCH timer's expiry (O48). -/

namespace Sys2Proof.Machine

/-- The period of the WINCH record (R129). -/
theorem recordPeriod_eq (w : WinchState) :
    recordPeriod w = if w = .hold ∨ w = .endIn ∨ w = .endOut then 100 else 20 := by
  cases w <;> rfl

/-- The record a WINCH frame gives its own station (R129, section 11.2). -/
theorem readWinch_winchData (s : State) : ∃ flags : Byte, readWinch (winchData s) =
    ⟨true, some .winch, 0, .fresh, s.winch.state.code, natByte s.winch.tension, BitVec.ofInt 16 s.winch.position, flags,
      natByte s.winch.stallCount⟩ ∧
      flags.getLsbD 7 = s.winch.homed ∧ flags.getLsbD 6 = (s.winch.state == .payout && !s.winch.homed) := by
  obtain ⟨h7, h6, -⟩ := bitsByte_bits s.winch.homed (unhomedLimited s) false false false false false false
  refine ⟨_, ?_, h7, h6⟩
  have hposition : half (byteAt (winchData s) 2) (byteAt (winchData s) 3) = BitVec.ofInt 16 s.winch.position :=
    half_bytes2 (BitVec.ofInt 16 s.winch.position)
  rw [readWinch, hposition]
  rfl

end Sys2Proof.Machine

open Sys2Proof Sys2Proof.Machine

/-- Settles O48: the frame queued is read back as the station's own record. -/
theorem winchPublished : Obligations.WinchPublished := by
  intro s hw hrun htimer
  have hexec : exec .winchTimerExpiry s = .next (winchTimerExpired s) := live_of_not_halt (by rw [hrun]; decide) _
  have heq : winchTimerExpired s = publishWinch s := if_pos (by simp [hw, inRun, hrun, htimer])
  rw [heq] at hexec
  have hframe := ((publishWinch_changes s).mono (by decide : _ ⊆ [.winch, .port, .records, .winchRecord])).eq
  obtain ⟨flags, hread, h7, h6⟩ := readWinch_winchData s
  refine ⟨_, hexec, hframe, ?_, ⟨flags, ?_, h7, h6⟩, fun hready => ?_⟩
  · rw [publishWinch_winch, recordPeriod_eq]
  · rw [publishWinch_latest, hread]
  · exact queueFrame_port (s := s.setWinch { s.winch with recordTimer := some (recordPeriod s.winch.state) }) hready
      .winch (winchData s)
end

section
/-! The blink timebase and the fade (O49). -/

namespace Sys2Proof.Machine

/-- A blinking output is dark in the off-phase (R139). -/
theorem effectiveTarget_of_offPhase {s : State} {n : Nat} (hblink : blinkFunction (functionOf s n) = true)
    (hoff : onPhase s.lamp.phase = false) (base : Nat) (shed : Bool) : effectiveTarget s n base shed = 0 := by
  unfold effectiveTarget
  rw [hblink, hoff]
  split
  · rfl
  · cases shed <;> dsimp only <;> split <;> simp

theorem refreshEffective_lampAt (s : State) {n : Nat} (hn : n < 8) : lampAt (refreshEffective s) n =
    { lampAt s n with effective := effectiveTarget s n (lampAt s n).base (lampAt s n).shed } := by
  rw [lampAt, refreshEffective, State.setLamp_lamp, getD_tab, if_pos hn]

/-- A step of the phase (R137). -/
theorem blinkStepped_lamp (s : State) : (blinkStepped s).lamp.phase = (s.lamp.phase + 1) % 256 ∧
    (blinkStepped s).lamp.blinkTimer = some 3 ∧ (blinkStepped s).lamp.cues = s.lamp.cues ∧
    (blinkStepped s).lamp.wantK = s.lamp.wantK ∧ (blinkStepped s).lamp.wantC = s.lamp.wantC := by
  unfold blinkStepped setPhase
  dsimp only
  split <;> exact ⟨rfl, rfl, rfl, rfl, rfl⟩

/-- At the start of the off-phase the effective targets are recomputed (R137). -/
theorem blinkStepped_offPhase {s : State} (h : s.lamp.phase = 127) {n : Nat} (hn : n < 8)
    (hblink : blinkFunction (functionOf s n) = true) : (lampAt (blinkStepped s) n).effective = 0 := by
  let u := s.setLamp { s.lamp with blinkTimer := some 3, phase := 128 }
  have hrefresh : blinkStepped s = refreshEffective u := by
    unfold blinkStepped setPhase
    rw [h, if_neg]
    · rfl
    · simp [onPhase, h]
  rw [hrefresh, refreshEffective_lampAt _ hn]
  exact effectiveTarget_of_offPhase (s := u) hblink (show onPhase 128 = false by decide) _ _

/-- A level after a fade step (R140). -/
theorem fadeLevel_spec (step level target : Nat) :
    (level + step < target → fadeLevel step level target = level + step) ∧
      (target + step < level → fadeLevel step level target = level - step) ∧
      (level ≤ target + step → target ≤ level + step → fadeLevel step level target = target) := by
  unfold fadeLevel
  split_ifs <;> omega

theorem fadeAll_lampAt (s : State) {n : Nat} (hn : n < 8) : lampAt (fadeAll s) n =
    { lampAt s n with level := fadeLevel (fadeStep s) (lampAt s n).level (lampAt s n).effective } := by
  rw [lampAt, fadeAll, State.setLamp_lamp, getD_tab, if_pos hn]

end Sys2Proof.Machine

open Sys2Proof Sys2Proof.Machine

/-- Settles O49: the phase recomputes the effective targets at the off-phase, the fade moves each level. -/
theorem blinkAndFade : Obligations.BlinkAndFade := by
  intro s hlive
  refine ⟨fun hphase => ?_, fun hrun htimer => ?_⟩
  · have hexec : exec .blinkStep s = .next (blinkStepped s) := live_of_not_halt hlive _
    have hframe := (blinkStepped_changes s).eq
    obtain ⟨hnext, htimer, hcues, hwantK, hwantC⟩ := blinkStepped_lamp s
    refine ⟨_, hexec, hframe, hnext.trans ?_, htimer, hcues, hwantK, hwantC, fun h n hn hblink =>
      blinkStepped_offPhase h hn hblink⟩
    split_ifs <;> omega
  · have hexec : exec .fadeTimerExpiry s = .next (fadeExpired s) := live_of_not_halt hlive _
    have heq : fadeExpired s = fadeAll (s.setLamp { s.lamp with fadeTimer := some 4 }) :=
      if_pos (by simp [inRun, hrun, htimer])
    rw [heq] at hexec
    refine ⟨_, hexec, rfl, rfl, fun n hn => ?_⟩
    rw [fadeAll_lampAt _ hn]
    exact ⟨rfl, fadeLevel_spec (fadeStep s) (lampAt s n).level (lampAt s n).effective⟩
end

section
/-! The lamp loads after a hand-over (O50): the shed set and the rank-0 scale keep them within grants C and K. -/

namespace Sys2Proof.Machine

/-! ### Loads (R141) -/

/-- A load in qA lies within a grant where the sum lies within 63750 of each qA. -/
theorem loadToQa_le_iff (sum grant : Nat) : loadToQa sum ≤ grant ↔ sum ≤ 63750 * grant := by
  unfold loadToQa ceilDiv
  omega

/-- A sum of loads stays below another where each output's load does. -/
theorem loadSum_mono {s t : State} {counts counts' : Nat → Bool} {target target' : Nat → Nat}
    (h : ∀ n, n < 8 → (if counts n then nominalOf s n * target n else 0) ≤
      if counts' n then nominalOf t n * target' n else 0) :
    loadSum s counts target ≤ loadSum t counts' target' :=
  List.sum_le_sum fun n hn => h n (List.mem_range.1 hn)

theorem loadSum_eq_zero {s : State} {counts : Nat → Bool} {target : Nat → Nat}
    (h : ∀ n, n < 8 → counts n = true → nominalOf s n * target n = 0) : loadSum s counts target = 0 := by
  refine List.sum_eq_zero fun x hx => ?_
  obtain ⟨n, hn, rfl⟩ := List.mem_map.1 hx
  split
  · next hc => exact h n (List.mem_range.1 hn) hc
  · rfl

/-- A sum of loads, each scaled by `grant` over `want`, is scaled with them (R143). -/
theorem loadSum_scaled {s : State} {counts : Nat → Bool} {base target : Nat → Nat} {grant want : Nat}
    (h : ∀ n, n < 8 → counts n = true → nominalOf s n * target n * want ≤ nominalOf s n * base n * grant) :
    loadSum s counts target * want ≤ loadSum s counts base * grant := by
  unfold loadSum
  rw [← List.sum_map_mul_right, ← List.sum_map_mul_right]
  refine List.sum_le_sum fun n hn => ?_
  split
  · next hc => exact h n (List.mem_range.1 hn) hc
  · simp

/-! ### The shed set (R142) -/

/-- The Rank of an output lies in 0 to 7 where the settings are valid (R132). -/
theorem rankOf_le {s : State} (hs : settingsSafe s = true) {n : Nat} (hn : n < 8) : rankOf s n ≤ 7 := by
  obtain ⟨hvalid, -⟩ := (settingsSafe_iff s).1 hs
  obtain ⟨-, hadmit, -⟩ := (settingsValid_iff _).1 hvalid
  have hrow : ∀ k < 8, (⟨113 + 3 * k, 0, 7, 7⟩ : SettingRow) ∈ settingRows := by decide
  obtain ⟨-, hhigh⟩ := SettingRow.admits_iff.1 (hadmit _ (hrow n hn))
  have hcfg : cfg s (113 + 3 * n) ≤ 7 := hhigh
  unfold rankOf cfgN
  omega

/-- The shedding order names every lit lamp of Rank 1 to 7 with a Nominal (R142). -/
theorem mem_shedOrder {s : State} {n : Nat} (hn : n < 8) (hrank : 1 ≤ rankOf s n) (hrank' : rankOf s n ≤ 7)
    (hlit : 0 < (lampAt s n).base) (hnominal : 0 < nominalOf s n) : n ∈ shedOrder s := by
  refine List.mem_flatMap.2 ⟨rankOf s n, ?_, List.mem_filter.2 ⟨?_, by simp [hlit, hnominal]⟩⟩
  · generalize rankOf s n = r at hrank hrank'
    interval_cases r <;> decide
  · interval_cases n <;> decide

/-- Shedding ends where the unshed want fits the grant, or with the whole order shed (R142). -/
theorem shedUntil_spec (s : State) (grant : Nat) (order shed : List Nat) :
    (∀ n ∈ shed, n ∈ shedUntil s grant order shed) ∧
      (unshedWant s (shedUntil s grant order shed) ≤ grant ∨ ∀ n ∈ order, n ∈ shedUntil s grant order shed) := by
  induction order generalizing shed with
  | nil => exact ⟨fun _ h => h, .inr fun _ h => absurd h (List.not_mem_nil)⟩
  | cons k rest ih =>
    unfold shedUntil
    split
    · next hfits => exact ⟨fun _ h => h, .inl hfits⟩
    · obtain ⟨hkept, hends⟩ := ih (k :: shed)
      refine ⟨fun n hn => hkept n (List.mem_cons_of_mem _ hn), hends.imp_right fun hall n hn => ?_⟩
      obtain rfl | hrest := List.mem_cons.1 hn
      · exact hkept n List.mem_cons_self
      · exact hall n hrest

/-- The shed set brings the unshed want within the grant (R142). -/
theorem unshedWant_shedSet {s : State} (hs : settingsSafe s = true)
    (hwant : s.lamp.wantC = lampWantC s (fun n => (lampAt s n).base)) (grant : Nat) :
    unshedWant s (shedSet s grant) ≤ grant := by
  unfold shedSet
  split
  · next hfits =>
    have hnone : unshedWant s [] = s.lamp.wantC := by
      rw [hwant]
      simp [unshedWant, lampWantC]
    rw [hnone]
    exact hfits
  · obtain ⟨-, hfits | hall⟩ := shedUntil_spec s grant (shedOrder s) []
    · exact hfits
    · have hzero : unshedWant s (shedUntil s grant (shedOrder s) []) = 0 := by
        refine Nat.le_zero.1 ((loadToQa_le_iff _ 0).2 (Nat.le_of_eq (loadSum_eq_zero fun n hn hcounts => ?_)))
        rw [Bool.and_eq_true, Bool.not_eq_true', Bool.not_eq_true', inTierK, beq_eq_false_iff_ne] at hcounts
        obtain ⟨hrank, hshed⟩ := hcounts
        by_contra hload
        obtain ⟨hnominal, hlit⟩ := Nat.mul_ne_zero_iff.1 hload
        have hmem := hall n (mem_shedOrder hn (Nat.pos_of_ne_zero hrank) (rankOf_le hs hn) (Nat.pos_of_ne_zero hlit)
          (Nat.pos_of_ne_zero hnominal))
        exact absurd (hshed.symm.trans (List.contains_iff_mem.2 hmem)) (by decide)
      rw [hzero]
      exact Nat.zero_le _

/-! ### The lamps after a hand-over (R139, R142, R143) -/

/-- The rank-0 scale a hand-over sets (R143). -/
def handedScale (g : Tiers) (s : State) : Option (Nat × Nat) :=
  if g.k < s.lamp.wantK then some (g.k, s.lamp.wantK) else none

/-- The state in which a hand-over recomputes the effective targets. -/
def handedOver (g : Tiers) (s : State) : State :=
  s.setLamp { s.lamp with
    lamps := tab 8 fun n => { lampAt s n with shed := (shedSet s g.c).contains n }
    scale := handedScale g s }

theorem lampHandOver_eq (g : Tiers) (s : State) : lampHandOver g s = refreshEffective (handedOver g s) := rfl

/-- A lamp after a hand-over (R142, R143). -/
theorem lampHandOver_lampAt (g : Tiers) (s : State) {n : Nat} (hn : n < 8) :
    (lampAt (lampHandOver g s) n).base = (lampAt s n).base ∧
      (lampAt (lampHandOver g s) n).shed = (shedSet s g.c).contains n ∧
      (lampAt (lampHandOver g s) n).effective =
        effectiveTarget (handedOver g s) n (lampAt s n).base ((shedSet s g.c).contains n) := by
  have hat : lampAt (handedOver g s) n = { lampAt s n with shed := (shedSet s g.c).contains n } := by
    rw [lampAt, handedOver, State.setLamp_lamp, getD_tab, if_pos hn]
  rw [lampHandOver_eq, refreshEffective_lampAt _ hn, hat]
  exact ⟨rfl, rfl, rfl⟩

/-- Before the scale no lamp passes its base target (R139). -/
theorem unscaled_le (s : State) (n base : Nat) (shed : Bool) :
    (if shed then 0 else if blinkFunction (functionOf s n) && !onPhase s.lamp.phase then 0 else base) ≤ base := by
  cases shed <;> cases blinkFunction (functionOf s n) && !onPhase s.lamp.phase <;> simp

/-- A shed lamp is dark, and no lamp but a scaled one passes its base target (R139). -/
theorem effectiveTarget_le (s : State) (n base : Nat) (shed : Bool) :
    (shed = true → effectiveTarget s n base shed = 0) ∧
      (rankOf s n ≠ 0 ∨ s.lamp.scale = none → effectiveTarget s n base shed ≤ base) := by
  have hlit := unscaled_le s n base shed
  unfold effectiveTarget
  refine ⟨fun hshed => ?_, fun hfree => ?_⟩
  · rw [hshed]
    split
    · rfl
    · dsimp only
      split <;> simp
  · split
    · exact Nat.zero_le _
    · dsimp only
      split
      · next grant want hscale =>
        have hrank : rankOf s n ≠ 0 := hfree.resolve_right (by simp [hscale])
        rw [if_neg fun h => hrank h.1]
        exact hlit
      · exact hlit

/-- A rank-0 lamp with a Nominal is scaled by the grant over the want (R143). -/
theorem effectiveTarget_scaled {s : State} {n base grant want : Nat} {shed : Bool}
    (hscale : s.lamp.scale = some (grant, want)) (hrank : rankOf s n = 0) (hnominal : 0 < nominalOf s n) :
    effectiveTarget s n base shed ≤ base * grant / want := by
  have hlit := unscaled_le s n base shed
  unfold effectiveTarget
  split
  · exact Nat.zero_le _
  · simp only [hscale, hrank, hnominal, and_self, if_true]
    exact Nat.div_le_div_right (Nat.mul_le_mul_right _ hlit)

end Sys2Proof.Machine

open Sys2Proof Sys2Proof.Machine

/-- Settles O50: the shed set answers for grant C, the rank-0 scale for grant K. -/
theorem lampLoadsWithinGrants : Obligations.LampLoadsWithinGrants := by
  intro s g hs hwantC hwantK
  have hunshed := unshedWant_shedSet hs hwantC g.c
  have hbase := fun n (hn : n < 8) => (lampHandOver_lampAt g s hn).1
  have hshed := fun n (hn : n < 8) => (lampHandOver_lampAt g s hn).2.1
  have heffective := fun n (hn : n < 8) => (lampHandOver_lampAt g s hn).2.2
  have hsettings : ∀ n, nominalOf (lampHandOver g s) n = nominalOf s n ∧
      inTierK (lampHandOver g s) n = inTierK s n := fun _ => ⟨rfl, rfl⟩
  rw [unshedWant, loadToQa_le_iff] at hunshed
  refine ⟨?_, ?_, ?_⟩
  · rw [unshedWant, loadToQa_le_iff]
    refine (loadSum_mono fun n hn => Nat.le_of_eq ?_).trans hunshed
    have hcontains : ((List.range 8).filter fun n => (lampAt (lampHandOver g s) n).shed).contains n =
        (shedSet s g.c).contains n := by
      rw [Bool.eq_iff_iff, List.contains_iff_mem, List.mem_filter, List.mem_range, hshed n hn]
      exact and_iff_right hn
    rw [hcontains, hbase n hn]
    rfl
  · rw [loadToQa_le_iff]
    refine (loadSum_mono fun n hn => ?_).trans hunshed
    rw [heffective n hn]
    obtain ⟨hdark, hlit⟩ := effectiveTarget_le (handedOver g s) n (lampAt s n).base ((shedSet s g.c).contains n)
    cases htier : inTierK s n with
    | true => simp
    | false =>
      have hrank : rankOf (handedOver g s) n ≠ 0 := beq_eq_false_iff_ne.1 htier
      cases hcontains : (shedSet s g.c).contains n with
      | true =>
        rw [hcontains] at hdark
        rw [hdark rfl]
        simp
      | false =>
        rw [hcontains] at hlit
        simpa [htier] using Nat.mul_le_mul_left (nominalOf s n) (hlit (.inl hrank))
  · have hload : loadSum s (inTierK s) (fun n => (lampAt s n).base) ≤ 63750 * s.lamp.wantK :=
      (loadToQa_le_iff _ _).1 (Nat.le_of_eq hwantK.symm)
    rw [loadToQa_le_iff]
    by_cases hless : g.k < s.lamp.wantK
    · have hscale : (handedOver g s).lamp.scale = some (g.k, s.lamp.wantK) := if_pos hless
      have hscaled : loadSum s (inTierK s) (fun n => (lampAt (lampHandOver g s) n).effective) * s.lamp.wantK ≤
          loadSum s (inTierK s) (fun n => (lampAt s n).base) * g.k := by
        refine loadSum_scaled fun n hn htier => ?_
        rw [heffective n hn]
        by_cases hnominal : nominalOf s n = 0
        · simp [hnominal]
        · have htarget := effectiveTarget_scaled (shed := (shedSet s g.c).contains n) (base := (lampAt s n).base) hscale
            (beq_iff_eq.1 htier) (Nat.pos_of_ne_zero hnominal)
          calc nominalOf s n * effectiveTarget (handedOver g s) n (lampAt s n).base ((shedSet s g.c).contains n) *
                s.lamp.wantK
              ≤ nominalOf s n * ((lampAt s n).base * g.k / s.lamp.wantK) * s.lamp.wantK :=
                Nat.mul_le_mul_right _ (Nat.mul_le_mul_left _ htarget)
            _ = nominalOf s n * ((lampAt s n).base * g.k / s.lamp.wantK * s.lamp.wantK) := Nat.mul_assoc _ _ _
            _ ≤ nominalOf s n * ((lampAt s n).base * g.k) := Nat.mul_le_mul_left _ (Nat.div_mul_le_self _ _)
            _ = nominalOf s n * (lampAt s n).base * g.k := (Nat.mul_assoc _ _ _).symm
      have hwant : 0 < s.lamp.wantK := by omega
      have hbound : loadSum s (inTierK s) (fun n => (lampAt (lampHandOver g s) n).effective) * s.lamp.wantK ≤
          63750 * g.k * s.lamp.wantK :=
        calc _ ≤ loadSum s (inTierK s) (fun n => (lampAt s n).base) * g.k := hscaled
          _ ≤ 63750 * s.lamp.wantK * g.k := Nat.mul_le_mul_right _ hload
          _ = 63750 * g.k * s.lamp.wantK := Nat.mul_right_comm _ _ _
      exact Nat.le_of_mul_le_mul_right hbound hwant
    · have hscale : (handedOver g s).lamp.scale = none := if_neg hless
      refine ((loadSum_mono fun n hn => ?_).trans hload).trans (Nat.mul_le_mul_left _ (Nat.not_lt.1 hless))
      rw [heffective n hn]
      have hlit := (effectiveTarget_le (handedOver g s) n (lampAt s n).base ((shedSet s g.c).contains n)).2 (.inr hscale)
      cases htier : inTierK s n with
      | true => simpa using Nat.mul_le_mul_left (nominalOf s n) hlit
      | false => simp
end

section
/-! The bus seen from a port that does not send (O51). -/

namespace Sys2Proof.Machine

/-- The frame that is sent first has the lowest identifier of those queued (R160). -/
theorem Slots.first_lowest {q : Slots} {topic : TxTopic} {d : List Byte} (h : q.first = some (topic, d)) (u : TxTopic)
    (hu : (q.at u).isSome = true) : topic.first.toNat ≤ u.first.toNat := by
  have horder : topicOrder.Pairwise fun a b => a.first.toNat ≤ b.first.toNat := by decide
  obtain ⟨before, a, after, hlist, ha, hnone⟩ := List.findSome?_eq_some_iff.1 h
  obtain ⟨data, -, hpair⟩ := Option.map_eq_some_iff.1 ha
  obtain rfl : a = topic := congrArg Prod.fst hpair
  have hmem : u ∈ before ++ a :: after := by
    rw [← hlist]
    cases u <;> decide
  rw [hlist] at horder
  obtain hbefore | hrest := List.mem_append.1 hmem
  · have hempty := hnone u hbefore
    rw [Option.map_eq_none_iff] at hempty
    rw [hempty] at hu
    exact absurd hu (by decide)
  · obtain rfl | hafter := List.mem_cons.1 hrest
    · exact Nat.le_refl _
    · exact (List.pairwise_cons.1 (List.pairwise_append.1 horder).2.1).1 u hafter

/-- A port that starts its Lead (R155, R160). -/
theorem startSend_setPort {s : State} {p : BusPort} {topic : TxTopic} {d : List Byte}
    (h : p.slots.first = some (topic, d)) : startSend (s.setPort p) = s.setPort { p with
      port := .send
      recessive := 0
      slots := p.slots.put topic none
      shift := some ⟨topic, d, wireBytes topic.first (BitVec.ofNat 4 (ownAddress s)) d, false⟩ } := by
  simp [startSend, h, ownAddress]

theorem startSend_setPort_of_empty {s : State} {p : BusPort} (h : p.slots.first = none) :
    startSend (s.setPort p) = s.setPort p := by
  simp [startSend, h]

theorem becameIdle_eq {s : State} (h : s.port.port = .waitIdle) : becameIdle s =
    startSend (s.setPort { s.port with recessive := 10, port := .idle, stuckCounted := false }) := by
  simp [becameIdle, h, countQuiet]

theorem leadBegins_eq {steps : Nat} {s : State} (h : s.port.port = .waitIdle ∨ s.port.port = .idle) :
    leadBegins steps s =
      if 8 ≤ min 10 (s.port.recessive + steps) ∧ queueFull s.port then
        startSend (s.setPort { s.port with port := .lead, recessive := 0, stuckCounted := false })
      else s.setPort { s.port with port := .lead, recessive := 0, stuckCounted := false } := by
  obtain h | h := h <;> simp [leadBegins, h, countQuiet]

end Sys2Proof.Machine

open Sys2Proof Sys2Proof.Machine

/-- Settles O51: every event of the bus ends in the port's table, and a Lead begins with the frame of lowest identifier. -/
theorem busEvents : Obligations.BusEvents := by
  intro s steps hlive
  have hbusIdle : exec .busIdle s = .next (becameIdle s) := live_of_not_halt hlive _
  have hjoin : exec (.joinWindow steps) s = .next (leadBegins steps s) := live_of_not_halt hlive _
  refine ⟨fun hport => ?_, fun hport hport' => ?_, fun hport hempty => ?_, ⟨?_, ?_⟩, ?_⟩
  · have hexec : exec .lineStuck s = .next (lineStuck s) := live_of_not_halt hlive _
    rw [hexec, lineStuck, if_neg (by simpa using hport)]
    cases hcounted : s.port.stuckCounted <;> simp [countStuck, satSucc, State.setPort]
  · have hexec : exec .shortDominantRun s = .next (shortRun s) := live_of_not_halt hlive _
    rw [hexec, shortRun, if_neg (by simp [hport, hport'])]
    rfl
  · rw [hbusIdle, becameIdle_eq hport, startSend_setPort_of_empty]
    · rfl
    · exact hempty
  · intro hport hno
    have hnot : ¬ (8 ≤ min 10 (s.port.recessive + steps) ∧ queueFull s.port = true) := by
      rintro ⟨hcount, hfull⟩
      obtain hless | hempty := hno
      · exact absurd hcount (Nat.not_le.2 hless)
      · rw [queueFull, hempty] at hfull
        exact absurd hfull (by decide)
    rw [hjoin, leadBegins_eq hport, if_neg hnot]
    rfl
  · rintro topic d c hfirst (⟨rfl, hport⟩ | ⟨rfl, hcount, hport⟩)
    · rw [hbusIdle, becameIdle_eq hport, startSend_setPort (topic := topic) (d := d)]
      · exact ⟨_, rfl, rfl, rfl, rfl, rfl, rfl, Slots.first_lowest hfirst⟩
      · exact hfirst
    · rw [hjoin, leadBegins_eq hport, if_pos ⟨hcount, by rw [queueFull, hfirst]; rfl⟩,
        startSend_setPort (topic := topic) (d := d)]
      · exact ⟨_, rfl, rfl, rfl, rfl, rfl, rfl, Slots.first_lowest hfirst⟩
      · exact hfirst
  · have hticked : (advance s).port = tickPort s.ticks s.port := rfl
    obtain ⟨honly, hstays, hcounts⟩ := tickPort_spec s.ticks s.port
    dsimp only
    rw [hticked]
    refine ⟨honly, hstays, fun hport hfree => ?_⟩
    obtain ⟨hpos, hzero⟩ := hcounts hport hfree
    refine ⟨hpos, hzero, ?_⟩
    have hport' : (tickPort s.ticks s.port).port = .waitIdle := by
      rw [honly]
      exact hport
    show ((tickPort s.ticks s.port).port == .waitIdle && (tickPort s.ticks s.port).recessive == 10) = true ↔ _
    simp [hport']
end

section
/-! The station's own frame leaves the shift buffer (O52). -/

namespace Sys2Proof.Machine

/-- The copy in the shift buffer handed back (R161). -/
theorem handBack_eq {p : BusPort} {b : Shift} (h : p.shift = some b) :
    handBack p = { p with
      shift := none
      slots := if (p.slots.at b.topic).isSome || b.withdrawn then p.slots else p.slots.put b.topic (some b.data) } := by
  simp only [handBack, h]
  split <;> rfl

theorem paceGood_iff (span : Nat) : paceGood span = true ↔ 3400 ≤ span ∧ span ≤ 4600 := by
  simp [paceGood]

/-! ### The four ways (R149, R154, R157, R158) -/

/-- The port with the pace span that the sender measured (R148). -/
def spanKept (how : SendEnd) (p : BusPort) : BusPort := { p with paceSpan := (ownSpan how).getD p.paceSpan }

section
variable {s : State} {b : Shift} (hport : s.port.port = .send) (hshift : s.port.shift = some b)
include hport hshift

/-- A pace error of the sender's own ends the frame as a bit collision (R149). -/
theorem sendEnded_of_badPace {how : SendEnd} (h : ownPaceGood how = false) :
    sendEnded how s = s.setPort (collided (spanKept how s.port)) := by
  simp [sendEnded, hport, hshift, h, spanKept]

theorem sendEnded_complete {span : Nat} (heard mark : Bool) (h : paceGood span = true) :
    sendEnded (.complete span heard mark) s =
      frameComplete heard mark (s.setPort (spanKept (.complete span heard mark) s.port)) := by
  simp [sendEnded, hport, hshift, ownPaceGood, ownSpan, h, spanKept]

theorem sendEnded_lostArbitration {span : Nat} (h : paceGood span = true) :
    sendEnded (.lostArbitration span) s = s.setPort { handBack (spanKept (.lostArbitration span) s.port) with
      port := .receive, recessive := 0, lostArbitrations := satSucc 255 s.port.lostArbitrations } := by
  simp [sendEnded, hport, hshift, ownPaceGood, ownSpan, h, spanKept]

theorem sendEnded_bitCollision (span : Option Nat) :
    sendEnded (.bitCollision span) s = s.setPort (collided (spanKept (.bitCollision span) s.port)) := by
  simp [sendEnded, hport, hshift, spanKept]

theorem sendEnded_stuck :
    sendEnded .stuck s = s.setPort { countStuck (handBack (spanKept .stuck s.port)) with
      port := .waitIdle, recessive := 0, stuckCounted := true } := by
  simp [sendEnded, hport, hshift, ownPaceGood, ownSpan, spanKept]

end

/-! ### A frame that is abandoned (R158, R161) -/

/-- The frame is abandoned: only the port changes, and the copy is handed back. -/
def Abandoned (s : State) (b : Shift) (t : State) : Prop :=
  t = { s with port := t.port } ∧ t.port.unheard = s.port.unheard ∧
    t.port.slots = (if (s.port.slots.at b.topic).isSome || b.withdrawn then s.port.slots
      else s.port.slots.put b.topic (some b.data))

/-- The frame ends in a bit collision. -/
def Collides (s : State) (b : Shift) (t : State) : Prop :=
  Abandoned s b t ∧ t.port.port = .waitIdle ∧ t.port.recessive = 0 ∧
    t.port.collisions = min (s.port.collisions + 1) 255 ∧ t.port.lostArbitrations = s.port.lostArbitrations ∧
    t.port.rxErrors = s.port.rxErrors

/-- A port whose copy is handed back is that of an abandoned frame, whatever its state and its counts. -/
theorem abandoned_of_slots {s : State} {b : Shift} {how : SendEnd} {p : BusPort} (h : s.port.shift = some b)
    (hunheard : p.unheard = (handBack (spanKept how s.port)).unheard)
    (hslots : p.slots = (handBack (spanKept how s.port)).slots) : Abandoned s b (s.setPort p) := by
  have hback := handBack_eq (p := spanKept how s.port) h
  refine ⟨rfl, hunheard.trans (by rw [hback]; rfl), hslots.trans (by rw [hback]; rfl)⟩

/-- What a frame handed back leaves at the port (R161). -/
theorem handBack_spanKept {p : BusPort} {b : Shift} (how : SendEnd) (h : p.shift = some b) :
    let q := handBack (spanKept how p)
    q.shift = none ∧ q.paceSpan = (ownSpan how).getD p.paceSpan ∧ q.collisions = p.collisions ∧
      q.lostArbitrations = p.lostArbitrations ∧ q.rxErrors = p.rxErrors := by
  rw [handBack_eq (p := spanKept how p) h]
  exact ⟨rfl, rfl, rfl, rfl, rfl⟩

theorem collides_setPort {s : State} {b : Shift} (how : SendEnd) (h : s.port.shift = some b) :
    Collides s b (s.setPort (collided (spanKept how s.port))) := by
  obtain ⟨-, -, -, hlost, herrors⟩ := handBack_spanKept how h
  exact ⟨abandoned_of_slots (how := how) h rfl rfl, rfl, rfl, rfl, hlost, herrors⟩

/-! ### The port while the blocks react to an ISOLATED change (R9, R129) -/

/-- From port `p` to port `q` WINCH frames were queued and nothing else. -/
def WinchQueued (p q : BusPort) : Prop :=
  q = { p with slots := q.slots } ∧ ∀ u, u ≠ .winch → q.slots.at u = p.slots.at u

theorem evalIsolated_winchQueued {s : State} (h : s.port.port ≠ .idle) : WinchQueued s.port (evalIsolated s).port := by
  refine evalIsolated_queues s (WinchQueued s.port) (fun topic ht d u hu => ?_) ⟨rfl, fun _ _ => rfl⟩
  obtain rfl : topic = .winch := List.mem_singleton.1 ht
  obtain ⟨hq, hslots⟩ := hu
  have hbusy : u.port.port ≠ .idle := by rw [hq]; exact h
  rw [queueFrame_of_busy _ _ _ hbusy]
  refine ⟨?_, fun v hv => (Slots.at_put_of_ne _ _ hv).trans (hslots v hv)⟩
  exact congrArg (fun x => { x with slots := u.port.slots.put .winch (some d) }) hq

/-- Off WINCH, and where ISOLATED stays, the queue is left as it is. -/
theorem evalIsolated_port {s : State}
    (h : roleIs s .winch = false ∨ (evalIsolated s).ctl.isolated = s.ctl.isolated) :
    (evalIsolated s).port = s.port := by
  obtain ⟨-, he⟩ | ⟨-, hne, he⟩ := evalIsolated_cases s
  · rw [he]
  · obtain hrole | hsame := h
    · rw [he]
      exact demandReact_changes_of_not_winch false
        (s := (s.setCtl { s.ctl with isolated := s.port.isolation }).setLog _) hrole .port (by decide)
    · rw [he, demandReact_ctl, (evalConditions_kept _).2.2.2.1] at hsame
      exact absurd hsame.symm hne

/-- Where ISOLATED begins, FAILSAFE stands instead of DEMAND-HOLD, and the incident is recorded (R9, log 9). -/
theorem evalIsolated_of_begins {s : State} (hrun : inRun s = true) (hflag : s.port.isolation = true)
    (hctl : s.ctl.isolated = false) :
    (evalIsolated s).ctl.isolated = true ∧ (evalIsolated s).ctl.failsafe = true ∧
      (evalIsolated s).ctl.demandHold = false ∧ (evalIsolated s).log = s.log.append .isolated 0 := by
  obtain ⟨hno, -⟩ | ⟨-, -, he⟩ := evalIsolated_cases s
  · simp [hrun, hflag, hctl] at hno
  rw [hflag, if_pos rfl] at he
  have hfail : failsafeCause ((s.setCtl { s.ctl with isolated := true }).setLog (s.log.append .isolated 0)) = true := by
    simp [failsafeCause]
  have hrun' : inRun ((s.setCtl { s.ctl with isolated := true }).setLog (s.log.append .isolated 0)) = true := hrun
  refine ⟨?_, ?_, ?_, ?_⟩
  · rw [he, demandReact_ctl, (evalConditions_kept _).2.2.2.1]
    rfl
  · rw [he, demandReact_ctl, evalConditions_ctl, if_pos hrun']
    exact hfail
  · rw [he, demandReact_ctl, evalConditions_ctl, if_pos hrun']
    exact (congrArg (fun b => _ && !b) hfail).trans (Bool.and_false _)
  · rw [he]
    exact demandReact_changes false _ .log (by decide)

/-- A frame heard leaves the station not ISOLATED, and records nothing (R9). -/
theorem evalIsolated_of_heard {s : State} (hrun : inRun s = true) (hflag : s.port.isolation = false) :
    (evalIsolated s).ctl.isolated = false ∧ (evalIsolated s).log = s.log := by
  obtain ⟨hsame, he⟩ | ⟨-, -, he⟩ := evalIsolated_cases s
  · rw [he]
    refine ⟨?_, rfl⟩
    obtain h | h := hsame
    · exact absurd (h.symm.trans hrun) (by decide)
    · exact h.trans hflag
  · rw [hflag] at he
    refine ⟨?_, ?_⟩
    · rw [he, demandReact_ctl, (evalConditions_kept _).2.2.2.1]
      rfl
    · rw [he]
      exact demandReact_changes false _ .log (by decide)

/-- The port of a frame that is complete, before ISOLATED is evaluated (R9, R154). -/
def completedPort (heard : Bool) (p : BusPort) : BusPort :=
  { countHeard heard p with port := .waitIdle, recessive := 0, shift := none }

theorem frameComplete_eq (heard mark : Bool) (s : State) : frameComplete heard mark s =
    if mark then enterHalt (evalIsolated (s.setPort (completedPort heard s.port)))
    else evalIsolated (s.setPort (completedPort heard s.port)) := rfl

theorem completedPort_kept (heard : Bool) (p : BusPort) :
    (completedPort heard p).slots = p.slots ∧ (completedPort heard p).paceSpan = p.paceSpan ∧
      (completedPort heard p).unheard = (if heard then 0 else min 16 (p.unheard + 1)) := by
  cases heard <;> exact ⟨rfl, rfl, rfl⟩

/-- What a complete frame without a clash mark leaves at the port (R9, R154). -/
theorem frameComplete_port (heard : Bool) (s : State) :
    let t := frameComplete heard false s
    t.port = { completedPort heard s.port with slots := t.port.slots } ∧
      (∀ u, u ≠ .winch → t.port.slots.at u = s.port.slots.at u) ∧
      (roleIs s .winch = false ∨ t.ctl.isolated = s.ctl.isolated → t.port.slots = s.port.slots) := by
  have hbusy : (s.setPort (completedPort heard s.port)).port.port ≠ .idle := PortState.noConfusion
  obtain ⟨hport, hslots⟩ := evalIsolated_winchQueued hbusy
  obtain ⟨hkept, -, -⟩ := completedPort_kept heard s.port
  refine ⟨hport, fun u hu => (hslots u hu).trans (by rw [← hkept]; rfl), fun h => ?_⟩
  have hsame := evalIsolated_port (s := s.setPort (completedPort heard s.port)) h
  exact (congrArg BusPort.slots hsame).trans hkept

/-- What ISOLATED becomes in RUN with a complete frame (R9). -/
theorem frameComplete_isolated {s : State} (hrun : inRun s = true) :
    (s.port.unheard = 15 → s.ctl.isolated = false →
      let t := frameComplete false false s
      t.ctl.isolated = true ∧ t.ctl.failsafe = true ∧ t.ctl.demandHold = false ∧
        t.log = s.log.append .isolated 0) ∧
      (let t := frameComplete true false s
      t.ctl.isolated = false ∧ t.port.isolation = false ∧ t.log = s.log) := by
  refine ⟨fun hcount hclear => ?_, ?_⟩
  · have hnow : (completedPort false s.port).isolation = true := by simp [completedPort, countHeard, hcount]
    exact evalIsolated_of_begins (s := s.setPort (completedPort false s.port)) hrun hnow hclear
  · obtain ⟨hctl, hlog⟩ := evalIsolated_of_heard (s := s.setPort (completedPort true s.port)) hrun rfl
    obtain ⟨hport, -, -⟩ := frameComplete_port true s
    refine ⟨hctl, ?_, hlog⟩
    rw [hport]
    rfl

/-- What a complete frame with a clash mark leaves: HALT with the safe output set (R7, R159). -/
theorem frameComplete_mark (heard : Bool) (s : State) :
    let t := frameComplete heard true s
    t.ctl.station = .halt ∧ t.port.slots = {} ∧ t.port.port = .waitIdle ∧ t.port.shift = none ∧
      t.port.paceSpan = s.port.paceSpan ∧ Idle t := by
  let u := evalIsolated (s.setPort (completedPort heard s.port))
  have hu : frameComplete heard true s = enterHalt u := frameComplete_eq heard true s
  obtain ⟨-, -, -, -, -, -, -, -, hhalt, -⟩ := enterHalt_blocks u
  have hbusy : (s.setPort (completedPort heard s.port)).port.port ≠ .idle := PortState.noConfusion
  obtain ⟨hport, -⟩ := evalIsolated_winchQueued hbusy
  have hspan : u.port.paceSpan = s.port.paceSpan :=
    (congrArg BusPort.paceSpan hport).trans (completedPort_kept heard s.port).2.1
  have hstation : (enterHalt u).ctl.station = .halt := by rw [enterHalt_ctl]
  rw [hu]
  refine ⟨hstation, ?_, ?_, ?_, ?_, enterHalt_idle u⟩ <;> rw [hhalt]
  exacts [rfl, rfl, rfl, hspan]

end Sys2Proof.Machine

open Sys2Proof Sys2Proof.Machine

/-- Settles O52: by the way the frame ends, with a pace error of the sender's own ending it as a bit collision. -/
theorem frameLeavesShiftBuffer : Obligations.FrameLeavesShiftBuffer := by
  intro s b how hlive hport hshift
  have hexec : exec (.frameSendEnd how) s = .next (sendEnded how s) := live_of_not_halt hlive _
  have hcollides := collides_setPort how hshift
  obtain ⟨hempty, hspan, hcollisions, -, herrors⟩ := handBack_spanKept how hshift
  cases how with
  | complete span heard mark =>
    by_cases hgood : 3400 ≤ span ∧ span ≤ 4600
    · rw [sendEnded_complete hport hshift heard mark ((paceGood_iff span).2 hgood)] at hexec
      let a := s.setPort (spanKept (.complete span heard mark) s.port)
      cases mark with
      | false =>
        obtain ⟨hafter, hothers, hqueue⟩ := frameComplete_port heard a
        obtain ⟨-, hkept, hcount⟩ := completedPort_kept heard a.port
        have hisolated (hrun : s.ctl.station = .run) :=
          frameComplete_isolated (s := a) ((inRun_congr rfl).trans (show inRun s = true by simp [inRun, hrun]))
        refine ⟨_, hexec, congrArg BusPort.shift hafter, (congrArg BusPort.paceSpan hafter).trans hkept, nofun, nofun,
          nofun, fun _ _ _ h hbad => ?_, fun span' heard' h _ => ?_, nofun⟩
        · obtain ⟨rfl, -, -⟩ := SendEnd.complete.inj h
          exact absurd hgood hbad
        · obtain ⟨rfl, rfl, -⟩ := SendEnd.complete.inj h
          refine ⟨congrArg BusPort.port hafter, hothers, hqueue, (congrArg BusPort.unheard hafter).trans hcount,
            fun hrun hflag => ⟨?_, ?_⟩⟩
          · rintro rfl hcount hclear
            obtain ⟨hctl, hfail, hhold, hlog⟩ := (hisolated hrun).1 hcount hclear
            exact ⟨hctl, hfail, hhold, (congrArg (fun l => l.entries.getLast?) hlog).trans
              (s.log.append_last .isolated 0)⟩
          · rintro rfl
            exact (hisolated hrun).2
      | true =>
        obtain ⟨hhalt, hslots, hwait, hnone, hkept, hgates, hlamps, hservo, hclosed⟩ := frameComplete_mark heard a
        refine ⟨_, hexec, hnone, hkept, nofun, nofun, nofun, fun _ _ _ h hbad => ?_, nofun, fun _ _ _ _ =>
          ⟨hhalt, hslots, hwait, hgates, hlamps, hservo, hclosed⟩⟩
        obtain ⟨rfl, -, -⟩ := SendEnd.complete.inj h
        exact absurd hgood hbad
    · have hpace : ownPaceGood (.complete span heard mark) = false :=
        Bool.eq_false_iff.2 fun h => hgood ((paceGood_iff span).1 h)
      rw [sendEnded_of_badPace hport hshift hpace] at hexec
      refine ⟨_, hexec, hempty, hspan, nofun, nofun, nofun, fun _ _ _ _ _ => hcollides, fun _ _ h hgood' => ?_,
        fun _ _ h hgood' => ?_⟩ <;>
      · obtain ⟨rfl, -, -⟩ := SendEnd.complete.inj h
        exact absurd hgood' hgood
  | lostArbitration span =>
    by_cases hgood : 3400 ≤ span ∧ span ≤ 4600
    · rw [sendEnded_lostArbitration hport hshift ((paceGood_iff span).2 hgood)] at hexec
      have habandoned : Abandoned s b (s.setPort { handBack (spanKept (.lostArbitration span) s.port) with
          port := .receive, recessive := 0, lostArbitrations := satSucc 255 s.port.lostArbitrations }) :=
        abandoned_of_slots hshift rfl rfl
      refine ⟨_, hexec, hempty, hspan, nofun, fun _ h => ?_, nofun, nofun,
        nofun, nofun⟩
      obtain rfl := SendEnd.lostArbitration.inj h
      exact ⟨fun h => absurd hgood h, fun _ => ⟨habandoned, rfl, hcollisions, rfl⟩⟩
    · have hpace : ownPaceGood (.lostArbitration span) = false :=
        Bool.eq_false_iff.2 fun h => hgood ((paceGood_iff span).1 h)
      rw [sendEnded_of_badPace hport hshift hpace] at hexec
      refine ⟨_, hexec, hempty, hspan, nofun, fun _ h => ?_, nofun, nofun, nofun, nofun⟩
      obtain rfl := SendEnd.lostArbitration.inj h
      exact ⟨fun _ => hcollides, fun h => absurd h hgood⟩
  | bitCollision span =>
    rw [sendEnded_bitCollision hport hshift] at hexec
    refine ⟨_, hexec, hempty, ?_, fun _ _ => hcollides, nofun, nofun, nofun, nofun, nofun⟩
    cases span <;> exact hspan
  | stuck =>
    rw [sendEnded_stuck hport hshift] at hexec
    have habandoned : Abandoned s b (s.setPort { countStuck (handBack (spanKept .stuck s.port)) with
        port := .waitIdle, recessive := 0, stuckCounted := true }) := abandoned_of_slots hshift rfl rfl
    refine ⟨_, hexec, hempty, hspan, nofun, nofun,
      fun _ => ⟨habandoned, rfl, ?_, rfl, hcollisions⟩, nofun, nofun, nofun⟩
    exact congrArg (fun n => min (n + 1) 255) herrors
end

section
/-! The step and the reset state (O1, O53). -/

namespace Sys2Proof.Machine

/-- Where no event of a list is due, none takes place. -/
theorem dueInOrder_of_none_due {events : List Instr} {s : State} (t i : Nat)
    (h : ∀ c ∈ events, isDue s c = false) : dueInOrder t i events s = [] := by
  have hnone : events.filter (isDue s) = [] := List.filter_eq_nil_iff.2 fun c hc => by simp [h c hc]
  rw [dueInOrder, hnone]
  rfl

/-- No timer's event reads an age: it is due before the ages advance where it is due after (log 3). -/
theorem isDue_advanceAges {s : State} {c : Instr} (h : c ∈ timerEvents s) : isDue (advanceAges s) c = isDue s c := by
  obtain h | h := List.mem_append.1 h
  · simp only [List.mem_cons, List.not_mem_nil, or_false] at h
    casesm* _ ∨ _ <;> subst c <;> rfl
  · obtain rfl := List.eq_of_mem_replicate h
    rfl

/-- A tick with nothing due advances the time alone (logs 2 and 32). -/
theorem tick_of_none_due {s : State} (hlive : s.ctl.station ≠ .halt)
    (h : ∀ c ∈ timedEvents (advance s), isDue (advance s) c = false) : tick s = .next (advance s) := by
  have htimers : dueInOrder s.ticks 1 (timerEvents (advanceTimers s)) (advanceTimers s) = [] :=
    dueInOrder_of_none_due _ _ fun c hc =>
      (isDue_advanceAges hc).symm.trans (h c (List.mem_append_left _ hc))
  have hages (i : Nat) : dueInOrder s.ticks i ageEvents (advanceAges (advanceTimers s)) = [] :=
    dueInOrder_of_none_due _ _ fun c hc => h c (List.mem_append_right _ hc)
  have hstation : (s.ctl.station == .halt) = false := by simp [hlive]
  have hstepped (i : Nat) : ageStepped s.ticks i (advanceTimers s) = .next (advance s) := by
    rw [ageStepped, hages]
    rfl
  simp only [tick, hstation, htimers, List.flatMap_nil, List.filter_nil, runDue, thenRun, hstepped]
  rfl

/-! ### The reset state -/

theorem settingsSafe_reset : settingsSafe State.reset = true :=
  (settingsSafe_iff _).2 ⟨settingsValid_default, defaultSettings_length⟩

/-- The rules of the controller and the port. -/
theorem controllerSafe_reset : conditionsSafe State.reset = true ∧ incidentsSafe State.reset = true ∧
    portSafe State.reset = true ∧ failsafeSafe State.reset = true := by decide

/-- The rules of the outputs and the power. -/
theorem powerSafe_reset : switchSafe State.reset = true ∧ outputsSafe State.reset = true ∧
    shareSafe State.reset = true := by decide

/-- The rules of the bridge, the winch and the steering. -/
theorem motionSafe_reset : lockSafe State.reset = true ∧ dwellSafe State.reset = true ∧
    lineEndSafe State.reset = true ∧ servoSafe State.reset = true := by decide

end Sys2Proof.Machine

open Sys2Proof Sys2Proof.Machine

/-- Settles O1: a command at the front is executed; where nothing waits and nothing is due, a tick advances the time. -/
theorem stepRunsFrontCommand : Obligations.StepRunsFrontCommand := by
  refine ⟨fun c rest s hqueue => ?_, fun s hempty hlive hdue => ?_⟩
  · rw [step, hqueue]
  · rw [step, hempty]
    exact tick_of_none_due hlive hdue

/-- Settles O53: block by block, each rule holds of the reset values. -/
theorem resetIsSafe : Obligations.ResetIsSafe := by
  obtain ⟨hconditions, hincidents, hport, hfailsafe⟩ := controllerSafe_reset
  obtain ⟨hswitch, houtputs, hshare⟩ := powerSafe_reset
  obtain ⟨hlock, hdwell, hline, hservo⟩ := motionSafe_reset
  simp only [Obligations.ResetIsSafe, stationSafe, hconditions, hswitch, houtputs, hincidents, hport, hlock, hfailsafe,
    hdwell, hline, settingsSafe_reset, hservo, hshare, Bool.and_self]
end
